-- ==== Sys2Proof/Word.lean ====
section
/-! DEFINITION. The word types of the TM-416's links and converters, and the index types of its numbered parts. -/

namespace Sys2Proof

/-- One byte of a link frame (R178). -/
abbrev Byte := BitVec 8

/-- A two-byte field of a link layout: generations, plan epochs, limits, the figures of a result. -/
abbrev Half := BitVec 16

/-- A four-byte field: cycle numbers and the millisecond clock, which wrap modulo 2^32 (R13, R174). -/
abbrev Word := BitVec 32

/-- A sample: a signed 16-bit count in two's complement (R18). -/
abbrev Sample := BitVec 16

/-- An instant of tracker time, in ticks of 100 ns since power-on reset (R1). -/
abbrev Tick := Nat

/-- Channels 1 to 16; index `i` stands for channel `i + 1`. -/
abbrev Channel := Fin 16

/-- Groups 1 to 4; index `i` stands for group `i + 1`. -/
abbrev Group := Fin 4

/-- Checks 0 to 63, numbered as the manual numbers them. -/
abbrev CheckIx := Fin 64

/-- Slots (strobes) 0 to 127 of a frame. -/
abbrev Slot := Fin 128

/-- Pattern stores 1 to 4; index `i` stands for store `i + 1`. -/
abbrev Store := Fin 4

/-- Harmonic orders 1 to 63; index `i` stands for order `i + 1`. -/
abbrev OrderIx := Fin 63

/-- The two supply references, each with its tracker. -/
inductive Ref where
  | r1
  | r2
deriving DecidableEq, Repr

/-- The two transform engines (R51). -/
inductive Engine where
  | e1
  | e2
deriving DecidableEq, Repr

/-- The three links and the masters behind them. -/
inductive Link where
  | a
  | b
  | m
deriving DecidableEq, Repr

/-- One value for each reference. -/
structure PerRef (α : Type) where
  r1 : α
  r2 : α
deriving DecidableEq, Repr

/-- One value for each engine. -/
structure PerEngine (α : Type) where
  e1 : α
  e2 : α
deriving DecidableEq, Repr

/-- One value for each link. -/
structure PerLink (α : Type) where
  a : α
  b : α
  m : α
deriving DecidableEq, Repr

def PerRef.get {α : Type} (p : PerRef α) : Ref → α
  | .r1 => p.r1
  | .r2 => p.r2

def PerRef.set {α : Type} (p : PerRef α) (r : Ref) (x : α) : PerRef α :=
  match r with
  | .r1 => { p with r1 := x }
  | .r2 => { p with r2 := x }

def PerEngine.get {α : Type} (p : PerEngine α) : Engine → α
  | .e1 => p.e1
  | .e2 => p.e2

def PerEngine.set {α : Type} (p : PerEngine α) (e : Engine) (x : α) : PerEngine α :=
  match e with
  | .e1 => { p with e1 := x }
  | .e2 => { p with e2 := x }

def PerLink.get {α : Type} (p : PerLink α) : Link → α
  | .a => p.a
  | .b => p.b
  | .m => p.m

def PerLink.set {α : Type} (p : PerLink α) (l : Link) (x : α) : PerLink α :=
  match l with
  | .a => { p with a := x }
  | .b => { p with b := x }
  | .m => { p with m := x }

/-- The engine that is not `e`. -/
def Engine.other : Engine → Engine
  | .e1 => .e2
  | .e2 => .e1

/-- The figures an engine computes from a frame (R37, R38, R42): the mean in two's complement, the ripple level,
the 63 harmonic levels, and the saturated flag. -/
structure Figures where
  mean : Half
  ripple : Half
  levels : Vector Half 63
  saturated : Bool
deriving DecidableEq, Repr

end Sys2Proof
end

