-- ==== Sys2Proof/Config.lean ====
section
/-! DEFINITION. What the manual leaves free: the constants of this file have no body, so no proof can see a value. -/

namespace Sys2Proof.Config

/-- Which port runs first when one event frees the command queues of several ports at one instant. The manual says only
that the ports run independently and that commands of different links at one instant may be taken in either order.
The argument counts the choices made so far; the value is read modulo the number of ports that could run. -/
opaque portChoice : Nat → Nat

end Sys2Proof.Config
end

