-- ==== Sys2Proof/Syntax.lean ====
section
/-! DEFINITION. The commands and events of the TM-416: one constructor for each row of the table of operations. -/

namespace Sys2Proof

/-- A stimulus of the part. The operands `l` and `tag` of a link command are the link it comes on and the tag byte of its
frame (R164); the byte operands of a command are its payload fields as they travel (R179), so that a field that
identifies nothing can be sent. An event of the part's own time (a strobe, an expiry) names the part it falls on. -/
inductive Instr where
  /-- POWER_ON_RESET (R3 and the reset values of every block). -/
  | powerOnReset
  /-- EDGE_ACCEPTED (R1, R2): the tracker of `r` accepts the candidate edge. -/
  | edgeAccepted (r : Ref)
  /-- DEADLINE_EXPIRY (R9). -/
  | deadlineExpiry (r : Ref)
  /-- HELD_CYCLE_END (R10). -/
  | heldCycleEnd (r : Ref)
  /-- STROBE (R5): the next strobe, 1 to 127, of the cycle of `r` falls due. -/
  | strobe (r : Ref)
  /-- SAMPLE_ARRIVAL (R17): the conversion of channel `c` marked with `cycle` and `slot` completes; `analog` is the
  analog input in counts, before the limits of the range (R18). -/
  | sampleArrival (c : Channel) (cycle : Word) (slot : Slot) (analog : Int)
  /-- TRANSFORM_COMPLETE (R54): engine `e` completes. `wrong` is `none` for an engine that computes as R36 says, and the
  figures handed on by an engine that has begun to give wrong answers (R61). -/
  | transformComplete (e : Engine) (wrong : Option Figures)
  /-- STOP_INPUT_CHANGE (R120): the stop input changes to `asserted`. -/
  | stopInputChange (asserted : Bool)
  /-- IN_SERVICE_RISE (R97). -/
  | inServiceRise (g : Group)
  /-- IN_SERVICE_FALL (R123). -/
  | inServiceFall (g : Group)
  /-- QUIET_END (R102). -/
  | quietEnd (g : Group)
  /-- READ_STATUS (R175). -/
  | readStatus (l : Link) (tag : Byte)
  /-- READ_STATS (R176): selector kind, number, clear option. -/
  | readStats (l : Link) (tag kind number clear : Byte)
  /-- READ_NOTICES (R172). -/
  | readNotices (l : Link) (tag maximum : Byte)
  /-- SET_NOTICE_MASK (R170). -/
  | setNoticeMask (l : Link) (tag mask : Byte)
  /-- CLEAR_OVERFLOW (R171). -/
  | clearOverflow (l : Link) (tag : Byte)
  /-- DRAIN_WAIT (R169). -/
  | drainWait (l : Link) (tag : Byte)
  /-- DRAIN_TIMEOUT (R169): the drain of link `l` reaches 1000 ms. -/
  | drainTimeout (l : Link)
  /-- READ_RESULT (R77): channel and order list. -/
  | readResult (l : Link) (tag channel : Byte) (orders : List Byte)
  /-- READ_CHECKS (R107). -/
  | readChecks (l : Link) (tag first count : Byte)
  /-- READ_GROUP (R126). -/
  | readGroup (l : Link) (tag group : Byte)
  /-- READ_ENTRY (R148): plan, item kind, item number. -/
  | readEntry (l : Link) (tag plan kind number : Byte)
  /-- OPEN_STAGING (R132). -/
  | openStaging (l : Link) (tag : Byte)
  /-- WRITE_ENTRY (R133): item kind, item number, the item's bytes. -/
  | writeEntry (l : Link) (tag kind number : Byte) (item : List Byte)
  /-- SEAL (R135). -/
  | seal (l : Link) (tag : Byte)
  /-- DISCARD_STAGING (R140). -/
  | discardStaging (l : Link) (tag : Byte)
  /-- ACCEPT_PLAN (R141). -/
  | acceptPlan (l : Link) (tag : Byte) (generation : Half)
  /-- ACCEPT_WINDOW_EXPIRY (R142). -/
  | acceptWindowExpiry
  /-- CLEAR_LATCH (R104). -/
  | clearLatch (l : Link) (tag check : Byte)
  /-- START_QUIET (R103). -/
  | startQuiet (l : Link) (tag group : Byte)
  /-- RESTORE_PERMIT (R118). -/
  | restorePermit (l : Link) (tag group : Byte)
  /-- RESTORE_WINDOW_EXPIRY (R119). -/
  | restoreWindowExpiry (g : Group)
  /-- CLEAR_FAULTS (R67). -/
  | clearFaults (l : Link) (tag : Byte)
  /-- ENGINE_SERVICE_IN (R65): ENGINE SERVICE with a direction other than out; direction 1 is in, and any other is
  MALFORMED at the field test. -/
  | engineServiceIn (l : Link) (tag engine direction : Byte)
  /-- ENGINE_SERVICE_OUT (R66): ENGINE SERVICE with direction 0, out. -/
  | engineServiceOut (l : Link) (tag engine : Byte)
  /-- TEST_GRANT (R150). -/
  | testGrant (l : Link) (tag group : Byte) (seconds : Half)
  /-- OFFER_WINDOW_EXPIRY (R152). -/
  | offerWindowExpiry (g : Group)
  /-- TEST_END (R157). -/
  | testEnd (l : Link) (tag group : Byte)
  /-- TEST_RUN_EXPIRY (R157). -/
  | testRunExpiry (g : Group)
  /-- LOAD_PATTERN (R154): store, starting slot, samples. -/
  | loadPattern (l : Link) (tag store slot : Byte) (samples : List Half)
  /-- TEST_SOURCE (R155). -/
  | testSource (l : Link) (tag channel source : Byte)
  /-- UNKNOWN_COMMAND (R165): a command frame of unknown code or of a length its code does not call for. -/
  | unknownCommand (l : Link) (tag code : Byte) (payload : List Byte)
  /-- DROPPED_FRAME (R162): a command frame is taken on link `l` at outstanding count 16. -/
  | droppedFrame (l : Link)
  /-- TRANSFER_OUT (R163): a transfer out of the part begins on link `l`. -/
  | transferOut (l : Link)
  /-- REPLY_READ (R163): the last byte of a reply is clocked out. -/
  | replyRead (l : Link)
  /-- RESUME (R167), a control frame. -/
  | resume (l : Link)
  /-- LINK_RESET (R168), a control frame. -/
  | linkReset (l : Link)
  /-- SYNC_INPUT_SAMPLE (R1): the tracker of `r` samples its sync input, high or low. -/
  | syncInputSample (r : Ref) (high : Bool)
deriving DecidableEq, Repr

end Sys2Proof
end

