-- ==== Sys2Proof/Decode.lean ====
section
/-! DEFINITION. The link codec of R178 and R179: byte order, command frames and their bytes, the commands they carry, and
the frame step that reads a command from a frame. The opcode table gives no row any bits, so `decodeTableWord` spells nothing. -/

namespace Sys2Proof

/-! ### Byte order (R178: little-endian, two's complement) -/

def le16 (h : Half) : List Byte := [h.extractLsb' 0 8, h.extractLsb' 8 8]

def le32 (w : Word) : List Byte :=
  [w.extractLsb' 0 8, w.extractLsb' 8 8, w.extractLsb' 16 8, w.extractLsb' 24 8]

/-- The two-byte field whose low byte is `lo` and high byte is `hi`. -/
def half (lo hi : Byte) : Half := hi ++ lo

/-- A count sent in one byte. -/
def byteOf (n : Nat) : Byte := BitVec.ofNat 8 n

/-- A count sent in two bytes. -/
def halfOf (n : Nat) : Half := BitVec.ofNat 16 n

/-- Bit `k` of a byte. -/
def bitOf (b : Byte) (k : Nat) : Bool := b.getLsbD k

/-- The byte whose bit `k` is the `k`-th flag of the list, the rest 0. That the bits to which an output layout gives no field
are 0 is the spec's for the link status byte and the model's choice for the records of 11.4 and 11.5 (log entry 36). -/
def byteOfFlags (flags : List Bool) : Byte :=
  byteOf (flags.foldr (fun b n => b.toNat + 2 * n) 0)

/-- The samples of a payload of two-byte fields; an odd number of bytes is no list of samples (R179). -/
def halvesOf : List Byte → Option (List Half)
  | [] => some []
  | [_] => none
  | lo :: hi :: rest => (halvesOf rest).map (half lo hi :: ·)

/-- The bytes of a list of two-byte fields. -/
def bytesOfHalves (hs : List Half) : List Byte := hs.flatMap le16

/-! ### Number fields (R179: a single-byte number field carries its value directly) -/

/-- The index of a thing numbered from 1 to `n`. -/
def indexFrom1 (n : Nat) (b : Byte) : Option (Fin n) :=
  if h : 0 < b.toNat ∧ b.toNat ≤ n then some ⟨b.toNat - 1, by omega⟩ else none

/-- The index of a thing numbered from 0 to `n - 1`. -/
def indexFrom0 (n : Nat) (b : Byte) : Option (Fin n) :=
  if h : b.toNat < n then some ⟨b.toNat, h⟩ else none

/-- The number under which the index `i` travels when numbering starts at 1. -/
def numberFrom1 {n : Nat} (i : Fin n) : Byte := byteOf (i.val + 1)

def refOfByte (b : Byte) : Option Ref :=
  if b = 1 then some .r1 else if b = 2 then some .r2 else none

def Ref.number : Ref → Byte
  | .r1 => 1
  | .r2 => 2

def engineOfByte (b : Byte) : Option Engine :=
  if b = 1 then some .e1 else if b = 2 then some .e2 else none

def Engine.number : Engine → Byte
  | .e1 => 1
  | .e2 => 2

/-- The code of a link in a notice, a status record and a group record: 1 A, 2 B, 3 M (R180, 11.4). -/
def Link.code : Link → Byte
  | .a => 1
  | .b => 2
  | .m => 3

/-! ### Command frames -/

/-- A command frame as it is clocked in (R178): code, tag and payload. -/
structure CmdFrame where
  code : Byte
  tag : Byte
  payload : List Byte
deriving DecidableEq, Repr

/-- The bytes in which a frame is clocked in: the header of code, tag and payload length L, then the payload (R178). -/
def CmdFrame.bytes (f : CmdFrame) : List Byte := [f.code, f.tag, byteOf f.payload.length] ++ f.payload

/-- The frame that a string of bytes clocked into the part brings: it is taken when the last of its 3 + L bytes has been
clocked in, L being its third byte (R178). Fewer bytes, or more, are no one frame. -/
def frameOfBytes : List Byte → Option CmdFrame
  | code :: tag :: length :: payload =>
    if payload.length = length.toNat then some { code := code, tag := tag, payload := payload } else none
  | _ => none

/-- What a command frame of a known code and a right length says (R179). Fields are the payload's bytes. -/
inductive Command where
  | readStatus
  | readStats (kind number clear : Byte)
  | readNotices (maximum : Byte)
  | setNoticeMask (mask : Byte)
  | clearOverflow
  | drainWait
  | readResult (channel : Byte) (orders : List Byte)
  | readChecks (first count : Byte)
  | readGroup (group : Byte)
  | readEntry (plan kind number : Byte)
  | openStaging
  | writeEntry (kind number : Byte) (item : List Byte)
  | seal
  | discardStaging
  | acceptPlan (generation : Half)
  | clearLatch (check : Byte)
  | startQuiet (group : Byte)
  | restorePermit (group : Byte)
  | clearFaults
  | engineService (engine direction : Byte)
  | testGrant (group : Byte) (seconds : Half)
  | testEnd (group : Byte)
  | loadPattern (store slot : Byte) (samples : List Half)
  | testSource (channel source : Byte)
deriving DecidableEq, Repr

/-- The size in bytes of a plan item of the kind sent as `kind` (11.3), or `none` for an unknown kind. -/
def itemSize (kind : Byte) : Option Nat :=
  match kind.toNat with
  | 1 => some 14
  | 2 => some 7
  | 3 => some 3
  | 4 => some 2
  | 5 => some 2
  | 6 => some 16
  | _ => none

/-- The command code of R179. -/
def Command.code : Command → Byte
  | .readStatus => 0x01
  | .readStats _ _ _ => 0x02
  | .readNotices _ => 0x03
  | .setNoticeMask _ => 0x04
  | .clearOverflow => 0x05
  | .drainWait => 0x06
  | .readResult _ _ => 0x10
  | .readChecks _ _ => 0x11
  | .readGroup _ => 0x12
  | .readEntry _ _ _ => 0x13
  | .openStaging => 0x20
  | .writeEntry _ _ _ => 0x21
  | .seal => 0x22
  | .discardStaging => 0x23
  | .acceptPlan _ => 0x24
  | .clearLatch _ => 0x30
  | .startQuiet _ => 0x31
  | .restorePermit _ => 0x32
  | .clearFaults => 0x33
  | .engineService _ _ => 0x34
  | .testGrant _ _ => 0x40
  | .testEnd _ => 0x41
  | .loadPattern _ _ _ => 0x42
  | .testSource _ _ => 0x43

/-- The payload of R179. -/
def Command.payload : Command → List Byte
  | .readStatus => []
  | .readStats k n c => [k, n, c]
  | .readNotices x => [x]
  | .setNoticeMask x => [x]
  | .clearOverflow => []
  | .drainWait => []
  | .readResult c orders => c :: orders
  | .readChecks f n => [f, n]
  | .readGroup g => [g]
  | .readEntry p k n => [p, k, n]
  | .openStaging => []
  | .writeEntry k n item => k :: n :: item
  | .seal => []
  | .discardStaging => []
  | .acceptPlan g => le16 g
  | .clearLatch c => [c]
  | .startQuiet g => [g]
  | .restorePermit g => [g]
  | .clearFaults => []
  | .engineService e d => [e, d]
  | .testGrant g secs => g :: le16 secs
  | .testEnd g => [g]
  | .loadPattern st sl xs => st :: sl :: bytesOfHalves xs
  | .testSource c x => [c, x]

/-- The frame in which a master sends a command with a tag. -/
def Command.frame (tag : Byte) (c : Command) : CmdFrame :=
  { code := c.code, tag := tag, payload := c.payload }

/-- The lengths a command's own count fields allow: a payload has at most 255 bytes (R178), and the item of a WRITE
ENTRY has its kind's size. -/
def Command.fits : Command → Bool
  | .readResult _ orders => decide (orders.length ≤ 254)
  | .writeEntry k _ item => decide (itemSize k = some item.length)
  | .loadPattern _ _ xs => decide (xs.length ≤ 126)
  | _ => true

def parse0 (c : Command) : List Byte → Option Command
  | [] => some c
  | _ => none

def parse1 (f : Byte → Command) : List Byte → Option Command
  | [x] => some (f x)
  | _ => none

def parse2 (f : Byte → Byte → Command) : List Byte → Option Command
  | [x, y] => some (f x y)
  | _ => none

def parse3 (f : Byte → Byte → Byte → Command) : List Byte → Option Command
  | [x, y, z] => some (f x y z)
  | _ => none

/-- READ RESULT has a length of 1 to 255. -/
def parseReadResult : List Byte → Option Command
  | c :: orders => if orders.length ≤ 254 then some (.readResult c orders) else none
  | [] => none

/-- WRITE ENTRY has length 2 + item size; an unknown item kind calls for no length, so the frame is MALFORMED
(R133, R179). -/
def parseWriteEntry : List Byte → Option Command
  | k :: n :: item => if itemSize k = some item.length then some (.writeEntry k n item) else none
  | _ => none

/-- LOAD PATTERN has length 2 + 2n; an odd length is a wrong one. -/
def parseLoadPattern : List Byte → Option Command
  | st :: sl :: bytes =>
    match halvesOf bytes with
    | some xs => if xs.length ≤ 126 then some (.loadPattern st sl xs) else none
    | none => none
  | _ => none

/-- The frame step of R165: the command a frame carries, or `none` for an unknown code or a wrong length. -/
def parse (f : CmdFrame) : Option Command :=
  match f.code.toNat with
  | 0x01 => parse0 .readStatus f.payload
  | 0x02 => parse3 .readStats f.payload
  | 0x03 => parse1 .readNotices f.payload
  | 0x04 => parse1 .setNoticeMask f.payload
  | 0x05 => parse0 .clearOverflow f.payload
  | 0x06 => parse0 .drainWait f.payload
  | 0x10 => parseReadResult f.payload
  | 0x11 => parse2 .readChecks f.payload
  | 0x12 => parse1 .readGroup f.payload
  | 0x13 => parse3 .readEntry f.payload
  | 0x20 => parse0 .openStaging f.payload
  | 0x21 => parseWriteEntry f.payload
  | 0x22 => parse0 .seal f.payload
  | 0x23 => parse0 .discardStaging f.payload
  | 0x24 => parse2 (fun lo hi => .acceptPlan (half lo hi)) f.payload
  | 0x30 => parse1 .clearLatch f.payload
  | 0x31 => parse1 .startQuiet f.payload
  | 0x32 => parse1 .restorePermit f.payload
  | 0x33 => parse0 .clearFaults f.payload
  | 0x34 => parse2 .engineService f.payload
  | 0x40 => parse3 (fun g lo hi => .testGrant g (half lo hi)) f.payload
  | 0x41 => parse1 .testEnd f.payload
  | 0x42 => parseLoadPattern f.payload
  | 0x43 => parse2 .testSource f.payload
  | _ => none

/-- The codes of the two control frames, taken with an empty payload (R178). -/
def isControl (f : CmdFrame) : Bool :=
  (f.code == 0xF0 || f.code == 0xF1) && f.payload.isEmpty

/-- The command frame a row of the table stands for, with its link, for the rows that are commands. -/
def Instr.frame : Instr → Option (Link × CmdFrame)
  | .readStatus l t => some (l, Command.readStatus.frame t)
  | .readStats l t k n c => some (l, (Command.readStats k n c).frame t)
  | .readNotices l t x => some (l, (Command.readNotices x).frame t)
  | .setNoticeMask l t x => some (l, (Command.setNoticeMask x).frame t)
  | .clearOverflow l t => some (l, Command.clearOverflow.frame t)
  | .drainWait l t => some (l, Command.drainWait.frame t)
  | .readResult l t c o => some (l, (Command.readResult c o).frame t)
  | .readChecks l t f n => some (l, (Command.readChecks f n).frame t)
  | .readGroup l t g => some (l, (Command.readGroup g).frame t)
  | .readEntry l t p k n => some (l, (Command.readEntry p k n).frame t)
  | .openStaging l t => some (l, Command.openStaging.frame t)
  | .writeEntry l t k n item => some (l, (Command.writeEntry k n item).frame t)
  | .seal l t => some (l, Command.seal.frame t)
  | .discardStaging l t => some (l, Command.discardStaging.frame t)
  | .acceptPlan l t g => some (l, (Command.acceptPlan g).frame t)
  | .clearLatch l t c => some (l, (Command.clearLatch c).frame t)
  | .startQuiet l t g => some (l, (Command.startQuiet g).frame t)
  | .restorePermit l t g => some (l, (Command.restorePermit g).frame t)
  | .clearFaults l t => some (l, Command.clearFaults.frame t)
  | .engineServiceIn l t e d => some (l, (Command.engineService e d).frame t)
  | .engineServiceOut l t e => some (l, (Command.engineService e 0).frame t)
  | .testGrant l t g secs => some (l, (Command.testGrant g secs).frame t)
  | .testEnd l t g => some (l, (Command.testEnd g).frame t)
  | .loadPattern l t st sl xs => some (l, (Command.loadPattern st sl xs).frame t)
  | .testSource l t c x => some (l, (Command.testSource c x).frame t)
  | .unknownCommand l t code payload => some (l, { code := code, tag := t, payload := payload })
  | .powerOnReset | .edgeAccepted _ | .deadlineExpiry _ | .heldCycleEnd _ | .strobe _
  | .sampleArrival _ _ _ _ | .transformComplete _ _ | .stopInputChange _ | .inServiceRise _
  | .inServiceFall _ | .quietEnd _ | .drainTimeout _ | .acceptWindowExpiry | .restoreWindowExpiry _
  | .offerWindowExpiry _ | .testRunExpiry _ | .droppedFrame _ | .transferOut _ | .replyRead _
  | .resume _ | .linkReset _ | .syncInputSample _ _ => none

/-- The table gives no row any bits: no word spells a command. -/
def decodeTableWord (_nbits _w : Nat) : Option Instr := none

end Sys2Proof
end

