-- ==== Sys2Proof/Machine/State.lean ====
section
/-! DEFINITION. Everything the manual says the TM-416 holds, block by block, as plain data, and its value after power-on
reset. Fields that are the model's own are marked so. -/

namespace Sys2Proof.Machine

/-! ### The check plan (R80, R128) -/

inductive CheckClass where
  | warn
  | trip
deriving DecidableEq, Repr

/-- The trip term a check belongs to. -/
inductive Term where
  | t1
  | t2
deriving DecidableEq, Repr

inductive Quantity where
  | mean
  | ripple
  | factor
  | distortion
  | weighted
  | level
  | spread
deriving DecidableEq, Repr

inductive Sense where
  | outside
  | inside
deriving DecidableEq, Repr

/-- A check entry (R80). `low` and `high` are kept as they travel: read as signed for MEAN, unsigned otherwise. -/
structure CheckEntry where
  enabled : Bool
  cls : CheckClass
  term : Term
  channel : Channel
  quantity : Quantity
  /-- The harmonic order, 1 to 63. -/
  order : Nat
  second : Channel
  low : Half
  high : Half
  sense : Sense
  persistence : Nat
  release : Nat
  tallyLimit : Nat
  observeQuiet : Bool
deriving DecidableEq, Repr

structure ChannelSettings where
  enabled : Bool
  group : Group
  basePriority : Nat
  meanFloor : Nat
  fundFloor : Nat
deriving DecidableEq, Repr

inductive Combine where
  | or
  | and
deriving DecidableEq, Repr

inductive Repermit where
  | auto
  | manual
deriving DecidableEq, Repr

inductive BlindPolicy where
  | withdraw
  | keep
deriving DecidableEq, Repr

structure GroupSettings where
  ref : Ref
  combine : Combine
  repermit : Repermit
  blind : BlindPolicy
  quietCode : Nat
  evaluateHeld : Bool
deriving DecidableEq, Repr

structure RefSettings where
  filterLength : Nat
  holdLimit : Nat
deriving DecidableEq, Repr

/-- The parts of a plan (R128). The generation that names it stands beside it in the plan store. -/
structure Plan where
  checks : Vector CheckEntry 64
  channels : Vector ChannelSettings 16
  groups : Vector GroupSettings 4
  refs : PerRef RefSettings
  auditInterval : Nat
  guardLevel : Nat
  /-- Index `i` holds the weight of order `i + 1`. -/
  weights : Vector Nat 63
deriving DecidableEq, Repr

/-- The staging of the plan store (R130). The lock holds a link only while the staging is OPEN; a generation is proposed
and an accept can be recorded (with its clock value) only while it is SEALED. -/
inductive Staging where
  | empty
  | opened (staged : Plan) (holder : Link)
  | sealed (staged : Plan) (generation : Half) (accept : Option (Link × Word))
deriving DecidableEq, Repr

structure PlanStore where
  active : Plan
  generation : Half
  staging : Staging
deriving DecidableEq, Repr

/-! ### Reference trackers (R1, R3, R16) -/

inductive TrackerMode where
  | seeking
  | locked
  | holding
deriving DecidableEq, Repr

/-- The counters of a reference (R16), each 0 to 65535. -/
structure RefCounters where
  spurious : Nat
  locks : Nat
  holds : Nat
  losses : Nat
deriving DecidableEq, Repr

structure Tracker where
  mode : TrackerMode
  /-- The filtered level, high or low (R1). -/
  filtered : Bool
  /-- The level of the last input sample: the level of the run in progress (R1). -/
  level : Bool
  /-- The length of the run in progress, in samples. -/
  run : Nat
  /-- The candidate edge: the instant of the first high sample of an unbroken run of high samples. -/
  candidate : Option Tick
  previousEdge : Option Tick
  /-- The period in use T, in ticks. -/
  period : Nat
  /-- The cycle start s. -/
  start : Option Tick
  deadline : Option Tick
  /-- The number of the next strobe, 0 to 128. -/
  nextStrobe : Option Nat
  heldCount : Nat
  cycle : Word
  counters : RefCounters
  /-- The model's own: the tick of the next input sample (a whole multiple of 10, R1). -/
  nextSample : Tick
  /-- The model's own: the instant of an edge accepted at the last input sample (R1) and still to be acted on at this
  same tick. -/
  accepting : Option Tick
deriving DecidableEq, Repr

/-! ### Converters and the frame assembler (R17 to R35) -/

/-- The source of a channel's samples (R18). -/
inductive Source where
  | live
  | pattern (p : Store)
deriving DecidableEq, Repr

/-- A conversion in progress (R17), marked with its cycle number and slot. -/
structure Conversion where
  cycle : Word
  slot : Slot
  /-- The source the converter read at strobe 0 of the cycle (R18). -/
  source : Source
  /-- The tick at which its strobe was issued. -/
  issued : Tick
  /-- Clear once an activation has disabled or changed the channel: the sample is not handed to the assembler
  (R17, R33, R34). -/
  handed : Bool
deriving DecidableEq, Repr

structure Converter where
  /-- Set from strobe 0 of a cycle start of the channel's reference under the plan that enabled it (R17). -/
  armed : Bool
  /-- The source read at strobe 0 of the cycle in progress. -/
  latched : Source
  inFlight : List Conversion
deriving DecidableEq, Repr

/-- A frame record (R19). What `priority` and `joinOrder` hold before the close and the join that set them is the
model's choice (log entry 37). -/
structure Frame where
  channel : Channel
  ref : Ref
  cycle : Word
  epoch : Half
  /-- The source the frame started with: its test flag is set exactly when this is a pattern (R21). -/
  source : Source
  samples : Vector (Option Sample) 128
  heldFlag : Bool
  clipped : Bool
  priority : Nat
  joinOrder : Nat
  audit : Bool
  /-- The engines-with field. -/
  engines : PerEngine Bool
deriving DecidableEq, Repr

/-- A pending start: the next cycle's frame, and the slot 0 sample kept for it (R21, R22). -/
structure PendingStart where
  frame : Frame
  kept : Option (Slot × Sample)
deriving DecidableEq, Repr

/-- The filling buffer (R19). -/
inductive FillBuffer where
  | idle
  | filling (f : Frame)
  | closing (f : Frame) (next : Option PendingStart)
deriving DecidableEq, Repr

/-- The counters of a channel (R35), each 0 to 65535. -/
structure ChannelCounters where
  closed : Nat
  superseded : Nat
  lost : Nat
  short : Nat
  clipped : Nat
deriving DecidableEq, Repr

structure Buffers where
  fill : FillBuffer
  held : Option Frame
  epoch : Half
  counters : ChannelCounters
deriving DecidableEq, Repr

/-! ### Engines and the audit unit (R43, R51 to R68) -/

inductive Service where
  | inService
  | stopping
  | out
deriving DecidableEq, Repr

/-- What completing a transform does with its result (R54). -/
inductive AuditRole where
  /-- A frame not marked audit. -/
  | plain
  /-- An audit frame whose two results are to be compared. -/
  | pair
  /-- An audit frame whose audit has been abandoned (R63). -/
  | abandoned
  /-- An audit frame an activation removed from the queue before its second take (R64). -/
  | removed
deriving DecidableEq, Repr

structure Hand where
  frame : Frame
  role : AuditRole
  /-- The tick of the take (R54). -/
  taken : Tick
deriving DecidableEq, Repr

structure EngineSlot where
  service : Service
  hand : Option Hand
  /-- The cycle number of the last frame the engine took, 0 if none since reset (R68). -/
  lastCycle : Word
deriving DecidableEq, Repr

/-- A transform result (R43). `join` names the frame it was computed from, for the settling. -/
structure TransformResult where
  join : Nat
  channel : Channel
  ref : Ref
  cycle : Word
  epoch : Half
  heldFlag : Bool
  clipped : Bool
  test : Bool
  unaudited : Bool
  figures : Figures
deriving DecidableEq, Repr

/-- The first result of an audit pair, kept for the comparison (R59). -/
structure Kept where
  engine : Engine
  result : TransformResult
deriving DecidableEq, Repr

inductive FaultQuantity where
  | mean
  | ripple
  | level (h : OrderIx)
deriving DecidableEq, Repr

/-- A fault record (R62). -/
structure FaultRecord where
  channel : Channel
  cycle : Word
  quantity : FaultQuantity
  value1 : Half
  value2 : Half
deriving DecidableEq, Repr

structure AuditUnit where
  counter : Nat
  auditAll : Bool
  mismatches : Nat
  skips : Nat
  first : Option FaultRecord
  latest : Option FaultRecord
  overflow : Bool
  kept : Vector (Option Kept) 16
deriving DecidableEq, Repr

/-! ### The result table (R69) -/

structure ResultRecord where
  ref : Ref
  cycle : Word
  generation : Half
  figures : Figures
  heldFlag : Bool
  clipped : Bool
  test : Bool
  unaudited : Bool
deriving DecidableEq, Repr

/-! ### Checks and verdicts (R81, R109) -/

inductive CheckState where
  | off
  | clear
  | rising
  | active
  | falling
  | latched
  | suspended
deriving DecidableEq, Repr

structure CheckStatus where
  state : CheckState
  run : Nat
  tally : Nat
  /-- The last value and last cycle, written together; `none` while absent. -/
  last : Option (Int × Word)
deriving DecidableEq, Repr

inductive TermState where
  | empty
  | notAsserting
  | asserting
deriving DecidableEq, Repr

/-- A reason set (R109): each reason is a member or it is not. -/
structure Reasons where
  unplanned : Bool
  trip : Bool
  restore : Bool
  stop : Bool
  blind : Bool
  test : Bool
deriving DecidableEq, Repr

structure Verdict where
  term1 : TermState
  term2 : TermState
  trip : Bool
  warn : Bool
  reasons : Reasons
  /-- The recorded restore: its link, and the clock value at which it was recorded. -/
  restore : Option (Link × Word)
  restoreDuringTest : Bool
  /-- The permit output: GIVEN or WITHDRAWN. -/
  given : Bool
deriving DecidableEq, Repr

/-! ### The test unit (R149) -/

inductive TestState where
  | idle
  /-- OFFERED: the offer record holds the offering link, the duration in seconds and the clock value of the offer. -/
  | offered (by_ : Link) (seconds : Nat) (at_ : Word)
  /-- RUNNING, with its run time end. -/
  | running (endAt : Word)
deriving DecidableEq, Repr

/-! ### Notices (R15, R68, R106, R125, R147, R159) -/

/-- The staging states a PLAN notice names (R147). -/
inductive PlanPhase where
  | empty
  | opened
  | sealed
  | activated
deriving DecidableEq, Repr

inductive TestPhase where
  | idle
  | offered
  | running
deriving DecidableEq, Repr

/-- The cause with which an offer or a test ends (R152, R157). -/
inductive TestCause where
  | windowExpired
  | notOutOfService
  | testEnd
  | linkReset
  | expired
  | breakerClosed
  | plan
deriving DecidableEq, Repr

inductive TestDetail where
  | duration (seconds : Nat)
  | cause (c : TestCause)
deriving DecidableEq, Repr

inductive NoticeBody where
  | check (i : CheckIx) (cycle : Word) (old new : CheckState) (tally : Nat)
  | permit (g : Group) (cycle : Word) (oldGiven newGiven : Bool) (reasons : Reasons)
  | plan (link : Option Link) (old new : PlanPhase) (generation : Half)
  | sync (r : Ref) (cycle : Word) (old new : TrackerMode) (frequency : Nat)
  | mismatch (c : Channel) (cycle : Word) (oldAll newAll : Bool) (count : Nat)
  | engine (e : Engine) (cycle : Word) (old new : Service) (abandoned : Nat)
  | test (g : Group) (old new : TestPhase) (detail : TestDetail)
deriving DecidableEq, Repr

structure Notice where
  stamp : Word
  body : NoticeBody
deriving DecidableEq, Repr

/-! ### Link ports (R161) -/

inductive ReplyCode where
  | ok
  | notPermitted
  | locked
  | notOwner
  | wrongState
  | stale
  | guarded
  | planErrors
  | notOutOfService
  | inUse
  | lastEngine
  | stillTripped
  | noResult
  | timeout
  | malformed
deriving DecidableEq, Repr

/-- A reply frame (R178): the code of the command answered, its tag, the reply code and the body. -/
structure Reply where
  command : Byte
  tag : Byte
  code : ReplyCode
  body : List Byte
deriving DecidableEq, Repr

/-- A DRAIN WAIT in progress (R169): its tag, the join orders of the awaited frames not yet settled, how many frames it
took, and the clock value of its start. -/
structure Drain where
  tag : Byte
  awaiting : List Nat
  count : Nat
  started : Word
deriving DecidableEq, Repr

/-- For each notice kind, whether the port keeps it (R161). -/
structure NoticeMask where
  check : Bool
  permit : Bool
  plan : Bool
  sync : Bool
  engine : Bool
  test : Bool
deriving DecidableEq, Repr

/-- A link port (R161). The outstanding count is computed from it, as R161 says it always can be. -/
structure Port where
  queue : List CmdFrame
  replies : List Reply
  drain : Option Drain
  halted : Bool
  dropped : Bool
  log : List Notice
  overflow : Bool
  mask : NoticeMask
deriving DecidableEq, Repr

/-- The model's own: what the master has clocked out of a link at the last TRANSFER_OUT and the last REPLY_READ. -/
structure Wire where
  status : Byte
  bytes : List Byte
deriving DecidableEq, Repr

/-! ### The whole part -/

structure State where
  /-- Tracker time, in ticks since power-on reset. -/
  now : Tick
  /-- The millisecond clock (R174). -/
  clock : Word
  trackers : PerRef Tracker
  converters : Vector Converter 16
  buffers : Vector Buffers 16
  /-- The frame queue in queue order (R28): each entry names the channel whose held buffer holds the queued frame. -/
  queue : List Channel
  /-- The model's own: the tick at which a frame last joined the queue, `none` while none has since power-on reset. -/
  lastJoin : Option Tick
  engines : PerEngine EngineSlot
  audit : AuditUnit
  records : Vector (Option ResultRecord) 16
  checks : Vector CheckStatus 64
  quiet : Vector Nat 4
  /-- The model's own: a cycle start has brought the group's quiet counter to its last decrement, which QUIET_END makes
  at this same tick. -/
  quietEndDue : Vector Bool 4
  verdicts : Vector Verdict 4
  alert : Bool
  planStore : PlanStore
  tests : Vector TestState 4
  sources : Vector Source 16
  patterns : Vector (Vector Sample 128) 4
  ports : PerLink Port
  /-- The level of each in-service input: high while the group's breaker is closed. -/
  inService : Vector Bool 4
  /-- The level of the stop input. -/
  stopInput : Bool
  wires : PerLink Wire
  /-- The model's own: how many choices of `Config.portChoice` have been made. -/
  choices : Nat
  /-- The commands and events that wait, first in first out. -/
  pending : List Instr
deriving DecidableEq, Repr

/-- Nothing in the manual stops the part: no step ends in a fault. -/
inductive Fault where
deriving DecidableEq, Repr

/-- Why a command has no meaning. -/
inductive Refusal where
  /-- Raised by an arm of `exec` for a command that has no meaning in the model yet; safe, since nothing can be proved
  about the command. -/
  | notModelled (mnemonic : String)
deriving DecidableEq, Repr

/-! ### Values after power-on reset -/

/-- The default check entry (R129). -/
def CheckEntry.default : CheckEntry :=
  { enabled := false, cls := .warn, term := .t1, channel := 0, quantity := .mean, order := 1, second := 0, low := 0,
    high := 0, sense := .outside, persistence := 1, release := 1, tallyLimit := 0, observeQuiet := false }

/-- The default plan (R129). -/
def Plan.default : Plan :=
  { checks := Vector.replicate 64 CheckEntry.default
    channels := Vector.replicate 16
      { enabled := false, group := 0, basePriority := 0, meanFloor := 0, fundFloor := 0 }
    groups := Vector.replicate 4
      { ref := .r1, combine := .or, repermit := .manual, blind := .withdraw, quietCode := 0, evaluateHeld := true }
    refs := ⟨{ filterLength := 4, holdLimit := 10 }, { filterLength := 4, holdLimit := 10 }⟩
    auditInterval := 16
    guardLevel := 0
    weights := Vector.replicate 63 0 }

/-- A tracker after power-on reset (R1, R3). -/
def Tracker.reset : Tracker :=
  { mode := .seeking, filtered := false, level := false, run := 0, candidate := none, previousEdge := none,
    period := 200000, start := none, deadline := none, nextStrobe := none, heldCount := 0, cycle := 0,
    counters := { spurious := 0, locks := 0, holds := 0, losses := 0 }, nextSample := 10, accepting := none }

/-- A channel's buffers after power-on reset (R19, R20, R35). -/
def Buffers.reset : Buffers :=
  { fill := .idle, held := none, epoch := 0,
    counters := { closed := 0, superseded := 0, lost := 0, short := 0, clipped := 0 } }

/-- An engine after power-on reset (R51): IN SERVICE and idle. -/
def EngineSlot.reset : EngineSlot := { service := .inService, hand := none, lastCycle := 0 }

/-- The audit unit after power-on reset (R56 to R62). -/
def AuditUnit.reset : AuditUnit :=
  { counter := 0, auditAll := false, mismatches := 0, skips := 0, first := none, latest := none, overflow := false,
    kept := Vector.replicate 16 none }

/-- A group's verdict state after power-on reset, with the stop input at the level `stop` (R109, R120). -/
def Verdict.reset (stop : Bool) : Verdict :=
  { term1 := .empty, term2 := .empty, trip := false, warn := false,
    reasons := { unplanned := true, trip := false, restore := false, stop := stop, blind := true, test := false },
    restore := none, restoreDuringTest := false, given := false }

/-- A port after power-on reset and after a link reset (R161). -/
def Port.reset : Port :=
  { queue := [], replies := [], drain := none, halted := false, dropped := false, log := [], overflow := false,
    mask := { check := true, permit := true, plan := true, sync := true, engine := true, test := true } }

/-- The part right after power-on reset, with the stop input and the in-service inputs at the levels given (R96, R120),
and the waiting commands `pending`. -/
def State.powerOn (stop : Bool) (inService : Vector Bool 4) (pending : List Instr) : State :=
  { now := 0
    clock := 0
    trackers := ⟨Tracker.reset, Tracker.reset⟩
    converters := Vector.replicate 16 { armed := false, latched := .live, inFlight := [] }
    buffers := Vector.replicate 16 Buffers.reset
    queue := []
    lastJoin := none
    engines := ⟨EngineSlot.reset, EngineSlot.reset⟩
    audit := AuditUnit.reset
    records := Vector.replicate 16 none
    checks := Vector.replicate 64 { state := .off, run := 0, tally := 0, last := none }
    quiet := Vector.replicate 4 0
    quietEndDue := Vector.replicate 4 false
    verdicts := Vector.replicate 4 (Verdict.reset stop)
    alert := false
    planStore := { active := Plan.default, generation := 0, staging := .empty }
    tests := Vector.replicate 4 .idle
    sources := Vector.replicate 16 .live
    patterns := Vector.replicate 4 (Vector.replicate 128 0)
    ports := ⟨Port.reset, Port.reset, Port.reset⟩
    inService := inService
    stopInput := stop
    wires := ⟨⟨0, []⟩, ⟨0, []⟩, ⟨0, []⟩⟩
    choices := 0
    pending := pending }

/-- The part right after power-on reset, with the stop input released and every in-service input low. -/
def State.reset : State := State.powerOn false (Vector.replicate 4 false) []

end Sys2Proof.Machine
end

