-- ==== Sys2Proof/Machine/Ops.lean ====
section
/-! DEFINITION. The shared operations over the State: reading the active plan, writing one part of a block, raising a
notice, posting a reply, settling a frame. -/

namespace Sys2Proof.Machine

/-! ### Figures fixed in the part -/

/-- Tmin, the shortest in-window interval (1.2). -/
def tMin : Nat := 150000

/-- Tmax, the longest in-window interval (1.2). -/
def tMax : Nat := 225000

/-- The time between two samples of a sync input, in ticks (R1). -/
def sampleTicks : Nat := 10

/-- The time a conversion takes, in ticks (R17). -/
def conversionTicks : Nat := 40

/-- The longest time a transform takes, 250 µs in ticks (R54). -/
def transformTicks : Nat := 2500

/-- One millisecond in ticks. -/
def millisecondTicks : Nat := 10000

/-- The pairing window in milliseconds (R119, R142, R152). -/
def pairingMs : Word := 5000

/-- The longest time a drain waits, in milliseconds (R169). -/
def drainMs : Word := 1000

/-- A 16-bit counter's increment: it saturates at 65535 (R16, R35, R58). -/
def bump16 (n : Nat) : Nat := min (n + 1) 65535

/-- An 8-bit counter's increment: it saturates at 255 (R61, R89). -/
def bump8 (n : Nat) : Nat := min (n + 1) 255

/-! ### The active plan -/

/-- The active plan, which every block reads at the instant it uses it (R128). -/
def State.plan (s : State) : Plan := s.planStore.active

/-- The group that a channel's settings name. -/
def Plan.groupOf (p : Plan) (c : Channel) : Group := p.channels[c].group

/-- The group of a check: the group its channel's settings name (R80). -/
def Plan.checkGroup (p : Plan) (i : CheckIx) : Group := p.groupOf p.checks[i].channel

/-- The reference a channel is timed by: that of its group (R17). -/
def Plan.refOf (p : Plan) (c : Channel) : Ref := p.groups[p.groupOf c].ref

/-- The present cycle number of the reference a group uses under the active plan (R106, R125). -/
def State.groupCycle (s : State) (g : Group) : Word := (s.trackers.get s.plan.groups[g].ref).cycle

/-! ### Writing one part of a block -/

def State.setTracker (s : State) (r : Ref) (t : Tracker) : State :=
  { s with trackers := s.trackers.set r t }

def State.setConverter (s : State) (c : Channel) (v : Converter) : State :=
  { s with converters := s.converters.set c v }

def State.setBuffers (s : State) (c : Channel) (b : Buffers) : State :=
  { s with buffers := s.buffers.set c b }

def State.setEngine (s : State) (e : Engine) (x : EngineSlot) : State :=
  { s with engines := s.engines.set e x }

def State.setKept (s : State) (c : Channel) (k : Option Kept) : State :=
  { s with audit := { s.audit with kept := s.audit.kept.set c k } }

def State.setRecord (s : State) (c : Channel) (r : Option ResultRecord) : State :=
  { s with records := s.records.set c r }

def State.setTest (s : State) (g : Group) (t : TestState) : State :=
  { s with tests := s.tests.set g t }

def State.setSource (s : State) (c : Channel) (x : Source) : State :=
  { s with sources := s.sources.set c x }

def State.setPort (s : State) (l : Link) (p : Port) : State :=
  { s with ports := s.ports.set l p }

def State.setStaging (s : State) (x : Staging) : State :=
  { s with planStore := { s.planStore with staging := x } }

/-- Remove every place of a channel's frame from the queue; the frames behind close up (R28). -/
def State.dequeue (s : State) (c : Channel) : State :=
  { s with queue := s.queue.filter (fun d => d != c) }

/-! ### Ports -/

/-- Commands queued, executing, or replied and unread (R161). -/
def Port.outstanding (p : Port) : Nat :=
  p.queue.length + p.replies.length + (if p.drain.isSome then 1 else 0)

/-- Post a reply to the tail of the reply buffer (R164). -/
def Port.post (p : Port) (r : Reply) : Port := { p with replies := p.replies ++ [r] }

/-- Whether a port's mask enables the kind of a notice (R170). -/
def NoticeMask.keeps (m : NoticeMask) : NoticeBody → Bool
  | .check _ _ _ _ _ => m.check
  | .permit _ _ _ _ _ => m.permit
  | .plan _ _ _ _ => m.plan
  | .sync _ _ _ _ _ => m.sync
  | .mismatch _ _ _ _ _ => m.engine
  | .engine _ _ _ _ _ => m.engine
  | .test _ _ _ _ => m.test

/-- The most notices a log holds (R161). -/
def logRoom : Nat := 32

/-- Offer a notice to a port: its mask decides whether it is received (R170), its overflow flag and the room of its log
whether it joins the log (R171). -/
def Port.offer (p : Port) (n : Notice) : Port :=
  if !p.mask.keeps n.body || p.overflow then p
  else if p.log.length < logRoom then { p with log := p.log ++ [n] }
  else { p with overflow := true }

/-- Raise a notice: it is stamped with the millisecond clock and offered to all three ports (10.6). -/
def State.raise (s : State) (b : NoticeBody) : State :=
  let n : Notice := { stamp := s.clock, body := b }
  { s with ports := ⟨s.ports.a.offer n, s.ports.b.offer n, s.ports.m.offer n⟩ }

/-- Raise several notices in the order of the list. -/
def State.raiseAll (s : State) (bs : List NoticeBody) : State := bs.foldl State.raise s

/-! ### Settling (R31) -/

/-- The settling of the frame with join order `j` as a drain sees it (R169): it leaves the set, and when the set becomes
empty the reply OK is posted with the number of frames the drain waited for. -/
def Port.settled (p : Port) (j : Nat) : Port :=
  match p.drain with
  | none => p
  | some d =>
    if j ∈ d.awaiting then
      let rest := d.awaiting.filter (fun k => k != j)
      if rest.isEmpty then
        { p with drain := none }.post
          { command := Command.drainWait.code, tag := d.tag, code := .ok, body := [byteOf d.count] }
      else { p with drain := some { d with awaiting := rest } }
    else p

/-- The channel's buffered frame, if it is the one with join order `j`, leaves the held buffer (R30), and no place in the
queue is left to it. -/
def State.release (s : State) (c : Channel) (j : Nat) : State :=
  let b := s.buffers[c]
  match b.held with
  | some f => if f.joinOrder = j then (s.setBuffers c { b with held := none }).dequeue c else s
  | none => s

/-- A frame becomes settled: if it is still its channel's buffered frame the held buffer becomes empty (R30), and it
leaves the set of every drain. -/
def State.settle (s : State) (c : Channel) (j : Nat) : State :=
  let s1 := s.release c j
  { s1 with ports := ⟨s1.ports.a.settled j, s1.ports.b.settled j, s1.ports.m.settled j⟩ }

/-- The join orders of the closed frames not yet settled: those in held buffers and those an engine still holds (R169). -/
def State.unsettled (s : State) : List Nat :=
  ((List.finRange 16).filterMap (fun c => (s.buffers[c].held).map Frame.joinOrder)
    ++ (s.engines.e1.hand.toList ++ s.engines.e2.hand.toList).map (fun h => h.frame.joinOrder)).eraseDups

end Sys2Proof.Machine
end

