-- ==== Sys2Proof/Machine/Flags.lean ====
section
/-! DEFINITION. The conditions computed from the State: what asserts, what suspends a check, a group's terms, trip
condition and WARN, ATTN, and the events that are due at the present tick. -/

namespace Sys2Proof.Machine

/-! ### Checks (R81) -/

/-- ACTIVE, FALLING or LATCHED (R81). -/
def CheckState.asserting : CheckState → Bool
  | .active | .falling | .latched => true
  | .off | .clear | .rising | .suspended => false

/-- RISING, ACTIVE, FALLING or LATCHED: the states that raise a frame's priority (R27). -/
def CheckState.boosts : CheckState → Bool
  | .rising | .active | .falling | .latched => true
  | .off | .clear | .suspended => false

def TestState.isRunning : TestState → Bool
  | .running _ => true
  | .idle | .offered _ _ _ => false

def TestState.phase : TestState → TestPhase
  | .idle => .idle
  | .offered _ _ _ => .offered
  | .running _ => .running

/-! ### Suspension causes (R96) -/

/-- BREAKER OPEN. -/
def State.breakerOpen (s : State) (g : Group) : Bool := !s.inService[g] && !s.tests[g].isRunning

/-- NO LOCK. -/
def State.noLock (s : State) (g : Group) : Bool :=
  (s.trackers.get s.plan.groups[g].ref).mode == .seeking

/-- QUIET, for a check of group `g` with the given *observe during quiet* setting. -/
def State.quietHolds (s : State) (g : Group) (observe : Bool) : Bool :=
  decide (0 < s.quiet[g]) && !observe

/-- Whether any suspension cause of a check holds. -/
def State.suspends (s : State) (i : CheckIx) : Bool :=
  let g := s.plan.checkGroup i
  s.breakerOpen g || s.noLock g || s.quietHolds g s.plan.checks[i].observeQuiet

/-! ### Terms, trip condition, WARN (R110 to R112) -/

/-- The check is an enabled TRIP check of the group. -/
def Plan.tripCheck (p : Plan) (g : Group) (i : CheckIx) : Bool :=
  p.checks[i].enabled && p.checks[i].cls == .trip && p.checkGroup i == g

/-- The plan holds an enabled TRIP check of the group (R115). -/
def Plan.protects (p : Plan) (g : Group) : Bool := (List.finRange 64).any (p.tripCheck g)

/-- The plan holds an enabled TRIP check of the group with the term. -/
def Plan.termUsed (p : Plan) (g : Group) (t : Term) : Bool :=
  (List.finRange 64).any (fun i => p.tripCheck g i && p.checks[i].term == t)

/-- The state of a term of a group (R110). -/
def State.termState (s : State) (g : Group) (t : Term) : TermState :=
  if s.plan.termUsed g t then
    if (List.finRange 64).any (fun i =>
        s.plan.tripCheck g i && s.plan.checks[i].term == t && s.checks[i].state.asserting)
    then .asserting else .notAsserting
  else .empty

/-- The trip condition of a group (R111). -/
def State.tripCondition (s : State) (g : Group) : Bool :=
  let a := s.termState g .t1 == .asserting
  let b := s.termState g .t2 == .asserting
  match s.plan.groups[g].combine with
  | .or => a || b
  | .and => a && b

/-- The WARN of a group (R112). -/
def State.warns (s : State) (g : Group) : Bool :=
  (List.finRange 64).any (fun i =>
    s.plan.checks[i].enabled && s.plan.checks[i].cls == .warn && s.plan.checkGroup i == g
      && s.checks[i].state.asserting)

/-- The reason set is empty (R114). -/
def Reasons.isEmpty (r : Reasons) : Bool :=
  !(r.unplanned || r.trip || r.restore || r.stop || r.blind || r.test)

/-- The condition of BLIND (R121). -/
def State.isBlind (s : State) (g : Group) : Bool :=
  s.noLock g && s.plan.groups[g].blind == .withdraw

/-! ### Ports (R173) -/

/-- ATTN, which the attention line mirrors (R173). -/
def Port.attn (p : Port) : Bool := !p.log.isEmpty || p.overflow

/-- The port executes the command at the head of its queue (R164). -/
def Port.ready (p : Port) : Bool := !p.queue.isEmpty && !p.halted && p.drain.isNone

/-! ### What is due at the present tick -/

/-- An input sample of the tracker is due (R1). -/
def State.sampleDue (s : State) (r : Ref) : Bool := s.now == (s.trackers.get r).nextSample

/-- The tick at which strobe `k` of a cycle is due (R5). -/
def strobeTick (start period k : Nat) : Tick := start + k * period / 128

/-- A strobe from 1 to 127 is due (R5). -/
def State.strobeDue (s : State) (r : Ref) : Bool :=
  let t := s.trackers.get r
  match t.start, t.nextStrobe with
  | some st, some k => decide (1 ≤ k ∧ k < 128) && s.now == strobeTick st t.period k
  | _, _ => false

/-- This tick is the end of a held cycle, s + T (R10). -/
def State.heldEndTick (s : State) (r : Ref) : Bool :=
  let t := s.trackers.get r
  match t.mode, t.start with
  | .holding, some st => s.now == st + t.period
  | _, _ => false

/-- A held cycle ends (R10). Strobes of the same tick count as issued before (R5). -/
def State.heldEndDue (s : State) (r : Ref) : Bool := s.heldEndTick r && !s.strobeDue r

/-- An accepted edge is to be acted on (R1). Strobes of the same tick count as issued before (R5), and a held cycle's
end at the same tick is taken first (R10). -/
def State.edgeDue (s : State) (r : Ref) : Bool :=
  (s.trackers.get r).accepting.isSome && !s.strobeDue r && !s.heldEndDue r

/-- This tick is the deadline of a LOCKED cycle (R9). -/
def State.deadlineTick (s : State) (r : Ref) : Bool :=
  (s.trackers.get r).mode == .locked && (s.trackers.get r).deadline == some s.now

/-- The deadline tick ends with no in-window edge accepted at or before it (R9). -/
def State.deadlineDue (s : State) (r : Ref) : Bool :=
  s.deadlineTick r && !s.strobeDue r && !s.sampleDue r && (s.trackers.get r).accepting.isNone

/-- A conversion of the channel completes (R17). -/
def State.arrivalDue (s : State) (c : Channel) : Bool :=
  s.converters[c].inFlight.any (fun v => v.issued + conversionTicks == s.now)

/-- A frame may yet close at this tick: a sample of a sync input, an accepted edge, a deadline, the end of a held cycle
or a sample arrival of this tick is still to be taken. -/
def State.closesAhead (s : State) : Bool :=
  [Ref.r1, Ref.r2].any (fun r =>
      s.sampleDue r || (s.trackers.get r).accepting.isSome || s.deadlineTick r || s.heldEndTick r)
    || (List.finRange 16).any s.arrivalDue

/-- A transform has run its full 250 µs (R54). -/
def State.transformDue (s : State) (e : Engine) : Bool :=
  match (s.engines.get e).hand with
  | some h => h.taken + transformTicks == s.now
  | none => false

/-- The drain of the link reaches 1000 ms (R169). -/
def State.drainDue (s : State) (l : Link) : Bool :=
  match (s.ports.get l).drain with
  | some d => s.clock == d.started + drainMs
  | none => false

/-- The pairing window of the accepts expires (R142). -/
def State.acceptDue (s : State) : Bool :=
  match s.planStore.staging with
  | .sealed _ _ (some a) => s.clock == a.2 + pairingMs
  | _ => false

/-- The pairing window of a recorded restore expires (R119). -/
def State.restoreDue (s : State) (g : Group) : Bool :=
  match s.verdicts[g].restore with
  | some r => s.clock == r.2 + pairingMs
  | none => false

/-- The pairing window of a test offer expires (R152). -/
def State.offerDue (s : State) (g : Group) : Bool :=
  match s.tests[g] with
  | .offered _ _ at_ => s.clock == at_ + pairingMs
  | _ => false

/-- The run time of a test ends (R157). -/
def State.runDue (s : State) (g : Group) : Bool :=
  match s.tests[g] with
  | .running endAt => s.clock == endAt
  | _ => false

/-- Something of the part's own time is due at this tick and has not been taken. -/
def State.anyDue (s : State) : Bool :=
  [Ref.r1, Ref.r2].any (fun r =>
      s.sampleDue r || s.strobeDue r || s.heldEndDue r || s.edgeDue r || s.deadlineDue r)
    || (List.finRange 16).any s.arrivalDue
    || [Engine.e1, Engine.e2].any s.transformDue
    || [Link.a, Link.b, Link.m].any s.drainDue
    || s.acceptDue
    || (List.finRange 4).any (fun g => s.restoreDue g || s.offerDue g || s.runDue g || s.quietEndDue[g])

end Sys2Proof.Machine
end

