-- ==== Sys2Proof/Machine/Operands.lean ====
section
/-! DEFINITION. The items, records and codes that cross a link: plan items read from their bytes with the field tests of
R133 and the clamps of R134, and everything the part sends, byte by byte (chapter 11). -/

namespace Sys2Proof.Machine

/-! ### Codes -/

/-- The reply codes of R178. -/
def ReplyCode.byte : ReplyCode → Byte
  | .ok => 0x00
  | .notPermitted => 0x01
  | .locked => 0x02
  | .notOwner => 0x03
  | .wrongState => 0x04
  | .stale => 0x05
  | .guarded => 0x06
  | .planErrors => 0x07
  | .notOutOfService => 0x08
  | .inUse => 0x09
  | .lastEngine => 0x0A
  | .stillTripped => 0x0B
  | .noResult => 0x0C
  | .timeout => 0x0D
  | .malformed => 0x0E

/-- The check state codes of 11.4. -/
def CheckState.byte : CheckState → Byte
  | .off => 0
  | .clear => 1
  | .rising => 2
  | .active => 3
  | .falling => 4
  | .latched => 5
  | .suspended => 6

/-- The tracker state codes of 11.4. -/
def TrackerMode.byte : TrackerMode → Byte
  | .seeking => 0
  | .locked => 1
  | .holding => 2

/-- The engine state codes of 11.4: an engine IN SERVICE is idle or busy. -/
def EngineSlot.byte (x : EngineSlot) : Byte :=
  match x.service with
  | .inService => if x.hand.isSome then 1 else 0
  | .stopping => 2
  | .out => 3

/-- The states an ENGINE notice of a state change names (11.5). -/
def Service.byte : Service → Byte
  | .inService => 0
  | .stopping => 2
  | .out => 3

def TestPhase.byte : TestPhase → Byte
  | .idle => 0
  | .offered => 1
  | .running => 2

def PlanPhase.byte : PlanPhase → Byte
  | .empty => 0
  | .opened => 1
  | .sealed => 2
  | .activated => 3

/-- The cause codes of a TEST notice (R180). -/
def TestCause.byte : TestCause → Byte
  | .windowExpired => 1
  | .notOutOfService => 2
  | .testEnd => 3
  | .linkReset => 4
  | .expired => 5
  | .breakerClosed => 6
  | .plan => 7

def TermState.code : TermState → Nat
  | .empty => 0
  | .notAsserting => 1
  | .asserting => 2

/-- A reason set as one byte (R180). -/
def Reasons.byte (r : Reasons) : Byte :=
  byteOfFlags [r.unplanned, r.trip, r.restore, r.stop, r.blind, r.test]

/-- A byte whose bit 0 is a flag; where the layout gives bits 1 to 7 no field they are 0 (the model's choice, log entry 36). -/
def flagByte (b : Bool) : Byte := if b then 1 else 0

/-- The frequency reported for a period in use, in units of 0.01 Hz (R14). -/
def frequency (period : Nat) : Nat := 1000000000 / period

/-! ### Plan items (11.3) -/

/-- One item of a plan, as WRITE ENTRY and READ ENTRY name it (R133). A weight block holds its eight slots. -/
inductive PlanItem where
  | check (i : CheckIx) (e : CheckEntry)
  | channel (c : Channel) (x : ChannelSettings)
  | group (g : Group) (x : GroupSettings)
  | reference (r : Ref) (x : RefSettings)
  | global (auditInterval guardLevel : Nat)
  | weights (block : Fin 8) (ws : List Nat)
deriving DecidableEq, Repr

/-- A value brought into the range `lo` to `hi` (R134). -/
def clampTo (lo hi n : Nat) : Nat := max lo (min n hi)

/-- 1 for a field a clamp changed, 0 for one it left. -/
def clampCount (lo hi n : Nat) : Nat := if clampTo lo hi n = n then 0 else 1

def quantityOf (b : Byte) : Option Quantity :=
  match b.toNat with
  | 0 => some .mean
  | 1 => some .ripple
  | 2 => some .factor
  | 3 => some .distortion
  | 4 => some .weighted
  | 5 => some .level
  | 6 => some .spread
  | _ => none

def Quantity.byte : Quantity → Byte
  | .mean => 0
  | .ripple => 1
  | .factor => 2
  | .distortion => 3
  | .weighted => 4
  | .level => 5
  | .spread => 6

def termOf (b : Byte) : Option Term :=
  if b = 1 then some .t1 else if b = 2 then some .t2 else none

def Term.byte : Term → Byte
  | .t1 => 1
  | .t2 => 2

/-- A check entry from its 14 bytes, with the number of fields the clamps changed; `none` when a field identifies
nothing (R133, R134). -/
def checkItem : List Byte → Option (CheckEntry × Nat)
  | [flags, term, chan, quant, order, second, lo0, lo1, hi0, hi1, pers, rel, tally, _] =>
    match termOf term, indexFrom1 16 chan, quantityOf quant, indexFrom1 16 second with
    | some t, some c, some q, some c2 =>
      some ({ enabled := bitOf flags 0
              cls := if bitOf flags 1 then .trip else .warn
              term := t
              channel := c
              quantity := q
              order := clampTo 1 63 order.toNat
              second := c2
              low := half lo0 lo1
              high := half hi0 hi1
              sense := if bitOf flags 2 then .inside else .outside
              persistence := clampTo 1 255 pers.toNat
              release := clampTo 1 255 rel.toNat
              tallyLimit := tally.toNat
              observeQuiet := bitOf flags 3 },
            clampCount 1 63 order.toNat + clampCount 1 255 pers.toNat + clampCount 1 255 rel.toNat)
    | _, _, _, _ => none
  | _ => none

/-- Channel settings from their 7 bytes (R133, R134). Bits 1 to 7 of the first byte, to which 11.3 gives no field, are
ignored (DESIGN CHOICE, unsafe: log entry 31). -/
def channelItem : List Byte → Option (ChannelSettings × Nat)
  | [flags, group, prio, mf0, mf1, ff0, ff1] =>
    match indexFrom1 4 group with
    | some g =>
      some ({ enabled := bitOf flags 0
              group := g
              basePriority := clampTo 0 3 prio.toNat
              meanFloor := clampTo 0 32767 (half mf0 mf1).toNat
              fundFloor := (half ff0 ff1).toNat },
            clampCount 0 3 prio.toNat + clampCount 0 32767 (half mf0 mf1).toNat)
    | none => none
  | _ => none

/-- Group settings from their 3 bytes (R133). Bits 4 to 7 of the second byte, to which 11.3 gives no field, are ignored
(DESIGN CHOICE, unsafe: log entry 31). -/
def groupItem : List Byte → Option (GroupSettings × Nat)
  | [ref, flags, quiet] =>
    match refOfByte ref with
    | some r =>
      some ({ ref := r
              combine := if bitOf flags 0 then .and else .or
              repermit := if bitOf flags 1 then .manual else .auto
              blind := if bitOf flags 2 then .keep else .withdraw
              quietCode := quiet.toNat
              evaluateHeld := bitOf flags 3 }, 0)
    | none => none
  | _ => none

/-- Reference settings from their 2 bytes (R134). -/
def referenceItem : List Byte → Option (RefSettings × Nat)
  | [f, h] =>
    some ({ filterLength := clampTo 1 16 f.toNat, holdLimit := clampTo 1 255 h.toNat },
      clampCount 1 16 f.toNat + clampCount 1 255 h.toNat)
  | _ => none

/-- Global settings from their 2 bytes (R134): the audit interval and the guard level. -/
def globalItem : List Byte → Option ((Nat × Nat) × Nat)
  | [k, gl] => some ((k.toNat, clampTo 0 3 gl.toNat), clampCount 0 3 gl.toNat)
  | _ => none

/-- The weights of block `block` (0 for block 1) from its 16 bytes (R128, R134). The eighth slot of block 8 stands for no
order: it is not stored and counts no clamp. -/
def weightsItem (block : Fin 8) (bytes : List Byte) : Option (List Nat × Nat) :=
  match halvesOf bytes with
  | some hs =>
    let raw := hs.map BitVec.toNat
    let stored := if block.val = 7 then raw.take 7 else raw
    some (raw.map (clampTo 0 4096), (stored.map (clampCount 0 4096)).sum)
  | none => none

/-- The item a WRITE ENTRY names, its fields clamped, and the clamp count; `none` for a number outside the kind's range
or a field that identifies nothing (R133). -/
def readItem (kind number : Byte) (bytes : List Byte) : Option (PlanItem × Nat) :=
  match kind.toNat with
  | 1 =>
    match indexFrom0 64 number, checkItem bytes with
    | some i, some (e, n) => some (.check i e, n)
    | _, _ => none
  | 2 =>
    match indexFrom1 16 number, channelItem bytes with
    | some c, some (x, n) => some (.channel c x, n)
    | _, _ => none
  | 3 =>
    match indexFrom1 4 number, groupItem bytes with
    | some g, some (x, n) => some (.group g x, n)
    | _, _ => none
  | 4 =>
    match refOfByte number, referenceItem bytes with
    | some r, some (x, n) => some (.reference r x, n)
    | _, _ => none
  | 5 =>
    match decide (number = 0), globalItem bytes with
    | true, some ((k, gl), n) => some (.global k gl, n)
    | _, _ => none
  | 6 =>
    match indexFrom1 8 number with
    | some b =>
      match weightsItem b bytes with
      | some (ws, n) => some (.weights b ws, n)
      | none => none
    | none => none
  | _ => none

/-- Replace one item of a plan whole (R133). -/
def Plan.put (p : Plan) : PlanItem → Plan
  | .check i e => { p with checks := p.checks.set i e }
  | .channel c x => { p with channels := p.channels.set c x }
  | .group g x => { p with groups := p.groups.set g x }
  | .reference r x => { p with refs := p.refs.set r x }
  | .global k gl => { p with auditInterval := k, guardLevel := gl }
  | .weights b ws =>
    { p with weights := Vector.ofFn (fun o : OrderIx =>
        if o.val / 8 = b.val then ws.getD (o.val % 8) p.weights[o] else p.weights[o]) }

/-- The weight a slot of a block holds: 0 in the eighth slot of block 8 (R128). -/
def Plan.weightAt (p : Plan) (k : Nat) : Nat := if h : k < 63 then p.weights[k] else 0

/-- The eight weights of a block. -/
def Plan.weightBlock (p : Plan) (b : Fin 8) : List Nat :=
  (List.range 8).map (fun j => p.weightAt (8 * b.val + j))

/-- The item of a plan that READ ENTRY names; `none` for an unknown kind or a number outside the range (R148). -/
def Plan.item (p : Plan) (kind number : Byte) : Option PlanItem :=
  match kind.toNat with
  | 1 => (indexFrom0 64 number).map (fun i => .check i p.checks[i])
  | 2 => (indexFrom1 16 number).map (fun c => .channel c p.channels[c])
  | 3 => (indexFrom1 4 number).map (fun g => .group g p.groups[g])
  | 4 => (refOfByte number).map (fun r => .reference r (p.refs.get r))
  | 5 => if number = 0 then some (.global p.auditInterval p.guardLevel) else none
  | 6 => (indexFrom1 8 number).map (fun b => .weights b (p.weightBlock b))
  | _ => none

/-- The bytes of a plan item (11.3). -/
def PlanItem.bytes : PlanItem → List Byte
  | .check _ e =>
    [byteOfFlags [e.enabled, e.cls == .trip, e.sense == .inside, e.observeQuiet], e.term.byte,
      numberFrom1 e.channel, e.quantity.byte, byteOf e.order, numberFrom1 e.second]
      ++ le16 e.low ++ le16 e.high
      ++ [byteOf e.persistence, byteOf e.release, byteOf e.tallyLimit, 0]
  | .channel _ x =>
    [flagByte x.enabled, numberFrom1 x.group, byteOf x.basePriority] ++ le16 (halfOf x.meanFloor)
      ++ le16 (halfOf x.fundFloor)
  | .group _ x =>
    [x.ref.number,
      byteOfFlags [x.combine == .and, x.repermit == .manual, x.blind == .keep, x.evaluateHeld],
      byteOf x.quietCode]
  | .reference _ x => [byteOf x.filterLength, byteOf x.holdLimit]
  | .global k gl => [byteOf k, byteOf gl]
  | .weights _ ws => ws.flatMap (fun w => le16 (halfOf w))

/-! ### Records sent in replies (11.4) -/

/-- The link status byte (R163, R178). -/
def Port.statusByte (p : Port) : Byte :=
  byteOfFlags [p.attn, !p.replies.isEmpty, p.halted, p.dropped]

/-- A reply frame (R178). -/
def Reply.bytes (r : Reply) : List Byte :=
  [r.command, r.tag, r.code.byte] ++ le16 (halfOf r.body.length) ++ r.body

/-- The slot of READ RESULT for an order sent as `o` (R77). -/
def levelSlot (f : Figures) (o : Byte) : List Byte :=
  match indexFrom1 63 o with
  | some h => [o, 1] ++ le16 f.levels[h]
  | none => [o, 0] ++ le16 0

/-- The result body of READ RESULT for a channel's valid record; at most the first sixteen orders are answered (R77). -/
def ResultRecord.body (r : ResultRecord) (c : Channel) (orders : List Byte) : List Byte :=
  let answered := orders.take 16
  [numberFrom1 c, r.ref.number] ++ le32 r.cycle ++ le16 r.generation
    ++ [byteOfFlags [r.heldFlag, r.clipped, r.test, r.figures.saturated, r.unaudited], byteOf answered.length]
    ++ le16 r.figures.mean ++ le16 r.figures.ripple ++ answered.flatMap (levelSlot r.figures)

/-- A check status record (R107). The causes of an OFF check are not reported. -/
def State.checkRecord (s : State) (i : CheckIx) : List Byte :=
  let st := s.checks[i]
  let g := s.plan.checkGroup i
  let on := st.state != .off
  [byteOf i.val, st.state.byte, byteOf st.run, byteOf st.tally,
    byteOfFlags [st.last.isSome, on && s.breakerOpen g, on && s.noLock g,
      on && s.quietHolds g s.plan.checks[i].observeQuiet], 0]
    ++ (match st.last with
        | some (v, cyc) => le16 (BitVec.ofInt 16 v) ++ le32 cyc
        | none => le16 0 ++ le32 0)

/-- Milliseconds until a recorded restore's window expires, 1 to 5000, and 0 when none is recorded (R126). A read taken
at the instant of the expiry, ahead of it, finds the restore recorded (R127), and the window is sent as 1 (DEDUCED, unsafe:
log entry 32). -/
def State.restoreWindow (s : State) (g : Group) : Nat :=
  match s.verdicts[g].restore with
  | some r => clampTo 1 5000 (r.2 + pairingMs - s.clock).toNat
  | none => 0

/-- The group record of READ GROUP (R126). -/
def State.groupRecord (s : State) (g : Group) : List Byte :=
  let v := s.verdicts[g]
  [numberFrom1 g, byteOf (v.term1.code + 4 * v.term2.code), byteOfFlags [v.trip, v.warn, v.given],
    v.reasons.byte, (match v.restore with | some r => r.1.code | none => 0), s.tests[g].phase.byte]
    ++ le16 (halfOf (s.restoreWindow g)) ++ le16 (halfOf s.quiet[g])

/-- A fault record as READ STATUS sends it; an empty one is twelve bytes of 0 (11.4). -/
def faultBytes : Option FaultRecord → List Byte
  | none => List.replicate 12 0
  | some r =>
    [numberFrom1 r.channel,
      (match r.quantity with | .mean => 1 | .ripple => 2 | .level _ => 3),
      (match r.quantity with | .level h => numberFrom1 h | .mean | .ripple => 0), 0]
      ++ le32 r.cycle ++ le16 r.value1 ++ le16 r.value2

def Staging.phase : Staging → PlanPhase
  | .empty => .empty
  | .opened _ _ => .opened
  | .sealed _ _ _ => .sealed

/-- The proposed generation, sent as 0 when there is none (11.4). -/
def Staging.proposed : Staging → Half
  | .sealed _ n _ => n
  | .empty | .opened _ _ => 0

/-- The lock holder's code, 0 when the lock is free (11.4). -/
def Staging.holderCode : Staging → Byte
  | .opened _ l => l.code
  | .empty | .sealed _ _ _ => 0

/-- The recorded accept's code, 0 when there is none (11.4). -/
def Staging.acceptCode : Staging → Byte
  | .sealed _ _ (some a) => a.1.code
  | .empty | .opened _ _ | .sealed _ _ none => 0

/-- The status record of READ STATUS (R175). -/
def State.statusRecord (s : State) : List Byte :=
  let t1 := s.trackers.r1
  let t2 := s.trackers.r2
  [t1.mode.byte, t2.mode.byte]
    ++ le16 (halfOf (frequency t1.period)) ++ le16 (halfOf (frequency t2.period))
    ++ le32 t1.cycle ++ le32 t2.cycle
    ++ [s.engines.e1.byte, s.engines.e2.byte,
      byteOfFlags [s.audit.auditAll, s.audit.overflow, s.audit.first.isSome, s.audit.latest.isSome],
      byteOf s.audit.mismatches]
    ++ le16 (halfOf s.audit.skips)
    ++ faultBytes s.audit.first ++ faultBytes s.audit.latest
    ++ [s.planStore.staging.phase.byte, s.planStore.staging.holderCode]
    ++ le16 s.planStore.generation ++ le16 s.planStore.staging.proposed
    ++ [s.planStore.staging.acceptCode, byteOf s.plan.guardLevel]
    ++ le32 s.clock

/-! ### Notices (R180) -/

def NoticeBody.kindByte : NoticeBody → Byte
  | .check _ _ _ _ _ => 1
  | .permit _ _ _ _ _ => 2
  | .plan _ _ _ _ => 3
  | .sync _ _ _ _ _ => 4
  | .mismatch _ _ _ _ _ => 5
  | .engine _ _ _ _ _ => 5
  | .test _ _ _ _ => 6

/-- The cycle number of a notice, absent for PLAN and TEST. -/
def NoticeBody.cycle : NoticeBody → Option Word
  | .check _ c _ _ _ => some c
  | .permit _ c _ _ _ => some c
  | .sync _ c _ _ _ => some c
  | .mismatch _ c _ _ _ => some c
  | .engine _ c _ _ _ => some c
  | .plan _ _ _ _ | .test _ _ _ _ => none

/-- Byte 1: bit 0 cycle number present, bit 1 subject is an engine, bits 2 to 7 sent as 0 (the model's choice, log
entry 36). -/
def NoticeBody.flags : NoticeBody → Byte
  | .engine _ _ _ _ _ => 3
  | .plan _ _ _ _ | .test _ _ _ _ => 0
  | .check _ _ _ _ _ | .permit _ _ _ _ _ | .sync _ _ _ _ _ | .mismatch _ _ _ _ _ => 1

/-- Subject, old state and new state. -/
def NoticeBody.states : NoticeBody → List Byte
  | .check i _ old new _ => [byteOf i.val, old.byte, new.byte]
  | .permit g _ old new _ => [numberFrom1 g, flagByte old, flagByte new]
  | .plan l old new _ => [(match l with | some l => l.code | none => 0), old.byte, new.byte]
  | .sync r _ old new _ => [r.number, old.byte, new.byte]
  | .mismatch c _ old new _ => [numberFrom1 c, flagByte old, flagByte new]
  | .engine e _ old new _ => [e.number, old.byte, new.byte]
  | .test g old new _ => [numberFrom1 g, old.byte, new.byte]

def NoticeBody.detail : NoticeBody → Half
  | .check _ _ _ _ tally => halfOf tally
  | .permit _ _ _ _ reasons => reasons.byte.setWidth 16
  | .plan _ _ _ generation => generation
  | .sync _ _ _ _ freq => halfOf freq
  | .mismatch _ _ _ _ count => halfOf count
  | .engine _ _ _ _ abandoned => halfOf abandoned
  | .test _ _ _ (.duration n) => halfOf n
  | .test _ _ _ (.cause c) => c.byte.setWidth 16

/-- The 16-byte record of a notice (R180). -/
def Notice.bytes (n : Notice) : List Byte :=
  [n.body.kindByte, n.body.flags] ++ n.body.states ++ [0] ++ le32 n.stamp
    ++ le32 (n.body.cycle.getD 0) ++ le16 n.body.detail

end Sys2Proof.Machine
end

