-- ==== Sys2Proof/Machine/Spectrum.lean ====
section
/-! DEFINITION. Spectrum arithmetic (R36 to R49): the figures of a frame and the derived quantities, in exact integers. -/

namespace Sys2Proof.Machine

/-- The digits of the root below bit `k`, found from the top: `r` is the root found so far. -/
def isqrtFrom (x : Nat) : Nat → Nat → Nat
  | 0, r => r
  | k + 1, r => if (r + 2 ^ k) * (r + 2 ^ k) ≤ x then isqrtFrom x k (r + 2 ^ k) else isqrtFrom x k r

/-- isqrt: the largest integer whose square does not exceed `x` (Conventions). -/
def isqrt (x : Nat) : Nat := isqrtFrom x (Nat.log2 x / 2 + 1) 0

/-- The quarter table Q[0] to Q[32] (R39). -/
def quarterTable : List Nat :=
  [32767, 32728, 32609, 32412, 32137, 31785, 31356, 30852, 30273, 29621, 28898, 28105, 27245, 26319, 25329, 24279,
    23170, 22005, 20787, 19519, 18204, 16846, 15446, 14010, 12539, 11039, 9512, 7962, 6393, 4808, 3212, 1608, 0]

/-- Q[j]. -/
def quarter (j : Nat) : Int := (quarterTable.getD j 0 : Nat)

/-- The cosine table C[k], for k from 0 to 127 (R39). -/
def cosTable (k : Nat) : Int :=
  if k ≤ 32 then quarter k
  else if k ≤ 64 then -quarter (64 - k)
  else if k ≤ 96 then -quarter (k - 64)
  else quarter (128 - k)

/-- The sine table S[k] = C[(k − 32) mod 128] (R40). -/
def sinTable (k : Nat) : Int := cosTable ((k + 96) % 128)

/-- The sum of a sequence of samples. -/
def total (xs : List Int) : Int := xs.foldl (· + ·) 0

/-- The mean D = floor(Σx / 128) (R37). -/
def mean (xs : List Int) : Int := (total xs).fdiv 128

/-- The ripple level Rl (R38). -/
def ripple (xs : List Int) : Nat :=
  isqrt ((total (xs.map (fun x => (x - mean xs) * (x - mean xs)))).toNat / 128)

/-- Σ x[n] × t((h·n) mod 128), a harmonic sum over the table `t` (R41). -/
def harmonicSum (t : Nat → Int) (h : Nat) (xs : List Int) : Int :=
  total ((xs.zipIdx).map (fun p => p.1 * t (h * p.2 % 128)))

/-- The harmonic level before its cap (R42). -/
def levelUncapped (h : Nat) (xs : List Int) : Nat :=
  let re := harmonicSum cosTable h xs
  let im := harmonicSum sinTable h xs
  isqrt (re * re + im * im).toNat / 2097088

/-- The harmonic level L_h (R42). -/
def level (h : Nat) (xs : List Int) : Nat := min 65535 (levelUncapped h xs)

/-- The figures an engine computes from a frame's samples, a function of the samples alone (R36). -/
def transform (xs : List Int) : Figures :=
  { mean := BitVec.ofInt 16 (mean xs)
    ripple := BitVec.ofNat 16 (ripple xs)
    levels := Vector.ofFn (fun i : OrderIx => BitVec.ofNat 16 (level (i.val + 1) xs))
    saturated := (List.finRange 63).any (fun i => decide (65535 < levelUncapped (i.val + 1) xs)) }

/-- The samples of a frame in slot order. Every frame an engine takes has all its slots filled (R23, R28); a slot with
no sample would be read as 0. -/
def Frame.values (f : Frame) : List Int := f.samples.toList.map (fun o => (o.getD 0).toInt)

/-! ### Derived quantities -/

/-- The level of order `h` (1 to 63) in a set of figures, 0 outside those orders. -/
def levelOf (f : Figures) (h : Nat) : Nat :=
  if hh : 1 ≤ h ∧ h ≤ 63 then (f.levels[h - 1]'(by omega)).toNat else 0

/-- The ripple factor P, or `none` when it is not formed (R46). -/
def rippleFactor (meanFloor : Nat) (f : Figures) : Option Nat :=
  let d := f.mean.toInt.natAbs
  if max meanFloor 1 ≤ d then some (min 65535 (1000 * f.ripple.toNat / d)) else none

/-- The distortion T, or `none` when it is not formed (R47). -/
def distortion (fundFloor : Nat) (f : Figures) : Option Nat :=
  let l1 := levelOf f 1
  if max fundFloor 1 ≤ l1 then
    let squares := (List.range 62).map (fun k => levelOf f (k + 2) * levelOf f (k + 2))
    some (min 65535 (1000 * isqrt squares.sum / l1))
  else none

/-- The weighted interference W under a weighting table (R48). -/
def weightedInterference (weights : Vector Nat 63) (f : Figures) : Nat :=
  let squares := (List.finRange 63).map (fun i : OrderIx =>
    let x := (f.levels[i]).toNat * weights[i]
    x * x)
  min 65535 (isqrt squares.sum / 4096)

/-- The spread between two means (R49). -/
def spread (a b : Figures) : Nat := (a.mean.toInt - b.mean.toInt).natAbs

end Sys2Proof.Machine
end

