-- ==== Sys2Proof/Machine/Verdict.lean ====
section
/-! DEFINITION. The group verdict unit (R109 to R127): the recomputation of a group, the setting of the permits from the
reason sets, the alert output, the restores, the stop input. -/

namespace Sys2Proof.Machine

/-- The recomputation of group `g` (R113) from the checks and the plan of `s`: terms, trip condition and WARN (R110 to
R112); TRIP is present exactly while the trip condition is true (R116). An addition of TRIP withdraws a recorded restore
(R119) and, in MANUAL, adds RESTORE; a RESTORE so added in a RUNNING test is marked (R117). -/
def State.recompute (s : State) (g : Group) (v : Verdict) : Verdict :=
  let trip := s.tripCondition g
  let added := trip && !v.reasons.trip
  let restores := added && s.plan.groups[g].repermit == .manual && !v.reasons.restore
  { term1 := s.termState g .t1
    term2 := s.termState g .t2
    trip := trip
    warn := s.warns g
    reasons := { v.reasons with trip := trip, restore := v.reasons.restore || restores }
    restore := if added then none else v.restore
    restoreDuringTest := v.restoreDuringTest || (restores && s.tests[g].isRunning)
    given := v.given }

/-- Set a group's permit from the reason set an event has left; an event that changes no reason leaves it (R114). -/
def Verdict.settlePermit (old new : Verdict) : Verdict :=
  { new with given := if new.reasons = old.reasons then old.given else new.reasons.isEmpty }

/-- The PERMIT notice of a group, if its permit changed (R125). -/
def permitNotice (g : Group) (cycle : Word) (old new : Verdict) : Option NoticeBody :=
  if old.given = new.given then none else some (.permit g cycle old.given new.given new.reasons)

/-- Replace the four verdicts as one event: each permit is set once from its group's reason set (R114), and the PERMIT
notices are raised in increasing group number (R125). -/
def State.commitVerdicts (s : State) (new : Group → Verdict) (cycle : Group → Word) : State :=
  let final := fun g : Group => Verdict.settlePermit s.verdicts[g] (new g)
  { s with verdicts := Vector.ofFn final }.raiseAll
    ((List.finRange 4).filterMap (fun g => permitNotice g (cycle g) s.verdicts[g] (final g)))

/-- The alert output follows the trip conditions and WARNs after a recomputation (R124). -/
def State.setAlert (s : State) : State :=
  { s with alert := (List.finRange 4).any (fun g => s.verdicts[g].trip || s.verdicts[g].warn) }

/-- Change the reason sets of the groups at an event that is not an evaluation. -/
def State.reasonEvent (s : State) (change : Group → Verdict → Verdict) : State :=
  s.commitVerdicts (fun g => change g s.verdicts[g]) s.groupCycle

/-! ### Changes of one verdict -/

/-- UNPLANNED is cleared (R115). -/
def Verdict.clearUnplanned (v : Verdict) : Verdict := { v with reasons := { v.reasons with unplanned := false } }

/-- BLIND is made present or absent (R121). -/
def Verdict.setBlind (blind : Bool) (v : Verdict) : Verdict := { v with reasons := { v.reasons with blind := blind } }

/-- STOP is made present or absent (R120). -/
def Verdict.setStop (stop : Bool) (v : Verdict) : Verdict := { v with reasons := { v.reasons with stop := stop } }

/-- The start of a test: TEST is added, and no RESTORE has yet been set during it (R122, R117). -/
def Verdict.startTest (v : Verdict) : Verdict :=
  { v with reasons := { v.reasons with test := true }, restoreDuringTest := false }

/-- The end of a test (R122): TEST is removed, every recorded restore is withdrawn, and a RESTORE added during the test
is removed. -/
def Verdict.endTest (v : Verdict) : Verdict :=
  { v with
    reasons := { v.reasons with test := false, restore := v.reasons.restore && !v.restoreDuringTest }
    restore := none
    restoreDuringTest := false }

/-- Withdraw the recorded restore (R119). -/
def Verdict.withdrawRestore (v : Verdict) : Verdict := { v with restore := none }

/-- Withdraw the recorded restore if it is the link's (R119). -/
def Verdict.withdrawRestoreOf (l : Link) (v : Verdict) : Verdict :=
  match v.restore with
  | some r => if r.1 = l then v.withdrawRestore else v
  | none => v

/-- The second restore of a pair: RESTORE is removed and the recorded restore withdrawn (R118). -/
def Verdict.pairRestore (v : Verdict) : Verdict :=
  { v with reasons := { v.reasons with restore := false }, restore := none }

/-- Apply a change to the verdict of one group. -/
def onGroup (g : Group) (f : Verdict → Verdict) (g' : Group) (v : Verdict) : Verdict := if g' = g then f v else v

/-! ### Events -/

/-- RESTORE PERMIT of a group from a link (R118): the state after it and the reply code. -/
def State.restorePermit (s : State) (l : Link) (g : Group) : State × ReplyCode :=
  let v := s.verdicts[g]
  if v.reasons.trip then (s, .stillTripped)
  else if !v.reasons.restore then (s, .ok)
  else
    match v.restore with
    | none => (s.reasonEvent (onGroup g (fun v => { v with restore := some (l, s.clock) })), .ok)
    | some r =>
      if r.1 = l then (s, .ok)
      else (s.reasonEvent (onGroup g Verdict.pairRestore), .ok)

/-- The expiry of a recorded restore's pairing window (R119). -/
def State.expireRestore (s : State) (g : Group) : State := s.reasonEvent (onGroup g Verdict.withdrawRestore)

/-- A change of the stop input (R120). -/
def State.changeStop (s : State) (asserted : Bool) : State :=
  { s with stopInput := asserted }.reasonEvent (fun _ => Verdict.setStop asserted)

end Sys2Proof.Machine
end

