-- ==== Sys2Proof/Machine/Checks.lean ====
section
/-! DEFINITION. The check evaluator (R80 to R108): evaluation of a check, suspension and release, the quiet counters,
CLEAR LATCH, and the handing of changes to the verdict unit. -/

namespace Sys2Proof.Machine

/-! ### One check at an evaluation -/

/-- Whether the condition is present for a value (R86): MEAN compares signed, every other quantity from 0 to 65535. -/
def CheckEntry.present (e : CheckEntry) (v : Int) : Bool :=
  let low : Int := if e.quantity = .mean then e.low.toInt else e.low.toNat
  let high : Int := if e.quantity = .mean then e.high.toInt else e.high.toNat
  let inBand := decide (low ≤ v ∧ v ≤ high)
  match e.sense with
  | .outside => !inBand
  | .inside => inBand

/-- Entry to ACTIVE (R89): the tally increments, and a check whose tally reaches its tally limit enters LATCHED. -/
def enterActive (e : CheckEntry) (st : CheckStatus) : CheckStatus :=
  let tally := bump8 st.tally
  { st with
    state := if e.tallyLimit ≠ 0 ∧ tally = e.tallyLimit then .latched else .active
    run := 0
    tally := tally }

/-- The step of an evaluated check's state (R87 to R92). -/
def stepState (e : CheckEntry) (present : Bool) (st : CheckStatus) : CheckStatus :=
  match st.state with
  | .clear =>
    if present then
      if e.persistence = 1 then enterActive e st else { st with state := .rising, run := 1 }
    else st
  | .rising =>
    if present then
      if st.run + 1 = e.persistence then enterActive e st else { st with run := st.run + 1 }
    else { st with state := .clear, run := 0 }
  | .active =>
    if present then st
    else if e.release = 1 then { st with state := .clear, run := 0 }
    else { st with state := .falling, run := 1 }
  | .falling =>
    if present then { st with state := .active, run := 0 }
    else if st.run + 1 = e.release then { st with state := .clear, run := 0 }
    else { st with run := st.run + 1 }
  | .latched | .suspended | .off => st

/-- The evaluation of a check with value `v` for a cycle (R85). -/
def evaluateCheck (e : CheckEntry) (v : Int) (cycle : Word) (st : CheckStatus) : CheckStatus :=
  { stepState e (e.present v) st with last := some (v, cycle) }

/-- The event for channel `c` concerns the check (R84). -/
def CheckEntry.concerns (e : CheckEntry) (c : Channel) : Bool :=
  e.enabled && (e.channel == c || (e.quantity == .spread && e.second == c))

/-- The spread of a SPREAD check at an event for channel `c` with record `rec`: the join of R94, and R49. -/
def State.joinSpread (s : State) (e : CheckEntry) (c : Channel) (rec : ResultRecord) : Option Nat :=
  let other := if e.channel = c then e.second else e.channel
  match s.records[other] with
  | some r => if r.ref = rec.ref ∧ r.cycle = rec.cycle then some (spread rec.figures r.figures) else none
  | none => none

/-- The value a check reads at an event for channel `c` with record `rec`, or `none` when its quantity is not formed
(R50). -/
def State.checkValue (s : State) (e : CheckEntry) (c : Channel) (rec : ResultRecord) : Option Int :=
  match e.quantity with
  | .mean => some rec.figures.mean.toInt
  | .ripple => some rec.figures.ripple.toNat
  | .level => some (levelOf rec.figures e.order)
  | .factor => (rippleFactor s.plan.channels[c].meanFloor rec.figures).map Int.ofNat
  | .distortion => (distortion s.plan.channels[c].fundFloor rec.figures).map Int.ofNat
  | .weighted => some (weightedInterference s.plan.weights rec.figures)
  | .spread => (s.joinSpread e c rec).map Int.ofNat

/-- The status of check `i` after an evaluation event for channel `c` with record `rec` (R84). -/
def State.evaluated (s : State) (c : Channel) (rec : ResultRecord) (i : CheckIx) : CheckStatus :=
  let e := s.plan.checks[i]
  let st := s.checks[i]
  if e.concerns c && st.state != .suspended then
    match s.checkValue e c rec with
    | some v => evaluateCheck e v rec.cycle st
    | none => st
  else st

/-! ### Handing changes on (R105, R113) -/

/-- The CHECK notice of a change of status, if it takes the check into or out of the asserting set (R105, R106). -/
def checkNotice (i : CheckIx) (cycle : Word) (old new : CheckStatus) : Option NoticeBody :=
  if old.state.asserting = new.state.asserting then none
  else some (.check i cycle old.state new.state new.tally)

/-- Replace the check table as one event; the CHECK notices are raised in increasing check index, as R144, R158 and 10.6
say of an activation and a test end (at every other event DESIGN CHOICE, unsafe: log entry 15). -/
def State.commitChecks (s : State) (new : CheckIx → CheckStatus) (cycle : CheckIx → Word) : State :=
  { s with checks := Vector.ofFn new }.raiseAll
    ((List.finRange 64).filterMap (fun i => checkNotice i (cycle i) s.checks[i] (new i)))

/-- The event changes the state of a check of the group. -/
def State.touches (s : State) (new : CheckIx → CheckStatus) (g : Group) : Bool :=
  (List.finRange 64).any (fun i => s.plan.checkGroup i == g && s.checks[i].state != (new i).state)

/-- One event of the evaluator: the changes of the checks are handed over together, the verdict unit recomputes once
each group that one of them touches, and each group in `forced` (R105, R113), `change` makes the event's other changes to
the verdicts, and each permit is set once (R114). The CHECK notices come before the PERMIT notices: the manual says so of an
evaluation, an activation and a test end (10.6), and at every other event it is the model's (DESIGN CHOICE, unsafe: log
entry 15). -/
def State.checkEvent (s : State) (new : CheckIx → CheckStatus) (forced : Group → Bool)
    (change : Group → Verdict → Verdict) (checkCycle : CheckIx → Word) (groupCycle : Group → Word) : State :=
  let hit := fun g => forced g || s.touches new g
  let s1 := s.commitChecks new checkCycle
  let s2 := s1.commitVerdicts
    (fun g => change g (if hit g then s1.recompute g s1.verdicts[g] else s1.verdicts[g])) groupCycle
  if (List.finRange 4).any hit then s2.setAlert else s2

/-- An event of the evaluator that is not an evaluation: the notices carry the present cycle number of the reference
that the check's group uses (R106, R125). -/
def State.causeEvent (s : State) (new : CheckIx → CheckStatus) (forced : Group → Bool)
    (change : Group → Verdict → Verdict) : State :=
  s.checkEvent new forced change (fun i => s.groupCycle (s.plan.checkGroup i)) s.groupCycle

/-! ### Suspension (R97 to R100) -/

/-- The effect on an enabled check of its causes as they stand: R98 when one holds, R99 when none does. -/
def CheckStatus.examine (suspended : Bool) (st : CheckStatus) : CheckStatus :=
  match st.state with
  | .clear | .rising | .active | .falling => if suspended then { st with state := .suspended, run := 0 } else st
  | .suspended => if suspended then st else { st with state := .clear, run := 0 }
  | .off | .latched => st

/-- The status of a check after the causes of the groups in `sel` are examined (R97). -/
def State.examined (s : State) (sel : Group → Bool) (i : CheckIx) : CheckStatus :=
  if s.plan.checks[i].enabled && sel (s.plan.checkGroup i) then s.checks[i].examine (s.suspends i) else s.checks[i]

/-- An event that may change the causes of the checks of the groups in `sel` (R97), with its other changes to the
verdicts. -/
def State.examineEvent (s : State) (sel : Group → Bool) (change : Group → Verdict → Verdict) : State :=
  s.causeEvent (s.examined sel) (fun _ => false) change

/-- A check entering CLEAR with tally 0 at an instant when a cause may hold (R100). -/
def CheckStatus.cleared (suspended : Bool) (st : CheckStatus) : CheckStatus :=
  { st with state := if suspended then .suspended else .clear, run := 0, tally := 0 }

/-! ### The evaluation event (R84, R85, R115) -/

/-- The evaluation event of channel `c` with its new record `rec`: every concerned check is evaluated or passed over,
UNPLANNED of the channel's group is cleared if the plan protects the group, and each group touched is recomputed. -/
def State.evaluationEvent (s : State) (c : Channel) (rec : ResultRecord) : State :=
  let g := s.plan.groupOf c
  s.checkEvent (s.evaluated c rec) (fun _ => false)
    (fun g' v => if g' = g ∧ s.plan.protects g = true then v.clearUnplanned else v)
    (fun _ => rec.cycle) (fun _ => rec.cycle)

/-! ### Quiet counters (R101 to R103) -/

/-- What a quiet code loads (R101). -/
def quietLoad (code : Nat) : Nat :=
  if code ≤ 127 then code
  else if code ≤ 191 then 128 + (code - 128) * 2
  else if code ≤ 223 then 256 + (code - 192) * 8
  else 512 + (code - 224) * 16

/-- Load a group's quiet counter from its quiet code, whatever it holds (R101). -/
def State.loadQuiet (s : State) (g : Group) : State :=
  { s with
    quiet := s.quiet.set g (quietLoad s.plan.groups[g].quietCode)
    quietEndDue := s.quietEndDue.set g false }

/-- START QUIET of a group (R103). -/
def State.startQuiet (s : State) (g : Group) : State :=
  (s.loadQuiet g).examineEvent (fun g' => g' == g) (fun _ v => v)

/-- The step of the quiet counters at a cycle start of reference `r` (R102). The decrement that brings a counter to 0 is
left to QUIET_END at the same tick. -/
def State.countQuiet (s : State) (r : Ref) : State :=
  { s with
    quiet := Vector.ofFn (fun g : Group =>
      if s.plan.groups[g].ref = r ∧ 1 < s.quiet[g] then s.quiet[g] - 1 else s.quiet[g])
    quietEndDue := Vector.ofFn (fun g : Group =>
      s.quietEndDue[g] || decide (s.plan.groups[g].ref = r ∧ s.quiet[g] = 1)) }

/-- The decrement that brings a group's quiet counter to 0, at which QUIET ends for its checks (R102, R99). -/
def State.endQuiet (s : State) (g : Group) : State :=
  { s with
    quiet := s.quiet.set g (s.quiet[g] - 1)
    quietEndDue := s.quietEndDue.set g false }.examineEvent (fun g' => g' == g) (fun _ v => v)

/-! ### CLEAR LATCH (R104) -/

/-- The status a check has after CLEAR LATCH. -/
def CheckStatus.clearLatch (suspended : Bool) (st : CheckStatus) : CheckStatus :=
  if st.state = .latched then st.cleared suspended else { st with tally := 0 }

/-- CLEAR LATCH of check `i`. -/
def State.clearLatch (s : State) (i : CheckIx) : State :=
  s.causeEvent (fun j => if j = i then s.checks[j].clearLatch (s.suspends j) else s.checks[j])
    (fun _ => false) (fun _ v => v)

/-! ### In-service inputs (R97, R123) -/

/-- A falling in-service input. -/
def State.breakerOpens (s : State) (g : Group) : State :=
  { s with inService := s.inService.set g false }.examineEvent (fun g' => g' == g) (fun _ v => v)

/-- The reset of the enabled checks of a group at the end of its test (R158). -/
def State.resetChecks (s : State) (sel : Group → Bool) (i : CheckIx) : CheckStatus :=
  if s.plan.checks[i].enabled && sel (s.plan.checkGroup i) then s.checks[i].cleared (s.suspends i) else s.checks[i]

end Sys2Proof.Machine
end

