-- ==== Sys2Proof/Machine/Results.lean ====
section
/-! DEFINITION. The result table (R69 to R79): what becomes of a transform result that arrives there. -/

namespace Sys2Proof.Machine

/-- A test result is admitted while its channel's group is RUNNING and the channel's source is a pattern (R72). -/
def State.admitsTest (s : State) (c : Channel) : Bool :=
  s.tests[s.plan.groupOf c].isRunning && s.sources[c] != .live

/-- The record built from a result, stamped with the active generation (R69, R74). -/
def State.recordOf (s : State) (res : TransformResult) : ResultRecord :=
  { ref := res.ref, cycle := res.cycle, generation := s.planStore.generation, figures := res.figures,
    heldFlag := res.heldFlag, clipped := res.clipped, test := res.test, unaudited := res.unaudited }

/-- A result is dropped: the record stays as it was and the frame is settled (R71, R72). -/
def State.dropResult (s : State) (res : TransformResult) : State := s.settle res.channel res.join

/-- Acceptance without evaluation: the record is replaced whole and the frame is settled (R73, R74). -/
def State.storeResult (s : State) (res : TransformResult) : State :=
  (s.setRecord res.channel (some (s.recordOf res))).settle res.channel res.join

/-- The decisions at the door, in the order the table makes them (R71, R72, R73). The settling comes before the evaluation
event (R74); the commands behind a drain that it ends run after both (the model's choice, log entry 35). -/
def State.arrive (s : State) (res : TransformResult) : State :=
  if res.epoch ≠ s.buffers[res.channel].epoch then s.dropResult res
  else if res.test && !s.admitsTest res.channel then s.dropResult res
  else if res.heldFlag && !s.plan.groups[s.plan.groupOf res.channel].evaluateHeld then s.storeResult res
  else (s.storeResult res).evaluationEvent res.channel (s.recordOf res)

end Sys2Proof.Machine
end

