-- ==== Sys2Proof/Machine/Engines.lean ====
section
/-! DEFINITION. The transform engines and the audit unit (R51 to R68): takes, completions, comparison, service. -/

namespace Sys2Proof.Machine

/-! ### Taking frames (R52, R53, R56 to R58) -/

/-- The frame of channel `c` in the queue is eligible for engine `e` (R52). -/
def State.eligible (s : State) (e : Engine) (c : Channel) : Bool :=
  match s.buffers[c].held with
  | some f => !(f.audit && f.engines.get e)
  | none => false

/-- What a first take decides about the frame (R58). -/
inductive Mark where
  | unmarked
  | marked
  | abandoned
deriving DecidableEq, Repr

/-- At this first take a marking decision is made, under audit interval `k` (R56, R57). -/
def AuditUnit.decides (a : AuditUnit) (k : Nat) : Bool :=
  a.auditAll || decide (k ≠ 0 ∧ k ≤ a.counter + 1)

/-- The audit counter after a first take (R56, R57). -/
def AuditUnit.countTake (a : AuditUnit) (k : Nat) : Nat :=
  if a.decides k then 0 else if k = 0 then a.counter else a.counter + 1

/-- The outcome of a first take, with the other engine's service (R56 to R58). -/
def AuditUnit.mark (a : AuditUnit) (k : Nat) (other : Service) : Mark :=
  if a.decides k then
    match other with
    | .inService => .marked
    | .stopping => .abandoned
    | .out => .unmarked
  else .unmarked

/-- The audit unit after a first take: the audit-skip count increments when a decision finds the other engine OUT OF
SERVICE (R58). -/
def AuditUnit.take (a : AuditUnit) (k : Nat) (other : Service) : AuditUnit :=
  { a with
    counter := a.countTake k
    skips := if a.decides k && other == .out then bump16 a.skips else a.skips }

/-- Put a frame in an engine's hand: the engine becomes busy and the transform begins (R53). -/
def State.putInHand (s : State) (e : Engine) (f : Frame) (role : AuditRole) : State :=
  s.setEngine e { (s.engines.get e) with hand := some ⟨f, role, s.now⟩, lastCycle := f.cycle }

/-- Engine `e` takes the queued frame `f` of channel `c`, as a first or a second take (R53). -/
def State.takeFrame (s : State) (e : Engine) (c : Channel) (f : Frame) : State :=
  let b := s.buffers[c]
  if f.audit then
    let f1 := { f with engines := f.engines.set e true }
    ((s.setBuffers c { b with held := some f1 }).dequeue c).putInHand e f1 .pair
  else
    let other := (s.engines.get e.other).service
    let k := s.plan.auditInterval
    let mark := s.audit.mark k other
    let f1 := { f with engines := f.engines.set e true, audit := mark != .unmarked }
    let s1 := { s with audit := s.audit.take k other }.setBuffers c { b with held := some f1 }
    match mark with
    | .unmarked => (s1.dequeue c).putInHand e f1 .plain
    | .marked => s1.putInHand e f1 .pair
    | .abandoned => (s1.dequeue c).putInHand e f1 .abandoned

/-- An engine that is IN SERVICE and idle takes the first frame in queue order that is eligible for it (R52). -/
def State.engineTake (s : State) (e : Engine) : State :=
  let x := s.engines.get e
  if x.service = .inService ∧ x.hand = none then
    match s.queue.find? (s.eligible e) with
    | some c =>
      match s.buffers[c].held with
      | some f => s.takeFrame e c f
      | none => s
    | none => s
  else s

/-- Frames have joined at this tick and others may yet do so: no engine takes until all have joined (R52; log entry 8). -/
def State.joining (s : State) : Bool := s.lastJoin == some s.now && s.closesAhead

/-- Both engines take what they can; E1 takes first (R52). An engine that becomes idle or enters service while frames of the
tick are still joining waits for them, even where an older frame is eligible, so a command or an event taken in that time finds
it idle (the model's choice, log entry 34). -/
def State.enginesTake (s : State) : State :=
  if s.joining then s else (s.engineTake .e1).engineTake .e2

/-- The takes that follow an event at which frames may have joined, or after which no more can join at this tick
(R52). -/
def State.afterJoins (s : State) : State := if s.lastJoin = some s.now then s.enginesTake else s

/-! ### Comparison (R60 to R62) -/

/-- The first quantity, in the order of R60, in which two sets of figures differ, with the two values. -/
def firstDifference (x y : Figures) : Option (FaultQuantity × Half × Half) :=
  if x.mean ≠ y.mean then some (.mean, x.mean, y.mean)
  else if x.ripple ≠ y.ripple then some (.ripple, x.ripple, y.ripple)
  else
    ((List.finRange 63).find? (fun h : OrderIx => x.levels[h] != y.levels[h])).map
      (fun h => (.level h, x.levels[h], y.levels[h]))

/-- Write a mismatch into the fault records (R62). -/
def AuditUnit.writeFault (a : AuditUnit) (r : FaultRecord) : AuditUnit :=
  { a with
    first := if a.first.isSome then a.first else some r
    latest := some r
    overflow := a.overflow || a.latest.isSome }

/-- Count a mismatch; audit-all mode is on from the third (R61). -/
def AuditUnit.countMismatch (a : AuditUnit) : AuditUnit :=
  { a with
    mismatches := bump8 a.mismatches
    auditAll := a.auditAll || decide (3 ≤ bump8 a.mismatches) }

/-- A mismatch (R61): the frame is settled as dropped, the fault record is written, the mismatch counted, and an ENGINE
notice raised. -/
def State.mismatch (s : State) (res : TransformResult) (q : FaultQuantity) (v1 v2 : Half) : State :=
  let s1 := s.settle res.channel res.join
  let a := (s1.audit.writeFault
    { channel := res.channel, cycle := res.cycle, quantity := q, value1 := v1, value2 := v2 }).countMismatch
  { s1 with audit := a }.raise (.mismatch res.channel res.cycle s1.audit.auditAll a.auditAll a.mismatches)

/-- The comparison of an audit pair at its second completion: the kept result of one engine and the result `res` of
engine `e` (R60, R61). -/
def State.compare (s : State) (k : Kept) (e : Engine) (res : TransformResult) : State :=
  let figures1 := if e = .e1 then res.figures else k.result.figures
  let figures2 := if e = .e1 then k.result.figures else res.figures
  match firstDifference figures1 figures2 with
  | some (q, v1, v2) => s.mismatch res q v1 v2
  | none =>
    s.arrive { res with
      figures := { res.figures with saturated := res.figures.saturated || k.result.figures.saturated } }

/-! ### Completion (R54) -/

/-- The transform result of a frame (R43). -/
def Frame.result (f : Frame) (figures : Figures) : TransformResult :=
  { join := f.joinOrder, channel := f.channel, ref := f.ref, cycle := f.cycle, epoch := f.epoch,
    heldFlag := f.heldFlag, clipped := f.clipped, test := f.source != .live, unaudited := false, figures := figures }

/-- The audit unit sends a completed result on according to the frame's role in the audit (R54). -/
def State.routeResult (s : State) (e : Engine) (role : AuditRole) (res : TransformResult) : State :=
  match role with
  | .plain => s.arrive res
  | .abandoned => s.arrive { res with unaudited := true }
  | .removed => s.dropResult res
  | .pair =>
    match s.audit.kept[res.channel] with
    | none => s.setKept res.channel (some ⟨e, res⟩)
    | some k => (s.setKept res.channel none).compare k e res

/-- The ENGINE notice of a change of engine state (R68). -/
def State.raiseEngine (s : State) (e : Engine) (old new : Service) (abandoned : Nat) : State :=
  s.raise (.engine e (s.engines.get e).lastCycle old new abandoned)

/-- The engine's state changes after its completion: a STOPPING engine becomes OUT OF SERVICE and takes nothing, any
other takes its next frame (R54, R66), once the frames that are joining have joined (the model's choice, log entry 34). -/
def State.afterCompletion (s : State) (e : Engine) : State :=
  if (s.engines.get e).service = .stopping then
    (s.setEngine e { (s.engines.get e) with service := .out }).raiseEngine e .stopping .out 0
  else s.enginesTake

/-- Engine `e` completes the transform of its frame in hand; the figures are those of R36, or `wrong`. -/
def State.completeTransform (s : State) (e : Engine) (h : Hand) (wrong : Option Figures) : State :=
  let s1 := s.setEngine e { (s.engines.get e) with hand := none }
  let res := h.frame.result (wrong.getD (transform h.frame.values))
  (s1.routeResult e h.role res).afterCompletion e

/-! ### Service (R63, R65, R66) -/

/-- The audit frames waiting in the queue for engine `e` (R63). -/
def State.waitingFor (s : State) (e : Engine) : List Channel :=
  s.queue.filter (fun c =>
    match s.buffers[c].held with
    | some f => f.audit && f.engines.get e.other && !f.engines.get e
    | none => false)

/-- Mark the frame of channel `c` in an engine's hand, if it is the one, with a role. -/
def State.setRole (s : State) (e : Engine) (c : Channel) (role : AuditRole) : State :=
  let x := s.engines.get e
  match x.hand with
  | some h => if h.frame.channel = c then s.setEngine e { x with hand := some { h with role := role } } else s
  | none => s

/-- Abandon the audit of the frame of channel `c` that waits in the queue for engine `e` (R63). -/
def State.abandonAudit (s : State) (e : Engine) (c : Channel) : State :=
  let s1 := s.dequeue c
  match s1.audit.kept[c] with
  | some k => (s1.setKept c none).arrive { k.result with unaudited := true }
  | none => s1.setRole e.other c .abandoned

/-- ENGINE SERVICE out (R66): the state after it and the reply code. An engine that is idle because frames of the tick are
still joining goes OUT OF SERVICE at once (the model's choice, log entry 34). -/
def State.serviceOut (s : State) (e : Engine) : State × ReplyCode :=
  let x := s.engines.get e
  if x.service ≠ .inService then (s, .ok)
  else if (s.engines.get e.other).service ≠ .inService then (s, .lastEngine)
  else
    let waiting := s.waitingFor e
    let new : Service := if x.hand.isSome then .stopping else .out
    let s1 := (s.setEngine e { x with service := new }).raiseEngine e .inService new waiting.length
    (waiting.foldl (fun s c => s.abandonAudit e c) s1, .ok)

/-- ENGINE SERVICE in (R65). -/
def State.serviceIn (s : State) (e : Engine) : State :=
  let x := s.engines.get e
  match x.service with
  | .inService => s
  | .out => ((s.setEngine e { x with service := .inService }).raiseEngine e .out .inService 0).enginesTake
  | .stopping => (s.setEngine e { x with service := .inService }).raiseEngine e .stopping .inService 0

/-- CLEAR FAULTS (R67). -/
def State.clearFaults (s : State) : State :=
  { s with audit := { s.audit with
      first := none, latest := none, overflow := false, mismatches := 0, auditAll := false } }

end Sys2Proof.Machine
end

