-- ==== Sys2Proof/Machine/Frames.lean ====
section
/-! DEFINITION. The converters and the frame assembler (R17 to R35): strobes, sample arrivals, the filling buffer, the
close of a frame and the frame queue. -/

namespace Sys2Proof.Machine

/-! ### Frames -/

/-- A frame record at its start (R21). R19 gives the priority a value at the close and the join order at the join;
until then the model holds 0 in both (the model's choice, log entry 37). -/
def State.newFrame (s : State) (c : Channel) (r : Ref) (cycle : Word) : Frame :=
  { channel := c, ref := r, cycle := cycle, epoch := s.buffers[c].epoch, source := s.sources[c],
    samples := Vector.replicate 128 none, heldFlag := false, clipped := false, priority := 0, joinOrder := 0,
    audit := false, engines := ⟨false, false⟩ }

/-- A sample at either end of the range is clipped (R18). -/
def isClipped (x : Sample) : Bool := x.toInt == -32768 || x.toInt == 32767

/-- Write a sample into its slot (R22). -/
def Frame.put (f : Frame) (k : Slot) (x : Sample) : Frame :=
  { f with samples := f.samples.set k (some x), clipped := f.clipped || isClipped x }

/-- The slot 127 sample has arrived (R23). -/
def Frame.complete (f : Frame) : Bool := f.samples[127].isSome

/-- The priority of a frame of channel `c` at its close (R27). -/
def State.priorityOf (s : State) (c : Channel) : Nat :=
  let g := s.plan.groupOf c
  let boosted := (List.finRange 64).any (fun i => s.plan.checkGroup i == g && s.checks[i].state.boosts)
  min 3 (s.plan.channels[c].basePriority + (if boosted then 1 else 0))

/-- The priority of the frame in a channel's held buffer, 0 when the buffer is empty. -/
def State.heldPriority (s : State) (c : Channel) : Nat :=
  match s.buffers[c].held with
  | some f => f.priority
  | none => 0

/-! ### The close of a frame (R25, R28) -/

/-- The join order of the frame in a channel's held buffer, 0 when the buffer is empty. -/
def State.heldJoin (s : State) (c : Channel) : Nat :=
  match s.buffers[c].held with
  | some f => f.joinOrder
  | none => 0

/-- The join order of a frame of channel `c` that joins at tick `now` (R19): above that of every frame of an earlier tick,
and among the frames of one tick in increasing channel number (R28; log entries 8 and 23). A channel closes at most one
frame at a tick, so the number also tells a frame from every other. -/
def joinOrderAt (now : Tick) (c : Channel) : Nat := 16 * now + c.val

/-- In the queue order of R28 the queued frame of channel `d` stands before a frame of level `priority` and join order
`j`. -/
def State.standsBefore (s : State) (priority j : Nat) (d : Channel) : Bool :=
  decide (priority < s.heldPriority d ∨ s.heldPriority d = priority ∧ s.heldJoin d < j)

/-- The frame becomes its channel's buffered frame and joins the queue at its place in the queue order: at the tail of its
level (R28), but before the frames of its level that closed at this same tick on channels of a higher number. -/
def State.joinQueue (s : State) (f : Frame) : State :=
  let c := f.channel
  let f1 := { f with joinOrder := joinOrderAt s.now c }
  let s1 := s.setBuffers c { s.buffers[c] with held := some f1 }
  let ahead := s1.queue.takeWhile (s1.standsBefore f1.priority f1.joinOrder)
  let behind := s1.queue.dropWhile (s1.standsBefore f1.priority f1.joinOrder)
  { s1 with queue := ahead ++ c :: behind, lastJoin := some s.now }

/-- The counters of a channel at the close of a frame (R25, R35). -/
def ChannelCounters.countClose (n : ChannelCounters) (clipped : Bool) : ChannelCounters :=
  { n with closed := bump16 n.closed, clipped := if clipped then bump16 n.clipped else n.clipped }

/-- A frame closes (R25): the counters increment, its priority is computed (R27), and the held buffer decides whether it
joins, supersedes the buffered frame and joins, or is lost. -/
def State.closeFrame (s : State) (f : Frame) : State :=
  let c := f.channel
  let b := s.buffers[c]
  let n := b.counters.countClose f.clipped
  let f1 := { f with priority := s.priorityOf c }
  match b.held with
  | none => (s.setBuffers c { b with counters := n }).joinQueue f1
  | some old =>
    if old.engines.e1 || old.engines.e2 then
      s.setBuffers c { b with counters := { n with lost := bump16 n.lost } }
    else
      let s1 := s.setBuffers c { b with counters := { n with superseded := bump16 n.superseded } }
      ((s1.dequeue c).settle c old.joinOrder).joinQueue f1

/-! ### The end of a cycle (R23) -/

/-- The outcome with which a cycle ends (1.7). -/
inductive Outcome where
  | complete
  | held
  | short
deriving DecidableEq, Repr

/-- The end of a cycle at one channel whose filling buffer holds a frame of reference `r`. -/
def State.endFrame (s : State) (r : Ref) (o : Outcome) (c : Channel) : State :=
  let b := s.buffers[c]
  match b.fill with
  | .filling f =>
    if f.ref = r then
      match o with
      | .short =>
        s.setBuffers c { b with fill := .idle, counters := { b.counters with short := bump16 b.counters.short } }
      | .complete =>
        if f.complete then (s.setBuffers c { b with fill := .idle }).closeFrame f
        else s.setBuffers c { b with fill := .closing f none }
      | .held =>
        let f1 := { f with heldFlag := true }
        if f.complete then (s.setBuffers c { b with fill := .idle }).closeFrame f1
        else s.setBuffers c { b with fill := .closing f1 none }
    else s
  | .idle | .closing _ _ => s

/-- A tracker hands the assembler the end of a cycle of reference `r`: the channels act in increasing number (R23,
R28). -/
def State.endCycleFrames (s : State) (r : Ref) (o : Outcome) : State :=
  (List.finRange 16).foldl (fun s c => s.endFrame r o c) s

/-! ### The start of a cycle and the strobes (R17, R18, R21) -/

/-- The channel converts on reference `r` under the active plan. -/
def State.usesRef (s : State) (r : Ref) (c : Channel) : Bool :=
  s.plan.channels[c].enabled && s.plan.refOf c == r

/-- The filling buffer after the start of frame `f`: it enters an idle buffer at once and waits behind a closing frame
(R21). That the buffer is filling cannot arise, and leaves it as it is. -/
def FillBuffer.start (f : Frame) : FillBuffer → FillBuffer
  | .idle => .filling f
  | .closing old none => .closing old (some ⟨f, none⟩)
  | .closing old (some p) => .closing old (some p)
  | .filling old => .filling old

/-- The assembler starts a frame for every channel enabled on the reference (R21). -/
def State.startFrames (s : State) (r : Ref) (cycle : Word) : State :=
  { s with buffers := Vector.ofFn (fun c : Channel =>
      if s.usesRef r c then
        { s.buffers[c] with fill := s.buffers[c].fill.start (s.newFrame c r cycle) }
      else s.buffers[c]) }

/-- At strobe 0 of a cycle the converters of the reference's enabled channels convert from this strobe on and read their
source for the cycle (R17, R18). -/
def State.armConverters (s : State) (r : Ref) : State :=
  { s with converters := Vector.ofFn (fun c : Channel =>
      if s.usesRef r c then { s.converters[c] with armed := true, latched := s.sources[c] }
      else s.converters[c]) }

/-- Strobe `k` of the present cycle of reference `r` is issued: every channel that converts on the reference starts a
conversion (R5, R17). -/
def State.issueStrobe (s : State) (r : Ref) (k : Slot) : State :=
  let cycle := (s.trackers.get r).cycle
  { s with converters := Vector.ofFn (fun c : Channel =>
      let v := s.converters[c]
      if s.usesRef r c && v.armed then
        { v with inFlight := v.inFlight ++ [⟨cycle, k, v.latched, s.now, true⟩] }
      else v) }

/-! ### Sample arrival (R17, R18, R22) -/

/-- The conversion result of an analog input: an input beyond either end of the range gives that end (R18). -/
def convert (analog : Int) : Sample := BitVec.ofInt 16 (max (-32768) (min analog 32767))

/-- The sample a conversion delivers (R18). -/
def State.sampleOf (s : State) (v : Conversion) (analog : Int) : Sample :=
  match v.source with
  | .live => convert analog
  | .pattern p => s.patterns[p][v.slot]

/-- The frame of a pending start enters the buffer, with the sample kept for it (R22, R23). -/
def PendingStart.enter (p : PendingStart) : Frame :=
  match p.kept with
  | some (k, x) => p.frame.put k x
  | none => p.frame

/-- What a filling buffer holds once its closing frame has left it (R23). -/
def fillAfterClose : Option PendingStart → FillBuffer
  | some p => .filling p.enter
  | none => .idle

/-- The assembler receives the sample of a conversion of channel `c` (R22). -/
def State.writeSample (s : State) (c : Channel) (v : Conversion) (x : Sample) : State :=
  let b := s.buffers[c]
  match b.fill with
  | .idle => s
  | .filling f =>
    if f.cycle = v.cycle then s.setBuffers c { b with fill := .filling (f.put v.slot x) } else s
  | .closing f next =>
    if f.cycle = v.cycle then
      let f1 := f.put v.slot x
      if f1.complete then (s.setBuffers c { b with fill := fillAfterClose next }).closeFrame f1
      else s.setBuffers c { b with fill := .closing f1 next }
    else
      match next with
      | some p =>
        if p.frame.cycle = v.cycle then
          s.setBuffers c { b with fill := .closing f (some { p with kept := some (v.slot, x) }) }
        else s
      | none => s

/-- The conversion of channel `c` that an arrival names, if it completes at this tick. -/
def State.arriving (s : State) (c : Channel) (cycle : Word) (slot : Slot) : Option Conversion :=
  s.converters[c].inFlight.find? (fun v =>
    v.cycle == cycle && v.slot == slot && v.issued + conversionTicks == s.now)

/-- A sample arrives: the conversion is over, and its sample goes to the assembler if it is handed there. -/
def State.arriveSample (s : State) (c : Channel) (v : Conversion) (analog : Int) : State :=
  let old := s.converters[c]
  let s1 := s.setConverter c { old with inFlight := old.inFlight.erase v }
  if v.handed then s1.writeSample c v (s1.sampleOf v analog) else s1

/-! ### Emptying (R24, R33) -/

/-- The filling buffer of a channel is emptied, whatever its condition (R24). -/
def State.emptyFill (s : State) (c : Channel) : State :=
  s.setBuffers c { s.buffers[c] with fill := .idle }

/-- The filling buffers of the channels of a group are emptied at the end of its test (R24). -/
def State.emptyGroupFills (s : State) (g : Group) : State :=
  { s with buffers := Vector.ofFn (fun c : Channel =>
      if s.plan.groupOf c = g then { s.buffers[c] with fill := .idle } else s.buffers[c]) }

/-- The removal of a channel's buffered frame at an activation (R33, R64). A frame no engine has taken is discarded and
settled. A queued audit frame is settled at once when its one engine has completed, and otherwise when that engine's
result is dropped. A frame that is not queued stays with its engines. -/
def State.removeBuffered (s : State) (c : Channel) : State :=
  let b := s.buffers[c]
  match b.held with
  | none => s
  | some f =>
    let s1 := s.setBuffers c { b with held := none }
    if c ∈ s.queue then
      let s2 := s1.dequeue c
      if !(f.engines.e1 || f.engines.e2) then s2.settle c f.joinOrder
      else
        match s2.audit.kept[c] with
        | some k => (s2.setKept c none).dropResult k.result
        | none => (s2.setRole .e1 c .removed).setRole .e2 c .removed
    else s1

/-- What R33 does to a channel that an activation disables or changes, and R76 to its record. -/
def State.emptyChannel (s : State) (c : Channel) : State :=
  let b := s.buffers[c]
  let s1 := (s.setBuffers c { b with epoch := b.epoch + 1, fill := .idle }).setConverter c
    { s.converters[c] with inFlight := s.converters[c].inFlight.map (fun v => { v with handed := false }) }
  (s1.removeBuffered c).setRecord c none

end Sys2Proof.Machine
end

