-- ==== Sys2Proof/Machine/TestUnit.lean ====
section
/-! DEFINITION. The test unit (R149 to R160): offers, the start and the end of a test, sources and patterns. -/

namespace Sys2Proof.Machine

/-- The TEST notice of a change of a group's test state (R159). -/
def State.raiseTest (s : State) (g : Group) (old new : TestPhase) (d : TestDetail) : State :=
  s.raise (.test g old new d)

/-- The duration of a grant brought into range (R150). -/
def clampDuration (n : Nat) : Nat := max 1 (min n 900)

/-- An offer ends without a test (R152). -/
def State.endOffer (s : State) (g : Group) (cause : TestCause) : State :=
  (s.setTest g .idle).raiseTest g .offered .idle (.cause cause)

/-- A test starts (R153): the run time end is set, TEST is added, and BREAKER OPEN ends for the group's checks. -/
def State.startTest (s : State) (g : Group) (seconds : Nat) : State :=
  ((s.setTest g (.running (s.clock + BitVec.ofNat 32 (seconds * 1000)))).raiseTest g .offered .running
    (.duration seconds)).examineEvent (fun g' => g' == g) (onGroup g Verdict.startTest)

/-- TEST GRANT of a group for a duration already clamped (R150, R151): the state after it and the reply code. -/
def State.grantTest (s : State) (l : Link) (g : Group) (seconds : Nat) : State × ReplyCode :=
  match s.tests[g] with
  | .idle =>
    if s.inService[g] then (s, .notOutOfService)
    else ((s.setTest g (.offered l seconds s.clock)).raiseTest g .idle .offered (.duration seconds), .ok)
  | .offered l' n _ =>
    if l' = l then (s, .ok)
    else if n ≠ seconds then (s, .wrongState)
    else if s.inService[g] then (s.endOffer g .notOutOfService, .notOutOfService)
    else (s.startTest g n, .ok)
  | .running _ => (s, .wrongState)

/-- What the test unit itself does at a test end, and the frames it has discarded (R158, R24): the group becomes NONE,
its channels return to LIVE, the TEST notice is raised, and the filling buffers are emptied. -/
def State.closeTest (s : State) (g : Group) (cause : TestCause) : State :=
  ((({ s with sources := Vector.ofFn (fun c : Channel => if s.plan.groupOf c = g then .live else s.sources[c]) }).setTest
    g .idle).raiseTest g .running .idle (.cause cause)).emptyGroupFills g

/-- A test ends (R158): the group's checks are reset and its verdict is set once (R122). -/
def State.endTest (s : State) (g : Group) (cause : TestCause) : State :=
  let s1 := s.closeTest g cause
  s1.causeEvent (s1.resetChecks (fun g' => g' == g)) (fun g' => g' == g) (onGroup g Verdict.endTest)

/-- A rising in-service input (R97): the quiet counter is loaded and BREAKER OPEN ends; it ends a RUNNING test (R157). -/
def State.breakerCloses (s : State) (g : Group) : State :=
  let s1 := { s with inService := s.inService.set g true }.loadQuiet g
  if s.tests[g].isRunning then s1.endTest g .breakerClosed
  else s1.examineEvent (fun g' => g' == g) (fun _ v => v)

/-- TEST END of a group (R157). -/
def State.stopTest (s : State) (g : Group) : State × ReplyCode :=
  match s.tests[g] with
  | .running _ => (s.endTest g .testEnd, .ok)
  | .offered _ _ _ => (s.endOffer g .testEnd, .ok)
  | .idle => (s, .wrongState)

/-- TEST SOURCE (R155). -/
def State.switchSource (s : State) (c : Channel) (x : Source) : State × ReplyCode :=
  if s.tests[s.plan.groupOf c].isRunning then (s.setSource c x, .ok) else (s, .wrongState)

/-- A filling buffer holds a frame that started with the source, or a start of one is pending in it. -/
def FillBuffer.reads (x : Source) : FillBuffer → Bool
  | .idle => false
  | .filling f => f.source == x
  | .closing f none => f.source == x
  | .closing f (some p) => f.source == x || p.frame.source == x

/-- A pattern is in use (R154). -/
def State.patternInUse (s : State) (p : Store) : Bool :=
  (List.finRange 16).any (fun c => s.sources[c] == .pattern p || (s.buffers[c].fill).reads (.pattern p))

/-- Write samples into a pattern store from a starting slot on (R154). -/
def State.loadPattern (s : State) (p : Store) (start : Nat) (xs : List Sample) : State :=
  let old := s.patterns[p]
  { s with patterns := s.patterns.set p (Vector.ofFn (fun k : Slot =>
      if start ≤ k.val then xs.getD (k.val - start) old[k] else old[k])) }

/-- The sources after an activation: a channel whose group is not RUNNING under the new plan returns to LIVE (R156). -/
def State.returnSources (s : State) : State :=
  { s with sources := Vector.ofFn (fun c : Channel =>
      if s.tests[s.plan.groupOf c].isRunning then s.sources[c] else .live) }

end Sys2Proof.Machine
end

