-- ==== Sys2Proof/Machine/PlanStore.lean ====
section
/-! DEFINITION. The plan store (R128 to R148): staging, the validation of a staged plan, the accepts and activation. -/

namespace Sys2Proof.Machine

/-- The PLAN notice of a change of the staging state or of an activation (R147). -/
def State.raisePlan (s : State) (subject : Option Link) (old new : PlanPhase) (generation : Half) : State :=
  s.raise (.plan subject old new generation)

/-! ### Opening and writing (R131 to R134) -/

/-- OPEN STAGING (R132): the tests in the order of its table. -/
def State.openStaging (s : State) (l : Link) : State × ReplyCode :=
  if s.plan.guardLevel = 3 then (s, .guarded)
  else if 1 ≤ s.plan.guardLevel ∧ l = .m then (s, .guarded)
  else
    match s.planStore.staging with
    | .opened _ holder => (s, if holder = l then .wrongState else .locked)
    | .sealed _ _ _ => (s, .wrongState)
    | .empty =>
      ((s.setStaging (.opened s.plan l)).raisePlan (some l) .empty .opened s.planStore.generation, .ok)

/-- The staged plan that a link may edit: that of OPEN staging whose lock it holds (R131). -/
def Staging.editedBy (x : Staging) (l : Link) : Option Plan :=
  match x with
  | .opened staged holder => if holder = l then some staged else none
  | .empty | .sealed _ _ _ => none

/-- WRITE ENTRY (R133): the state after it, the reply code, and the clamp count of an OK reply. -/
def State.writeEntry (s : State) (l : Link) (kind number : Byte) (item : List Byte) : State × ReplyCode × Nat :=
  match s.planStore.staging.editedBy l with
  | none => (s, .notOwner, 0)
  | some staged =>
    match readItem kind number item with
    | none => (s, .malformed, 0)
    | some (x, clamps) => (s.setStaging (.opened (staged.put x) l), .ok, clamps)

/-! ### Validation (R136 to R139) -/

inductive ErrorKind where
  | bandInverted
  | channelDisabled
  | spreadSameChannel
  | spreadCrossReference
  | emptyTerm
  | guardFrozen
  | guardLowered
deriving DecidableEq, Repr

inductive ItemKind where
  | check
  | channel
  | group
  | reference
  | global
  | weights
deriving DecidableEq, Repr

/-- An error record of a seal (R137). -/
structure SealError where
  kind : ErrorKind
  item : ItemKind
  number : Nat
deriving DecidableEq, Repr

def ErrorKind.byte : ErrorKind → Byte
  | .bandInverted => 1
  | .channelDisabled => 2
  | .spreadSameChannel => 3
  | .spreadCrossReference => 4
  | .emptyTerm => 5
  | .guardFrozen => 6
  | .guardLowered => 7

def ItemKind.byte : ItemKind → Byte
  | .check => 1
  | .channel => 2
  | .group => 3
  | .reference => 4
  | .global => 5
  | .weights => 6

def SealError.bytes (e : SealError) : List Byte := [e.kind.byte, e.item.byte, byteOf e.number]

/-- BAND INVERTED. -/
def CheckEntry.bandInverted (e : CheckEntry) : Bool :=
  if e.quantity = .mean then decide (e.high.toInt < e.low.toInt) else decide (e.high.toNat < e.low.toNat)

/-- CHANNEL DISABLED. -/
def Plan.namesDisabled (p : Plan) (e : CheckEntry) : Bool :=
  !p.channels[e.channel].enabled || (e.quantity == .spread && !p.channels[e.second].enabled)

/-- SPREAD SAME CHANNEL. -/
def CheckEntry.spreadSame (e : CheckEntry) : Bool := e.quantity == .spread && e.second == e.channel

/-- SPREAD CROSS REFERENCE. -/
def Plan.spreadCross (p : Plan) (e : CheckEntry) : Bool :=
  e.quantity == .spread && e.second != e.channel && p.refOf e.channel != p.refOf e.second

/-- EMPTY TERM of a group. -/
def Plan.emptyTerm (p : Plan) (g : Group) : Bool :=
  p.groups[g].combine == .and && (p.termUsed g .t1 != p.termUsed g .t2)

/-- The parts frozen at guard levels 1 and 2 (R138): channel settings, reference settings, weighting table. -/
def Plan.freezesSettings (p : Plan) : Bool := decide (1 ≤ p.guardLevel)

/-- The parts frozen at guard level 2 beside those of level 1 (R138): group settings, and check entries but for
*enabled*. -/
def Plan.freezesChecks (p : Plan) : Bool := decide (2 ≤ p.guardLevel)

/-- An error record if its condition is found. -/
def found (b : Bool) (kind : ErrorKind) (item : ItemKind) (number : Nat) : List SealError :=
  if b then [⟨kind, item, number⟩] else []

/-- The errors of a check of the staged plan, against the active plan. -/
def Plan.checkErrors (staged active : Plan) (i : CheckIx) : List SealError :=
  let e := staged.checks[i]
  found (e.enabled && e.bandInverted) .bandInverted .check i.val
    ++ found (e.enabled && staged.namesDisabled e) .channelDisabled .check i.val
    ++ found (e.enabled && e.spreadSame) .spreadSameChannel .check i.val
    ++ found (e.enabled && staged.spreadCross e) .spreadCrossReference .check i.val
    ++ found (active.freezesChecks && e != { active.checks[i] with enabled := e.enabled }) .guardFrozen .check i.val

def Plan.channelErrors (staged active : Plan) (c : Channel) : List SealError :=
  found (active.freezesSettings && staged.channels[c] != active.channels[c]) .guardFrozen .channel (c.val + 1)

def Plan.groupErrors (staged active : Plan) (g : Group) : List SealError :=
  found (staged.emptyTerm g) .emptyTerm .group (g.val + 1)
    ++ found (active.freezesChecks && staged.groups[g] != active.groups[g]) .guardFrozen .group (g.val + 1)

def Plan.referenceErrors (staged active : Plan) (r : Ref) : List SealError :=
  found (active.freezesSettings && staged.refs.get r != active.refs.get r) .guardFrozen .reference r.number.toNat

/-- The eighth slot of block 8 is 0 in every plan, so it never differs (R139). -/
def Plan.weightErrors (staged active : Plan) (b : Fin 8) : List SealError :=
  found (active.freezesSettings && staged.weightBlock b != active.weightBlock b) .guardFrozen .weights (b.val + 1)

def Plan.globalErrors (staged active : Plan) : List SealError :=
  found (decide (staged.guardLevel < active.guardLevel)) .guardLowered .global 0

/-- The errors of a validation, by item and within an item by kind (R137). -/
def Plan.errors (staged active : Plan) : List SealError :=
  (List.finRange 64).flatMap (staged.checkErrors active)
    ++ (List.finRange 16).flatMap (staged.channelErrors active)
    ++ (List.finRange 4).flatMap (staged.groupErrors active)
    ++ [Ref.r1, Ref.r2].flatMap (staged.referenceErrors active)
    ++ (List.finRange 8).flatMap (staged.weightErrors active)
    ++ staged.globalErrors active

/-! ### Sealing and discarding (R135, R140) -/

/-- The generation after a generation: from 65535 it wraps to 1 (R135). -/
def nextGeneration (n : Half) : Half := if n = 65535 then 1 else n + 1

/-- The body of a PLAN ERRORS reply (11.4): the total, the count of the records listed, at most eight of them. -/
def errorBody (es : List SealError) : List Byte :=
  le16 (halfOf es.length) ++ [byteOf (es.take 8).length] ++ (es.take 8).flatMap SealError.bytes

/-- SEAL (R135): the state after it, the reply code and the body. -/
def State.sealStaging (s : State) (l : Link) : State × ReplyCode × List Byte :=
  match s.planStore.staging.editedBy l with
  | none => (s, .notOwner, [])
  | some staged =>
    let errors := staged.errors s.plan
    if errors.isEmpty then
      let n := nextGeneration s.planStore.generation
      ((s.setStaging (.sealed staged n none)).raisePlan (some l) .opened .sealed n, .ok, le16 n)
    else (s, .planErrors, errorBody errors)

/-- OPEN staging is discarded by the command or the link reset of its holder (R140, R143). -/
def State.discardOpen (s : State) (l : Link) : State :=
  (s.setStaging .empty).raisePlan (some l) .opened .empty s.planStore.generation

/-- A sealed plan of generation `n` is abandoned (R140, R142). -/
def State.abandonSealed (s : State) (subject : Option Link) (n : Half) : State :=
  (s.setStaging .empty).raisePlan subject .sealed .empty n

/-- DISCARD STAGING (R140). -/
def State.discardStaging (s : State) (l : Link) : State × ReplyCode :=
  match s.planStore.staging with
  | .empty => (s, .wrongState)
  | .opened _ holder => if holder = l then (s.discardOpen l, .ok) else (s, .notOwner)
  | .sealed _ n _ => if l = .m then (s, .notPermitted) else (s.abandonSealed (some l) n, .ok)

/-! ### Activation (R144) -/

/-- What an activation does to a channel (R32). -/
inductive ChannelCase where
  | enabled
  | disabled
  | changed
  | unchanged
deriving DecidableEq, Repr

/-- The case of a channel between two plans (R32). -/
def Plan.channelCase (old new : Plan) (c : Channel) : ChannelCase :=
  match old.channels[c].enabled, new.channels[c].enabled with
  | false, true => .enabled
  | true, false => .disabled
  | true, true =>
    if old.channels[c] = new.channels[c] ∧ old.refOf c = new.refOf c then .unchanged else .changed
  | false, false => .unchanged

/-- The channel converts from strobe 0 of the next cycle start of its reference, and no strobe before that (R17). -/
def State.disarm (s : State) (c : Channel) : State :=
  s.setConverter c { s.converters[c] with armed := false }

/-- The channel's plan epoch moves on (R20, R34). -/
def State.advanceEpoch (s : State) (c : Channel) : State :=
  s.setBuffers c { s.buffers[c] with epoch := s.buffers[c].epoch + 1 }

/-- The activation at one channel, the new plan being active (R17, R33, R34, R76). -/
def State.activateChannel (old : Plan) (s : State) (c : Channel) : State :=
  match old.channelCase s.plan c with
  | .unchanged => s
  | .enabled => (s.advanceEpoch c).disarm c
  | .disabled => (s.emptyChannel c).disarm c
  | .changed => if old.refOf c = s.plan.refOf c then s.emptyChannel c else (s.emptyChannel c).disarm c

/-- An activation restarts a check (R145). -/
def Plan.restarts (old new : Plan) (i : CheckIx) : Bool :=
  let e := new.checks[i]
  let g := new.checkGroup i
  old.checks[i] != e || old.channels[e.channel] != new.channels[e.channel]
    || (e.quantity == .spread && old.channels[e.second] != new.channels[e.second])
    || old.groups[g] != new.groups[g]
    || (e.quantity == .weighted && old.weights != new.weights)

/-- The status of a restarted check (R146). -/
def CheckStatus.restart (enabled suspended : Bool) (st : CheckStatus) : CheckStatus :=
  if enabled then { st.cleared suspended with last := none } else { state := .off, run := 0, tally := 0, last := none }

/-- The status of a check after the restarts and the examination of the causes at an activation (R97, R145, R146). -/
def State.activated (old : Plan) (s : State) (i : CheckIx) : CheckStatus :=
  if old.restarts s.plan i then s.checks[i].restart s.plan.checks[i].enabled (s.suspends i)
  else s.examined (fun _ => true) i

/-- An activation ends the test of a group that has no enabled channel under the new plan (R157). -/
def State.planEndsTest (s : State) (g : Group) : Bool :=
  s.tests[g].isRunning && !(List.finRange 16).any (fun c => s.plan.channels[c].enabled && s.plan.groupOf c == g)

/-- The end of a group's test within an activation: its notices come before every PERMIT notice of the activation
(R144, R158). -/
def State.closeTestByPlan (s : State) (g : Group) : State :=
  let s1 := s.closeTest g .plan
  s1.commitChecks (s1.resetChecks (fun g' => g' == g)) (fun i => s1.groupCycle (s1.plan.checkGroup i))

/-- The other changes of an activation to a group's verdict: the end of its test (R122), UNPLANNED (R115), BLIND
(R121). -/
def State.activateVerdict (s : State) (ended : Group → Bool) (g : Group) (v : Verdict) : Verdict :=
  let v1 := if ended g then v.endTest else v
  let v2 := { v1 with reasons := { v1.reasons with unplanned := v1.reasons.unplanned || !s.plan.protects g } }
  v2.setBlind (s.isBlind g)

/-- The verdict unit at an activation recomputes every group (R113) and sets each permit once (R114). -/
def State.activateVerdicts (s : State) (ended : Group → Bool) : State :=
  (s.commitVerdicts (fun g => s.activateVerdict ended g (s.recompute g s.verdicts[g])) s.groupCycle).setAlert

/-- The part of an activation that follows the swap of the plans and the PLAN notice, `old` being the plan before: the
channels in increasing number, the restarts, the tests that end, the sources (R156), and the verdicts. The tests that end do so in increasing group number,
which orders their TEST notices (DESIGN CHOICE, unsafe: log entries 15 and 26). -/
def State.activateBlocks (s : State) (old : Plan) : State :=
  let s1 := (List.finRange 16).foldl (State.activateChannel old) s
  let s2 := s1.commitChecks (s1.activated old) (fun i => s1.groupCycle (s1.plan.checkGroup i))
  let ended := s2.planEndsTest
  let s3 := ((List.finRange 4).filter ended).foldl State.closeTestByPlan s2
  s3.returnSources.activateVerdicts ended

/-- Activation of the staged plan under generation `n`, completed by link `l` (R144). -/
def State.activate (s : State) (l : Link) (staged : Plan) (n : Half) : State :=
  let s1 := { s with planStore := { active := staged, generation := n, staging := .empty } }
  (s1.raisePlan (some l) .sealed .activated n).activateBlocks s.plan

/-- ACCEPT PLAN from Link A or Link B (R141). -/
def State.acceptPlan (s : State) (l : Link) (generation : Half) : State × ReplyCode :=
  match s.planStore.staging with
  | .empty | .opened _ _ => (s, .wrongState)
  | .sealed staged n accept =>
    if generation ≠ n then (s, .stale)
    else
      match accept with
      | none => (s.setStaging (.sealed staged n (some (l, s.clock))), .ok)
      | some a => if a.1 = l then (s, .ok) else (s.activate l staged n, .ok)

/-- The pairing window of the accepts expires (R142). -/
def State.expireAccept (s : State) : State :=
  match s.planStore.staging with
  | .sealed _ n (some _) => s.abandonSealed none n
  | .empty | .opened _ _ | .sealed _ _ none => s

/-- A link reset at the plan store (R143): the holder's staging is discarded, the link's accept withdrawn. -/
def State.resetStaging (s : State) (l : Link) : State :=
  match s.planStore.staging with
  | .opened _ holder => if holder = l then s.discardOpen l else s
  | .sealed staged n (some a) => if a.1 = l then s.setStaging (.sealed staged n none) else s
  | .empty | .sealed _ _ none => s

/-- READ ENTRY (R148): the reply code and the body. The field tests come before the test of the staging state. -/
def State.readEntry (s : State) (plan kind number : Byte) : ReplyCode × List Byte :=
  let reply := fun (p : Plan) (generation : Option Half) =>
    match p.item kind number with
    | none => (ReplyCode.malformed, [])
    | some x =>
      (ReplyCode.ok, [flagByte generation.isSome] ++ le16 (generation.getD 0) ++ [kind, number] ++ x.bytes)
  match plan.toNat with
  | 0 => reply s.plan (some s.planStore.generation)
  | 1 =>
    match s.planStore.staging with
    | .opened staged _ => reply staged none
    | .sealed staged n _ => reply staged (some n)
    | .empty => if (s.plan.item kind number).isSome then (.wrongState, []) else (.malformed, [])
  | _ => (.malformed, [])

end Sys2Proof.Machine
end

