-- ==== Sys2Proof/Machine/Links.lean ====
section
/-! DEFINITION. The link ports (R161 to R177): what each command does when a port executes it, the queue, drains,
transfers and the control frames. -/

namespace Sys2Proof.Machine

/-! ### Roles (R165) -/

/-- The role table: whether it lets the sending link send the command to its owning block. -/
def permitted (l : Link) : Command → Bool
  | .acceptPlan _ | .clearLatch _ | .startQuiet _ | .restorePermit _ | .testGrant _ _ | .clearFaults => l != .m
  | .loadPattern _ _ _ | .testSource _ _ => l == .m
  | .readStatus | .readStats _ _ _ | .readNotices _ | .setNoticeMask _ | .clearOverflow | .drainWait
  | .readResult _ _ | .readChecks _ _ | .readGroup _ | .readEntry _ _ _ | .openStaging | .writeEntry _ _ _
  | .seal | .discardStaging | .engineService _ _ | .testEnd _ => true

/-! ### The command step (R165): the state after it, the reply code and the body -/

/-- What the command step of an executed command brings about. -/
structure Answer where
  state : State
  code : ReplyCode
  body : List Byte
deriving DecidableEq, Repr

/-- An answer without a body. -/
def Answer.plain (x : State × ReplyCode) : Answer := ⟨x.1, x.2, []⟩

/-- A command whose fields identify nothing (R165, R167). -/
def malformed (s : State) : Answer := ⟨s, .malformed, []⟩

/-- READ STATUS (R175). -/
def runReadStatus (s : State) : Answer := ⟨s, .ok, s.statusRecord⟩

def ChannelCounters.bytes (n : ChannelCounters) : List Byte :=
  [n.closed, n.superseded, n.lost, n.short, n.clipped].flatMap (fun x => le16 (halfOf x))

def RefCounters.bytes (n : RefCounters) : List Byte :=
  [n.spurious, n.locks, n.holds, n.losses].flatMap (fun x => le16 (halfOf x))

/-- The counters of a channel are cleared (R176). -/
def State.clearChannelCounters (s : State) (c : Channel) : State :=
  s.setBuffers c { s.buffers[c] with counters := { closed := 0, superseded := 0, lost := 0, short := 0, clipped := 0 } }

/-- The counters of a reference are cleared (R176). -/
def State.clearRefCounters (s : State) (r : Ref) : State :=
  s.setTracker r { s.trackers.get r with counters := { spurious := 0, locks := 0, holds := 0, losses := 0 } }

/-- READ STATS (R176). -/
def runReadStats (s : State) (kind number clear : Byte) : Answer :=
  match kind.toNat with
  | 0 =>
    match indexFrom1 16 number with
    | some c =>
      ⟨if bitOf clear 0 then s.clearChannelCounters c else s, .ok, [kind, number] ++ (s.buffers[c]).counters.bytes⟩
    | none => malformed s
  | 1 =>
    match refOfByte number with
    | some r =>
      ⟨if bitOf clear 0 then s.clearRefCounters r else s, .ok, [kind, number] ++ (s.trackers.get r).counters.bytes⟩
    | none => malformed s
  | _ => malformed s

/-- How many notices READ NOTICES removes (R172). -/
def noticesRead (p : Port) (maximum : Byte) : Nat := min (min maximum.toNat 8) p.log.length

/-- READ NOTICES (R172). -/
def runReadNotices (s : State) (l : Link) (maximum : Byte) : Answer :=
  let p := s.ports.get l
  let n := noticesRead p maximum
  ⟨s.setPort l { p with log := p.log.drop n }, .ok,
    [byteOf n, flagByte p.overflow] ++ (p.log.take n).flatMap Notice.bytes⟩

/-- The mask a byte names: bit k − 1 enables the kind of code k (R179). -/
def maskOf (b : Byte) : NoticeMask :=
  { check := bitOf b 0, permit := bitOf b 1, plan := bitOf b 2, sync := bitOf b 3, engine := bitOf b 4,
    test := bitOf b 5 }

/-- SET NOTICE MASK (R170). -/
def runSetNoticeMask (s : State) (l : Link) (mask : Byte) : Answer :=
  ⟨s.setPort l { s.ports.get l with mask := maskOf mask }, .ok, []⟩

/-- CLEAR OVERFLOW (R171). -/
def runClearOverflow (s : State) (l : Link) : Answer :=
  ⟨s.setPort l { s.ports.get l with overflow := false }, .ok, []⟩

/-- READ RESULT (R77). -/
def runReadResult (s : State) (channel : Byte) (orders : List Byte) : Answer :=
  match indexFrom1 16 channel with
  | none => malformed s
  | some c =>
    match s.records[c] with
    | none => ⟨s, .noResult, []⟩
    | some r => ⟨s, .ok, r.body c orders⟩

/-- The checks that READ CHECKS answers: at most sixteen from the first onwards, none beyond check 63 (R107). -/
def checksRead (first : CheckIx) (count : Byte) : List CheckIx :=
  ((List.finRange 64).drop first.val).take (min count.toNat 16)

/-- READ CHECKS (R107). -/
def runReadChecks (s : State) (first count : Byte) : Answer :=
  match indexFrom0 64 first with
  | none => malformed s
  | some i =>
    ⟨s, .ok, [byteOf (checksRead i count).length] ++ (checksRead i count).flatMap s.checkRecord⟩

/-- READ GROUP (R126). -/
def runReadGroup (s : State) (group : Byte) : Answer :=
  match indexFrom1 4 group with
  | none => malformed s
  | some g => ⟨s, .ok, s.groupRecord g⟩

/-- READ ENTRY (R148). -/
def runReadEntry (s : State) (plan kind number : Byte) : Answer :=
  ⟨s, (s.readEntry plan kind number).1, (s.readEntry plan kind number).2⟩

/-- OPEN STAGING (R132). -/
def runOpenStaging (s : State) (l : Link) : Answer := .plain (s.openStaging l)

/-- WRITE ENTRY (R133): an OK reply carries the clamp count. -/
def runWriteEntry (s : State) (l : Link) (kind number : Byte) (item : List Byte) : Answer :=
  let x := s.writeEntry l kind number item
  ⟨x.1, x.2.1, if x.2.1 = .ok then [byteOf x.2.2] else []⟩

/-- SEAL (R135). -/
def runSeal (s : State) (l : Link) : Answer :=
  let x := s.sealStaging l
  ⟨x.1, x.2.1, x.2.2⟩

/-- DISCARD STAGING (R140). -/
def runDiscardStaging (s : State) (l : Link) : Answer := .plain (s.discardStaging l)

/-- ACCEPT PLAN (R141). -/
def runAcceptPlan (s : State) (l : Link) (generation : Half) : Answer := .plain (s.acceptPlan l generation)

/-- CLEAR LATCH (R104). -/
def runClearLatch (s : State) (check : Byte) : Answer :=
  match indexFrom0 64 check with
  | none => malformed s
  | some i => ⟨s.clearLatch i, .ok, []⟩

/-- START QUIET (R103). -/
def runStartQuiet (s : State) (group : Byte) : Answer :=
  match indexFrom1 4 group with
  | none => malformed s
  | some g => ⟨s.startQuiet g, .ok, []⟩

/-- RESTORE PERMIT (R118). -/
def runRestorePermit (s : State) (l : Link) (group : Byte) : Answer :=
  match indexFrom1 4 group with
  | none => malformed s
  | some g => .plain (s.restorePermit l g)

/-- CLEAR FAULTS (R67). -/
def runClearFaults (s : State) : Answer := ⟨s.clearFaults, .ok, []⟩

/-- ENGINE SERVICE (R65, R66): direction 0 is out, 1 is in, and any other identifies nothing. -/
def runEngineService (s : State) (engine direction : Byte) : Answer :=
  match engineOfByte engine with
  | none => malformed s
  | some e =>
    match direction.toNat with
    | 0 => .plain (s.serviceOut e)
    | 1 => ⟨s.serviceIn e, .ok, []⟩
    | _ => malformed s

/-- TEST GRANT (R150, R151): the duration is clamped before it is compared. -/
def runTestGrant (s : State) (l : Link) (group : Byte) (seconds : Half) : Answer :=
  match indexFrom1 4 group with
  | none => malformed s
  | some g => .plain (s.grantTest l g (clampDuration seconds.toNat))

/-- TEST END (R157). -/
def runTestEnd (s : State) (group : Byte) : Answer :=
  match indexFrom1 4 group with
  | none => malformed s
  | some g => .plain (s.stopTest g)

/-- LOAD PATTERN (R154): the field tests, then the test for use. -/
def runLoadPattern (s : State) (store slot : Byte) (samples : List Half) : Answer :=
  match indexFrom1 4 store with
  | none => malformed s
  | some p =>
    if 127 < slot.toNat ∨ 28 < samples.length ∨ 128 < slot.toNat + samples.length then malformed s
    else if s.patternInUse p then ⟨s, .inUse, []⟩
    else ⟨s.loadPattern p slot.toNat samples, .ok, []⟩

/-- The source a byte names: 0 LIVE, 1 to 4 a pattern (R179). -/
def sourceOf (b : Byte) : Option Source :=
  if b = 0 then some .live else (indexFrom1 4 b).map .pattern

/-- TEST SOURCE (R155). -/
def runTestSource (s : State) (channel source : Byte) : Answer :=
  match indexFrom1 16 channel, sourceOf source with
  | some c, some x => .plain (s.switchSource c x)
  | _, _ => malformed s

/-- The command step. DRAIN WAIT, which may post its reply later, is no case of it (R164). -/
def State.runCommand (s : State) (l : Link) : Command → Answer
  | .readStatus => runReadStatus s
  | .readStats kind number clear => runReadStats s kind number clear
  | .readNotices maximum => runReadNotices s l maximum
  | .setNoticeMask mask => runSetNoticeMask s l mask
  | .clearOverflow => runClearOverflow s l
  | .drainWait => ⟨s, .ok, [0]⟩
  | .readResult channel orders => runReadResult s channel orders
  | .readChecks first count => runReadChecks s first count
  | .readGroup group => runReadGroup s group
  | .readEntry plan kind number => runReadEntry s plan kind number
  | .openStaging => runOpenStaging s l
  | .writeEntry kind number item => runWriteEntry s l kind number item
  | .seal => runSeal s l
  | .discardStaging => runDiscardStaging s l
  | .acceptPlan generation => runAcceptPlan s l generation
  | .clearLatch check => runClearLatch s check
  | .startQuiet group => runStartQuiet s group
  | .restorePermit group => runRestorePermit s l group
  | .clearFaults => runClearFaults s
  | .engineService engine direction => runEngineService s engine direction
  | .testGrant group seconds => runTestGrant s l group seconds
  | .testEnd group => runTestEnd s group
  | .loadPattern store slot samples => runLoadPattern s store slot samples
  | .testSource channel source => runTestSource s channel source

/-! ### Execution at a port (R164, R165) -/

/-- The reply to a frame is posted; a MALFORMED one halts the port (R164, R167). -/
def State.reply (s : State) (l : Link) (f : CmdFrame) (code : ReplyCode) (body : List Byte) : State :=
  let p := (s.ports.get l).post { command := f.code, tag := f.tag, code := code, body := body }
  s.setPort l { p with halted := p.halted || code == .malformed }

/-- DRAIN WAIT at its execution (R169). Frames are waited for by their join orders; with none to wait for the reply is
posted at once. -/
def State.startDrain (s : State) (l : Link) (f : CmdFrame) : State :=
  if s.unsettled.isEmpty then s.reply l f .ok [0]
  else
    s.setPort l { s.ports.get l with
      drain := some { tag := f.tag, awaiting := s.unsettled, count := s.unsettled.length, started := s.clock } }

/-- A port executes a frame that has left its queue: frame step, role step, command step (R165). -/
def State.runFrame (s : State) (l : Link) (f : CmdFrame) : State :=
  match parse f with
  | none => s.reply l f .malformed []
  | some c =>
    if !permitted l c then s.reply l f .notPermitted []
    else if c = .drainWait then s.startDrain l f
    else
      let x := s.runCommand l c
      x.state.reply l f x.code x.body

/-- The port executes the command at the head of its queue, which leaves the queue (R164). -/
def State.runHead (s : State) (l : Link) : State :=
  let p := s.ports.get l
  match p.queue with
  | [] => s
  | f :: rest => (s.setPort l { p with queue := rest }).runFrame l f

/-- The ports that execute a command now (R164). -/
def State.readyPorts (s : State) : List Link := [Link.a, .b, .m].filter (fun l => (s.ports.get l).ready)

/-- One execution among the ports that are ready. With several, which goes first is the free value
`Config.portChoice`. -/
def State.runOne (s : State) : State :=
  match s.readyPorts with
  | [] => s
  | [l] => s.runHead l
  | l :: ls =>
    { s with choices := s.choices + 1 }.runHead ((l :: ls).getD (Config.portChoice s.choices % (l :: ls).length) l)

/-- At most `n` executions. -/
def State.runPorts : Nat → State → State
  | 0, s => s
  | n + 1, s => State.runPorts n s.runOne

/-- How many commands are queued at the three ports: each execution takes one, and none joins. -/
def State.queued (s : State) : Nat :=
  s.ports.a.queue.length + s.ports.b.queue.length + s.ports.m.queue.length

/-- Every port executes its queued commands while it is neither halted nor draining (R164). This comes after the whole of
the event or command that freed a port: its evaluation, its notices, its takes and its own reply (the model's choice, log
entry 35). -/
def State.runAll (s : State) : State := State.runPorts s.queued s

/-! ### Frames taken and transfers (R162, R163) -/

/-- The most commands that may be outstanding at a port (R161). -/
def outstandingRoom : Nat := 16

/-- A command frame is taken (R162): at outstanding count 16 it is dropped, below that it joins the queue and is executed
under R164. -/
def State.takeCommand (s : State) (l : Link) (f : CmdFrame) : State :=
  let p := s.ports.get l
  if outstandingRoom ≤ p.outstanding then s.setPort l { p with dropped := true }
  else (s.setPort l { p with queue := p.queue ++ [f] }).runAll

/-- A frame is dropped at outstanding count 16 (R162). -/
def State.dropFrame (s : State) (l : Link) : State :=
  let p := s.ports.get l
  if outstandingRoom ≤ p.outstanding then s.setPort l { p with dropped := true } else s

/-- A transfer out begins (R163): the status byte is composed and clocked out, and DROPPED is cleared. -/
def State.transferOut (s : State) (l : Link) : State :=
  let p := s.ports.get l
  { s.setPort l { p with dropped := false } with wires := s.wires.set l { status := p.statusByte, bytes := [] } }

/-- The oldest reply is clocked out whole and leaves the reply buffer (R163); with none there, the master receives the
filler byte 0xFF, which reads nothing (R178). -/
def State.readReply (s : State) (l : Link) : State :=
  let p := s.ports.get l
  let w := s.wires.get l
  match p.replies with
  | [] => { s with wires := s.wires.set l { w with bytes := [0xFF] } }
  | r :: rest =>
    { s.setPort l { p with replies := rest } with wires := s.wires.set l { w with bytes := r.bytes } }

/-! ### Control frames (R167, R168) -/

/-- RESUME (R167). -/
def State.resumeLink (s : State) (l : Link) : State :=
  let p := s.ports.get l
  if p.halted then (s.setPort l { p with halted := false }).runAll else s

/-- The link has made the waiting offer of a group. -/
def State.offeredBy (s : State) (l : Link) (g : Group) : Bool :=
  match s.tests[g] with
  | .offered l' _ _ => l' == l
  | .idle | .running _ => false

/-- LINK RESET (R168): the port's own state first, then what the link holds in the shared state. -/
def State.resetLink (s : State) (l : Link) : State :=
  let s1 := (s.setPort l Port.reset).resetStaging l
  let s2 := s1.reasonEvent (fun _ => Verdict.withdrawRestoreOf l)
  ((List.finRange 4).filter (s2.offeredBy l)).foldl (fun s g => s.endOffer g .linkReset) s2

/-- A frame is taken that spells no command by its code and length: a control frame acts at once, any other frame is a
command frame (R162, R178). -/
def State.frameTaken (s : State) (l : Link) (f : CmdFrame) : State :=
  if isControl f then if f.code = 0xF0 then s.resumeLink l else s.resetLink l
  else s.takeCommand l f

/-- A string of bytes is clocked into link `l`, and the port takes the frame it brings (R162, R178). -/
def State.clockIn (s : State) (l : Link) (bytes : List Byte) : State :=
  match frameOfBytes bytes with
  | some f => s.frameTaken l f
  | none => s

/-! ### Drain timeout (R169) -/

/-- The drain of a link reaches 1000 ms: TIMEOUT is posted with the number of frames still unsettled. -/
def State.endDrain (s : State) (l : Link) : State :=
  let p := s.ports.get l
  match p.drain with
  | none => s
  | some d =>
    s.setPort l ({ p with drain := none }.post
      { command := Command.drainWait.code, tag := d.tag, code := .timeout, body := [byteOf d.awaiting.length] })

end Sys2Proof.Machine
end

