-- ==== Sys2Proof/Machine/Trackers.lean ====
section
/-! DEFINITION. The reference trackers (R1 to R16): the sync input filter, the classes of edges, cycles, hold and
re-lock. -/

namespace Sys2Proof.Machine

/-! ### The sync input filter (R1, R12) -/

/-- One sample of the sync input at tick `now` under filter length `f`. A high sample that brings the run to `f` while
the filtered level is low accepts the candidate edge; a low one that does so while it is high makes it low. -/
def Tracker.sample (t : Tracker) (f : Nat) (now : Tick) (high : Bool) : Tracker :=
  let run := if high = t.level then t.run + 1 else 1
  let candidate := if high then (if t.level then t.candidate else some now) else none
  { t with
    level := high
    run := run
    candidate := candidate
    filtered := if !high && decide (f ≤ run) then false else t.filtered
    accepting := if high && !t.filtered && decide (f ≤ run) then candidate else none
    nextSample := t.nextSample + sampleTicks }

/-- SYNC_INPUT_SAMPLE: the tracker of `r` samples its input under the filter length of the active plan. -/
def State.sampleInput (s : State) (r : Ref) (high : Bool) : State :=
  s.setTracker r ((s.trackers.get r).sample (s.plan.refs.get r).filterLength s.now high)

/-! ### Classes of edges (R2) -/

inductive EdgeClass where
  | first
  | spurious
  | inWindow (interval : Nat)
  | late
deriving DecidableEq, Repr

/-- The class of an edge at instant `e` (R2). -/
def classify (previous : Option Tick) (e : Tick) : EdgeClass :=
  match previous with
  | none => .first
  | some p =>
    let interval := e - p
    if interval < tMin then .spurious
    else if interval ≤ tMax then .inWindow interval
    else .late

/-! ### Cycles (R4, R9) -/

/-- The deadline of a LOCKED cycle started at `st` with period `period` (R9). -/
def deadlineOf (st period : Nat) : Tick := st + min (period + period / 16) tMax

/-- A cycle of reference `r` starts at `st` (R4): the cycle number increments, the assembler and the evaluator are told,
and strobe 0 follows. -/
def State.startCycle (s : State) (r : Ref) (st : Tick) : State :=
  let t := s.trackers.get r
  let t1 := { t with cycle := t.cycle + 1, start := some st, nextStrobe := some 1 }
  ((((s.setTracker r t1).startFrames r t1.cycle).countQuiet r).armConverters r).issueStrobe r 0

/-- The SYNC notice of a change of tracker state, after the change (R15). -/
def State.raiseSync (s : State) (r : Ref) (old new : TrackerMode) : State :=
  let t := s.trackers.get r
  s.raise (.sync r t.cycle old new (frequency t.period))

/-- The checks and the verdicts of the groups on a reference that has entered or left SEEKING: NO LOCK begins or ends
(R97), and BLIND is examined (R121). The two are taken as one event, so a permit is set once (at a loss of lock DESIGN
CHOICE, unsafe: log entry 30; the order of the notices: log entry 15). -/
def State.lockEvent (s : State) (r : Ref) : State :=
  s.examineEvent (fun g => s.plan.groups[g].ref == r)
    (fun g v => if s.plan.groups[g].ref = r then v.setBlind (s.isBlind g) else v)

/-- A tracker enters LOCKED at an edge with its interval, and a cycle starts at the edge (R6, R11). -/
def State.enterLocked (s : State) (r : Ref) (e : Tick) (interval : Nat) : State :=
  let t := s.trackers.get r
  (s.setTracker r { t with
    mode := .locked
    period := interval
    heldCount := 0
    deadline := some (deadlineOf e interval)
    counters := { t.counters with locks := bump16 t.counters.locks } }).startCycle r e

/-- A lock from SEEKING (R6). -/
def State.lock (s : State) (r : Ref) (e : Tick) (interval : Nat) : State :=
  ((s.enterLocked r e interval).raiseSync r .seeking .locked).lockEvent r

/-- An in-window edge in LOCKED ends the cycle, complete if strobe 127 has been issued and short otherwise, and the next
starts at the edge (R7, R8). -/
def State.lockedEdge (s : State) (r : Ref) (e : Tick) (interval : Nat) : State :=
  let issued := (s.trackers.get r).nextStrobe = some 128
  let s1 := s.endCycleFrames r (if issued then .complete else .short)
  let t := s1.trackers.get r
  (s1.setTracker r { t with period := interval, deadline := some (deadlineOf e interval) }).startCycle r e

/-- An in-window edge in HOLDING re-locks: the held cycle ends short (R11). -/
def State.relock (s : State) (r : Ref) (e : Tick) (interval : Nat) : State :=
  ((s.endCycleFrames r .short).enterLocked r e interval).raiseSync r .holding .locked

/-- The tracker acts on an edge accepted at instant `e`: the filtered level becomes high (R1), the edge is classified
(R2), and an in-window edge acts according to the state (R6, R7, R8, R11). -/
def State.acceptEdge (s : State) (r : Ref) (e : Tick) : State :=
  let t := { s.trackers.get r with filtered := true, accepting := none }
  match classify t.previousEdge e with
  | .spurious =>
    s.setTracker r { t with counters := { t.counters with spurious := bump16 t.counters.spurious } }
  | .first | .late => s.setTracker r { t with previousEdge := some e }
  | .inWindow interval =>
    let s1 := s.setTracker r { t with previousEdge := some e }
    match t.mode with
    | .seeking => s1.lock r e interval
    | .locked => s1.lockedEdge r e interval
    | .holding => s1.relock r e interval

/-- The deadline expires at the present tick: the cycle ends held, and a held cycle starts (R9). -/
def State.expireDeadline (s : State) (r : Ref) : State :=
  let s1 := s.endCycleFrames r .held
  let t := s1.trackers.get r
  ((s1.setTracker r { t with
    mode := .holding
    heldCount := 1
    deadline := none
    counters := { t.counters with holds := bump16 t.counters.holds } }).startCycle r s.now).raiseSync r .locked .holding

/-- The reference is lost (R10). -/
def State.loseReference (s : State) (r : Ref) : State :=
  let t := s.trackers.get r
  ((s.setTracker r { t with
    mode := .seeking
    heldCount := 0
    start := none
    deadline := none
    nextStrobe := none
    counters := { t.counters with losses := bump16 t.counters.losses } }).raiseSync r .holding .seeking).lockEvent r

/-- A held cycle ends at the present tick (R10). -/
def State.endHeldCycle (s : State) (r : Ref) : State :=
  let s1 := s.endCycleFrames r .held
  let t := s1.trackers.get r
  if (s.plan.refs.get r).holdLimit ≤ t.heldCount then s1.loseReference r
  else (s1.setTracker r { t with heldCount := t.heldCount + 1 }).startCycle r s.now

/-- The next strobe of the cycle is issued (R5). -/
def State.nextStrobe (s : State) (r : Ref) : State :=
  let t := s.trackers.get r
  match t.nextStrobe with
  | some k => if h : k < 128 then (s.setTracker r { t with nextStrobe := some (k + 1) }).issueStrobe r ⟨k, h⟩ else s
  | none => s

end Sys2Proof.Machine
end

