-- ==== Sys2Proof/Machine/Events.lean ====
section
/-! DEFINITION. The meanings of the events of the part's own time and of its pins, and the passing of one tick. An event
the State does not have due at the present tick changes nothing. An event that settles frames may end drains, so the
ports then execute what waits behind them (R169), after the whole of the event (the model's choice, log entry 35). -/

namespace Sys2Proof.Machine

/-- What an event answers: always a next state. -/
abbrev Result := Host.Outcome State Fault Refusal

/-- An event with its effect while a condition holds, and with none otherwise. -/
def whenDue (due : Bool) (effect : State) (s : State) : Result := .next (if due then effect else s)

/-! ### Power-on -/

/-- POWER_ON_RESET (R3): every block at its value after power-on reset, the inputs at their levels (R96, R120). -/
def execPowerOnReset (s : State) : Result :=
  .next { State.powerOn s.stopInput s.inService s.pending with choices := s.choices }

/-! ### Trackers -/

/-- SYNC_INPUT_SAMPLE (R1). -/
def execSyncInputSample (r : Ref) (high : Bool) (s : State) : Result :=
  whenDue (s.sampleDue r) (s.sampleInput r high).afterJoins s

/-- EDGE_ACCEPTED (R2). -/
def execEdgeAccepted (r : Ref) (s : State) : Result :=
  match (s.trackers.get r).accepting with
  | some e => whenDue (s.edgeDue r) (s.acceptEdge r e).afterJoins.runAll s
  | none => .next s

/-- DEADLINE_EXPIRY (R9). -/
def execDeadlineExpiry (r : Ref) (s : State) : Result :=
  whenDue (s.deadlineDue r) (s.expireDeadline r).afterJoins.runAll s

/-- HELD_CYCLE_END (R10). -/
def execHeldCycleEnd (r : Ref) (s : State) : Result :=
  whenDue (s.heldEndDue r) (s.endHeldCycle r).afterJoins.runAll s

/-- STROBE (R5). -/
def execStrobe (r : Ref) (s : State) : Result := whenDue (s.strobeDue r) (s.nextStrobe r) s

/-! ### Converters and engines -/

/-- SAMPLE_ARRIVAL (R17, R22). -/
def execSampleArrival (c : Channel) (cycle : Word) (slot : Slot) (analog : Int) (s : State) : Result :=
  match s.arriving c cycle slot with
  | some v => .next (s.arriveSample c v analog).afterJoins.runAll
  | none => .next s

/-- TRANSFORM_COMPLETE (R54): at any tick from the take of the frame in hand, and no later than 250 µs after it.
Commands behind a drain that its settling ends run after the evaluation event, its notices and the engine's next take (the
model's choice, log entry 35). -/
def execTransformComplete (e : Engine) (wrong : Option Figures) (s : State) : Result :=
  match (s.engines.get e).hand with
  | some h => .next (s.completeTransform e h wrong).runAll
  | none => .next s

/-! ### Pins -/

/-- STOP_INPUT_CHANGE (R120). -/
def execStopInputChange (asserted : Bool) (s : State) : Result :=
  whenDue (asserted != s.stopInput) (s.changeStop asserted) s

/-- IN_SERVICE_RISE (R97, R157). -/
def execInServiceRise (g : Group) (s : State) : Result := whenDue (!s.inService[g]) (s.breakerCloses g) s

/-- IN_SERVICE_FALL (R97, R123). -/
def execInServiceFall (g : Group) (s : State) : Result := whenDue s.inService[g] (s.breakerOpens g) s

/-! ### Counters and windows -/

/-- QUIET_END (R102). -/
def execQuietEnd (g : Group) (s : State) : Result := whenDue s.quietEndDue[g] (s.endQuiet g) s

/-- DRAIN_TIMEOUT (R169). -/
def execDrainTimeout (l : Link) (s : State) : Result := whenDue (s.drainDue l) (s.endDrain l).runAll s

/-- ACCEPT_WINDOW_EXPIRY (R142). -/
def execAcceptWindowExpiry (s : State) : Result := whenDue s.acceptDue s.expireAccept s

/-- RESTORE_WINDOW_EXPIRY (R119). -/
def execRestoreWindowExpiry (g : Group) (s : State) : Result := whenDue (s.restoreDue g) (s.expireRestore g) s

/-- OFFER_WINDOW_EXPIRY (R152). -/
def execOfferWindowExpiry (g : Group) (s : State) : Result :=
  whenDue (s.offerDue g) (s.endOffer g .windowExpired) s

/-- TEST_RUN_EXPIRY (R157). -/
def execTestRunExpiry (g : Group) (s : State) : Result := whenDue (s.runDue g) (s.endTest g .expired) s

/-! ### The passing of time -/

/-- One tick passes, unless something is due at the present one. Each 10000th tick is a millisecond (R174). -/
def State.tick (s : State) : State :=
  if s.anyDue then s
  else
    { s with
      now := s.now + 1
      clock := if (s.now + 1) % millisecondTicks = 0 then s.clock + 1 else s.clock }

end Sys2Proof.Machine
end

