-- ==== Sys2Proof/Machine/Commands.lean ====
section
/-! DEFINITION. The meanings of the frames taken at the links and of the transfers out of the part. A command frame is
taken (R162), and a port that is neither halted nor draining executes it at once, with every command behind it (R164). -/

namespace Sys2Proof.Machine

/-! ### Link and status commands -/

/-- READ_STATUS (R175). -/
def execReadStatus (l : Link) (tag : Byte) (s : State) : Result :=
  .next (s.clockIn l (Command.readStatus.frame tag).bytes)

/-- READ_STATS (R176). -/
def execReadStats (l : Link) (tag kind number clear : Byte) (s : State) : Result :=
  .next (s.clockIn l ((Command.readStats kind number clear).frame tag).bytes)

/-- READ_NOTICES (R172). -/
def execReadNotices (l : Link) (tag maximum : Byte) (s : State) : Result :=
  .next (s.clockIn l ((Command.readNotices maximum).frame tag).bytes)

/-- SET_NOTICE_MASK (R170). -/
def execSetNoticeMask (l : Link) (tag mask : Byte) (s : State) : Result :=
  .next (s.clockIn l ((Command.setNoticeMask mask).frame tag).bytes)

/-- CLEAR_OVERFLOW (R171). -/
def execClearOverflow (l : Link) (tag : Byte) (s : State) : Result :=
  .next (s.clockIn l (Command.clearOverflow.frame tag).bytes)

/-- DRAIN_WAIT (R169). -/
def execDrainWait (l : Link) (tag : Byte) (s : State) : Result :=
  .next (s.clockIn l (Command.drainWait.frame tag).bytes)

/-! ### Reading commands -/

/-- READ_RESULT (R77). -/
def execReadResult (l : Link) (tag channel : Byte) (orders : List Byte) (s : State) : Result :=
  .next (s.clockIn l ((Command.readResult channel orders).frame tag).bytes)

/-- READ_CHECKS (R107). -/
def execReadChecks (l : Link) (tag first count : Byte) (s : State) : Result :=
  .next (s.clockIn l ((Command.readChecks first count).frame tag).bytes)

/-- READ_GROUP (R126). -/
def execReadGroup (l : Link) (tag group : Byte) (s : State) : Result :=
  .next (s.clockIn l ((Command.readGroup group).frame tag).bytes)

/-- READ_ENTRY (R148). -/
def execReadEntry (l : Link) (tag plan kind number : Byte) (s : State) : Result :=
  .next (s.clockIn l ((Command.readEntry plan kind number).frame tag).bytes)

/-! ### Plan store commands -/

/-- OPEN_STAGING (R132). -/
def execOpenStaging (l : Link) (tag : Byte) (s : State) : Result :=
  .next (s.clockIn l (Command.openStaging.frame tag).bytes)

/-- WRITE_ENTRY (R133). -/
def execWriteEntry (l : Link) (tag kind number : Byte) (item : List Byte) (s : State) : Result :=
  .next (s.clockIn l ((Command.writeEntry kind number item).frame tag).bytes)

/-- SEAL (R135). -/
def execSeal (l : Link) (tag : Byte) (s : State) : Result :=
  .next (s.clockIn l (Command.seal.frame tag).bytes)

/-- DISCARD_STAGING (R140). -/
def execDiscardStaging (l : Link) (tag : Byte) (s : State) : Result :=
  .next (s.clockIn l (Command.discardStaging.frame tag).bytes)

/-- ACCEPT_PLAN (R141). -/
def execAcceptPlan (l : Link) (tag : Byte) (generation : Half) (s : State) : Result :=
  .next (s.clockIn l ((Command.acceptPlan generation).frame tag).bytes)

/-! ### Check, verdict and engine commands -/

/-- CLEAR_LATCH (R104). -/
def execClearLatch (l : Link) (tag check : Byte) (s : State) : Result :=
  .next (s.clockIn l ((Command.clearLatch check).frame tag).bytes)

/-- START_QUIET (R103). -/
def execStartQuiet (l : Link) (tag group : Byte) (s : State) : Result :=
  .next (s.clockIn l ((Command.startQuiet group).frame tag).bytes)

/-- RESTORE_PERMIT (R118). -/
def execRestorePermit (l : Link) (tag group : Byte) (s : State) : Result :=
  .next (s.clockIn l ((Command.restorePermit group).frame tag).bytes)

/-- CLEAR_FAULTS (R67). -/
def execClearFaults (l : Link) (tag : Byte) (s : State) : Result :=
  .next (s.clockIn l (Command.clearFaults.frame tag).bytes)

/-- ENGINE_SERVICE_IN (R65): ENGINE SERVICE with the direction given; direction 1 is in. -/
def execEngineServiceIn (l : Link) (tag engine direction : Byte) (s : State) : Result :=
  .next (s.clockIn l ((Command.engineService engine direction).frame tag).bytes)

/-- ENGINE_SERVICE_OUT (R66): ENGINE SERVICE with direction 0. -/
def execEngineServiceOut (l : Link) (tag engine : Byte) (s : State) : Result :=
  .next (s.clockIn l ((Command.engineService engine 0).frame tag).bytes)

/-! ### Test unit commands -/

/-- TEST_GRANT (R150). -/
def execTestGrant (l : Link) (tag group : Byte) (seconds : Half) (s : State) : Result :=
  .next (s.clockIn l ((Command.testGrant group seconds).frame tag).bytes)

/-- TEST_END (R157). -/
def execTestEnd (l : Link) (tag group : Byte) (s : State) : Result :=
  .next (s.clockIn l ((Command.testEnd group).frame tag).bytes)

/-- LOAD_PATTERN (R154). -/
def execLoadPattern (l : Link) (tag store slot : Byte) (samples : List Half) (s : State) : Result :=
  .next (s.clockIn l ((Command.loadPattern store slot samples).frame tag).bytes)

/-- TEST_SOURCE (R155). -/
def execTestSource (l : Link) (tag channel source : Byte) (s : State) : Result :=
  .next (s.clockIn l ((Command.testSource channel source).frame tag).bytes)

/-! ### Frames that carry no command, transfers and control frames -/

/-- UNKNOWN_COMMAND (R165). -/
def execUnknownCommand (l : Link) (tag code : Byte) (payload : List Byte) (s : State) : Result :=
  .next (s.clockIn l ({ code := code, tag := tag, payload := payload } : CmdFrame).bytes)

/-- DROPPED_FRAME (R162). -/
def execDroppedFrame (l : Link) (s : State) : Result := .next (s.dropFrame l)

/-- TRANSFER_OUT (R163). -/
def execTransferOut (l : Link) (s : State) : Result := .next (s.transferOut l)

/-- REPLY_READ (R163). -/
def execReplyRead (l : Link) (s : State) : Result := .next (s.readReply l)

/-- RESUME (R167). -/
def execResume (l : Link) (s : State) : Result := .next (s.resumeLink l)

/-- LINK_RESET (R168). -/
def execLinkReset (l : Link) (s : State) : Result := .next (s.resetLink l)

end Sys2Proof.Machine
end

