-- ==== Sys2Proof/Machine/Dispatch.lean ====
section
/-! DEFINITION. The dispatch of commands and events to their meanings, in the order of the table of operations. -/

namespace Sys2Proof.Machine

def exec (i : Instr) (s : State) : Host.Outcome State Fault Refusal :=
  match i with
  | .powerOnReset => Sys2Proof.Machine.execPowerOnReset s
  | .edgeAccepted r => Sys2Proof.Machine.execEdgeAccepted r s
  | .deadlineExpiry r => Sys2Proof.Machine.execDeadlineExpiry r s
  | .heldCycleEnd r => Sys2Proof.Machine.execHeldCycleEnd r s
  | .strobe r => Sys2Proof.Machine.execStrobe r s
  | .sampleArrival c cycle slot analog => Sys2Proof.Machine.execSampleArrival c cycle slot analog s
  | .transformComplete e wrong => Sys2Proof.Machine.execTransformComplete e wrong s
  | .stopInputChange asserted => Sys2Proof.Machine.execStopInputChange asserted s
  | .inServiceRise g => Sys2Proof.Machine.execInServiceRise g s
  | .inServiceFall g => Sys2Proof.Machine.execInServiceFall g s
  | .quietEnd g => Sys2Proof.Machine.execQuietEnd g s
  | .readStatus l tag => Sys2Proof.Machine.execReadStatus l tag s
  | .readStats l tag kind number clear => Sys2Proof.Machine.execReadStats l tag kind number clear s
  | .readNotices l tag maximum => Sys2Proof.Machine.execReadNotices l tag maximum s
  | .setNoticeMask l tag mask => Sys2Proof.Machine.execSetNoticeMask l tag mask s
  | .clearOverflow l tag => Sys2Proof.Machine.execClearOverflow l tag s
  | .drainWait l tag => Sys2Proof.Machine.execDrainWait l tag s
  | .drainTimeout l => Sys2Proof.Machine.execDrainTimeout l s
  | .readResult l tag channel orders => Sys2Proof.Machine.execReadResult l tag channel orders s
  | .readChecks l tag first count => Sys2Proof.Machine.execReadChecks l tag first count s
  | .readGroup l tag group => Sys2Proof.Machine.execReadGroup l tag group s
  | .readEntry l tag plan kind number => Sys2Proof.Machine.execReadEntry l tag plan kind number s
  | .openStaging l tag => Sys2Proof.Machine.execOpenStaging l tag s
  | .writeEntry l tag kind number item => Sys2Proof.Machine.execWriteEntry l tag kind number item s
  | .seal l tag => Sys2Proof.Machine.execSeal l tag s
  | .discardStaging l tag => Sys2Proof.Machine.execDiscardStaging l tag s
  | .acceptPlan l tag generation => Sys2Proof.Machine.execAcceptPlan l tag generation s
  | .acceptWindowExpiry => Sys2Proof.Machine.execAcceptWindowExpiry s
  | .clearLatch l tag check => Sys2Proof.Machine.execClearLatch l tag check s
  | .startQuiet l tag group => Sys2Proof.Machine.execStartQuiet l tag group s
  | .restorePermit l tag group => Sys2Proof.Machine.execRestorePermit l tag group s
  | .restoreWindowExpiry g => Sys2Proof.Machine.execRestoreWindowExpiry g s
  | .clearFaults l tag => Sys2Proof.Machine.execClearFaults l tag s
  | .engineServiceIn l tag engine direction => Sys2Proof.Machine.execEngineServiceIn l tag engine direction s
  | .engineServiceOut l tag engine => Sys2Proof.Machine.execEngineServiceOut l tag engine s
  | .testGrant l tag group seconds => Sys2Proof.Machine.execTestGrant l tag group seconds s
  | .offerWindowExpiry g => Sys2Proof.Machine.execOfferWindowExpiry g s
  | .testEnd l tag group => Sys2Proof.Machine.execTestEnd l tag group s
  | .testRunExpiry g => Sys2Proof.Machine.execTestRunExpiry g s
  | .loadPattern l tag store slot samples => Sys2Proof.Machine.execLoadPattern l tag store slot samples s
  | .testSource l tag channel source => Sys2Proof.Machine.execTestSource l tag channel source s
  | .unknownCommand l tag code payload => Sys2Proof.Machine.execUnknownCommand l tag code payload s
  | .droppedFrame l => Sys2Proof.Machine.execDroppedFrame l s
  | .transferOut l => Sys2Proof.Machine.execTransferOut l s
  | .replyRead l => Sys2Proof.Machine.execReplyRead l s
  | .resume l => Sys2Proof.Machine.execResume l s
  | .linkReset l => Sys2Proof.Machine.execLinkReset l s
  | .syncInputSample r high => Sys2Proof.Machine.execSyncInputSample r high s

end Sys2Proof.Machine
end

