-- ==== Sys2Proof/Machine/Parts.lean ====
section
/-! DEFINITION. The parts of the State by name, and what it means that a change touches only some of them. -/

namespace Sys2Proof.Machine

/-- The fields of the State. -/
inductive Part where
  | now | clock | trackers | converters | buffers | queue | lastJoin | engines | audit | records | checks | quiet
  | quietEndDue | verdicts | alert | planStore | tests | sources | patterns | ports | inService | stopInput | wires
  | choices | pending
deriving DecidableEq, Repr

/-- A part is the same in two states. -/
def Part.Same (s t : State) : Part → Prop
  | .now => t.now = s.now
  | .clock => t.clock = s.clock
  | .trackers => t.trackers = s.trackers
  | .converters => t.converters = s.converters
  | .buffers => t.buffers = s.buffers
  | .queue => t.queue = s.queue
  | .lastJoin => t.lastJoin = s.lastJoin
  | .engines => t.engines = s.engines
  | .audit => t.audit = s.audit
  | .records => t.records = s.records
  | .checks => t.checks = s.checks
  | .quiet => t.quiet = s.quiet
  | .quietEndDue => t.quietEndDue = s.quietEndDue
  | .verdicts => t.verdicts = s.verdicts
  | .alert => t.alert = s.alert
  | .planStore => t.planStore = s.planStore
  | .tests => t.tests = s.tests
  | .sources => t.sources = s.sources
  | .patterns => t.patterns = s.patterns
  | .ports => t.ports = s.ports
  | .inService => t.inService = s.inService
  | .stopInput => t.stopInput = s.stopInput
  | .wires => t.wires = s.wires
  | .choices => t.choices = s.choices
  | .pending => t.pending = s.pending

/-- Nothing outside the listed parts differs between `s` and `t`. -/
def State.ChangesOnly (parts : List Part) (s t : State) : Prop := ∀ p, p ∉ parts → p.Same s t

end Sys2Proof.Machine
end

