-- ==== Sys2Proof/WellFormed.lean ====
section
/-! DEFINITION. Which terms of `Instr` stand for a stimulus the part can meet. -/

namespace Sys2Proof

/-- A command frame carries at most 255 payload bytes (R178); the item of a WRITE ENTRY has its kind's size (R179);
ENGINE_SERVICE_IN carries a direction other than out; UNKNOWN_COMMAND carries a frame that is no control frame and that
the frame step refuses (R165). -/
def Instr.wf : Instr → Bool
  | .readResult _ _ _ orders => decide (orders.length ≤ 254)
  | .writeEntry _ _ kind _ item => decide (itemSize kind = some item.length)
  | .loadPattern _ _ _ _ samples => decide (samples.length ≤ 126)
  | .engineServiceIn _ _ _ direction => decide (direction ≠ 0)
  | .unknownCommand _ tag code payload =>
    decide (payload.length ≤ 255) && !isControl ⟨code, tag, payload⟩ && (parse ⟨code, tag, payload⟩).isNone
  | .powerOnReset | .edgeAccepted _ | .deadlineExpiry _ | .heldCycleEnd _ | .strobe _
  | .sampleArrival _ _ _ _ | .transformComplete _ _ | .stopInputChange _ | .inServiceRise _
  | .inServiceFall _ | .quietEnd _ | .readStatus _ _ | .readStats _ _ _ _ _ | .readNotices _ _ _
  | .setNoticeMask _ _ _ | .clearOverflow _ _ | .drainWait _ _ | .drainTimeout _ | .readChecks _ _ _ _
  | .readGroup _ _ _ | .readEntry _ _ _ _ _ | .openStaging _ _ | .seal _ _ | .discardStaging _ _
  | .acceptPlan _ _ _ | .acceptWindowExpiry | .clearLatch _ _ _ | .startQuiet _ _ _
  | .restorePermit _ _ _ | .restoreWindowExpiry _ | .clearFaults _ _ | .engineServiceOut _ _ _
  | .testGrant _ _ _ _ | .offerWindowExpiry _ | .testEnd _ _ _ | .testRunExpiry _
  | .testSource _ _ _ _ | .droppedFrame _ | .transferOut _ | .replyRead _ | .resume _ | .linkReset _
  | .syncInputSample _ _ => true

end Sys2Proof
end

