-- ==== Sys2Proof/Safety.lean ====
section
/-! DEFINITION. What holds of the part at every instant: the invariants that claims are stated with, each with the rules
it is read from, and the conditions under which a port executes a command at the instant its frame is taken. -/

namespace Sys2Proof.Machine

/-! ### Ports -/

/-- No port has a command that it could execute and has not executed (R164). -/
def State.calm (s : State) : Prop := s.readyPorts = []

/-- A port executes a command frame at the instant it is taken: its queue is empty, it is neither halted nor draining,
and its outstanding count is below 16 (R162, R164). -/
def Port.AtRest (p : Port) : Prop :=
  p.queue = [] ∧ p.halted = false ∧ p.drain = none ∧ p.replies.length < 16

/-- A command frame taken on link `l` is executed at that instant, and no other command is (R162, R164). -/
def State.Ready (s : State) (l : Link) : Prop := s.calm ∧ (s.ports.get l).AtRest

/-- The bounds of a port's state (R161, R167, R169, R171). -/
structure Port.Sound (p : Port) : Prop where
  outstanding_le : p.outstanding ≤ 16
  log_le : p.log.length ≤ 32
  not_halted_draining : p.halted = true → p.drain = none
  drain_awaits : ∀ d, p.drain = some d → d.awaiting ≠ []

/-- Every port is within its bounds. -/
def State.PortsSound (s : State) : Prop := ∀ l, (s.ports.get l).Sound

/-! ### Plans (R80, R128) -/

/-- Every field of a plan is within its range. -/
structure Plan.InRange (p : Plan) : Prop where
  checks : ∀ i : CheckIx,
    1 ≤ p.checks[i].order ∧ p.checks[i].order ≤ 63 ∧ 1 ≤ p.checks[i].persistence ∧ p.checks[i].persistence ≤ 255 ∧
    1 ≤ p.checks[i].release ∧ p.checks[i].release ≤ 255 ∧ p.checks[i].tallyLimit ≤ 255
  channels : ∀ c : Channel,
    p.channels[c].basePriority ≤ 3 ∧ p.channels[c].meanFloor ≤ 32767 ∧ p.channels[c].fundFloor ≤ 65535
  groups : ∀ g : Group, p.groups[g].quietCode ≤ 255
  refs : ∀ r, 1 ≤ (p.refs.get r).filterLength ∧ (p.refs.get r).filterLength ≤ 16 ∧
    1 ≤ (p.refs.get r).holdLimit ∧ (p.refs.get r).holdLimit ≤ 255
  global : p.auditInterval ≤ 255 ∧ p.guardLevel ≤ 3
  weights : ∀ o : OrderIx, p.weights[o] ≤ 4096

/-- The plan being staged, if there is one. -/
def Staging.staged : Staging → Option Plan
  | .empty => none
  | .opened p _ => some p
  | .sealed p _ _ => some p

/-- The active plan and the staged plan are within their ranges. -/
def State.PlansInRange (s : State) : Prop :=
  s.plan.InRange ∧ ∀ p, s.planStore.staging.staged = some p → p.InRange

/-- A sealed plan carries the generation after the active one, its accept is a protection channel's, and its guard level is
no lower than the active one (R135, R136, R138, R141). -/
def State.SealSound (s : State) : Prop :=
  ∀ p n a, s.planStore.staging = .sealed p n a →
    n = nextGeneration s.planStore.generation ∧ s.plan.guardLevel ≤ p.guardLevel ∧
    ∀ x, a = some x → x.1 ≠ .m

/-! ### Trackers (R2 to R10) -/

/-- The state of a tracker is one the rules allow. -/
structure Tracker.Sound (t : Tracker) : Prop where
  period_in : tMin ≤ t.period ∧ t.period ≤ tMax
  start_iff : t.start.isSome = (t.mode != .seeking)
  strobe_iff : t.nextStrobe.isSome = (t.mode != .seeking)
  strobe_le : ∀ k, t.nextStrobe = some k → 1 ≤ k ∧ k ≤ 128
  deadline_iff : t.deadline.isSome = (t.mode == .locked)
  held_iff : 0 < t.heldCount ↔ t.mode = .holding

def State.TrackersSound (s : State) : Prop := ∀ r, (s.trackers.get r).Sound

/-! ### Engines and audit (R51, R61, R62, R66) -/

/-- An engine's service agrees with its frame in hand (R51). -/
def EngineSlot.Sound (x : EngineSlot) : Prop :=
  (x.service = .stopping → x.hand.isSome = true) ∧ (x.service = .out → x.hand = none)

/-- Each engine is sound, and at least one is IN SERVICE (R66). -/
def State.EnginesSound (s : State) : Prop :=
  (∀ e, (s.engines.get e).Sound) ∧ (s.engines.e1.service = .inService ∨ s.engines.e2.service = .inService)

/-- Audit-all mode is on exactly from the third mismatch, and the fault records are filled and emptied together
(R61, R62, R67). -/
def State.AuditSound (s : State) : Prop :=
  (s.audit.auditAll = true ↔ 3 ≤ s.audit.mismatches) ∧ s.audit.mismatches ≤ 255 ∧ s.audit.skips ≤ 65535 ∧
  s.audit.first.isSome = s.audit.latest.isSome ∧ (s.audit.overflow = true → s.audit.latest.isSome = true)

/-- A kept result stands under the channel it was computed for (R59). -/
def State.KeptSound (s : State) : Prop := ∀ (c : Channel) (k : Kept), s.audit.kept[c] = some k → k.result.channel = c

/-- Unless frames are still joining at this tick, no engine that is IN SERVICE and idle leaves a frame in the queue that is
eligible for it (R52). -/
def State.TakesDone (s : State) : Prop :=
  s.joining = false → ∀ e, (s.engines.get e).service = .inService → (s.engines.get e).hand = none →
    ∀ c ∈ s.queue, s.eligible e c = false

/-- No transform outlasts its 250 µs (R54). -/
def State.TransformsInTime (s : State) : Prop :=
  ∀ e h, (s.engines.get e).hand = some h → h.taken ≤ s.now ∧ s.now ≤ h.taken + transformTicks

/-! ### Buffers, the queue and conversions (R17, R19, R25, R28, R30) -/

/-- A frame of channel `c` that has not closed: no engine has taken it. -/
def Frame.Unclosed (f : Frame) (c : Channel) : Prop :=
  f.channel = c ∧ f.audit = false ∧ f.engines = ⟨false, false⟩

/-- The frames of a filling buffer, and of its pending start, are its channel's and have not closed. -/
def FillBuffer.Sound (c : Channel) : FillBuffer → Prop
  | .idle => True
  | .filling f => f.Unclosed c
  | .closing f none => f.Unclosed c
  | .closing f (some p) => f.Unclosed c ∧ p.frame.Unclosed c

/-- A channel's buffers hold frames of the channel, and a buffered frame has a level from 0 to 3 and the join order of a
tick that has been reached. -/
def State.BuffersSound (s : State) : Prop :=
  ∀ c : Channel, (s.buffers[c]).fill.Sound c ∧
    ∀ f, (s.buffers[c]).held = some f →
      f.channel = c ∧ f.priority ≤ 3 ∧ f.joinOrder % 16 = c.val ∧ f.joinOrder / 16 ≤ s.now

/-- The frame queue (R28, R30): it names no channel twice and stands in queue order; a queued frame is in its channel's
held buffer and is with no engine, or is an audit frame that one engine has taken; and a buffered frame that is not queued
is with an engine. -/
structure State.QueueSound (s : State) : Prop where
  nodup : s.queue.Nodup
  ordered : s.queue.Pairwise (fun a b => s.heldPriority b < s.heldPriority a ∨
    s.heldPriority a = s.heldPriority b ∧ s.heldJoin a < s.heldJoin b)
  queued : ∀ c ∈ s.queue, ∃ f, (s.buffers[c]).held = some f ∧
    (f.audit = false ∧ f.engines = ⟨false, false⟩ ∨ f.audit = true ∧ f.engines.e1 ≠ f.engines.e2)
  unqueued : ∀ (c : Channel) f, (s.buffers[c]).held = some f → c ∉ s.queue → (f.engines.e1 || f.engines.e2) = true

/-- No conversion outlasts its 40 ticks (R17). -/
def State.ConversionsInTime (s : State) : Prop :=
  ∀ (c : Channel) (v : Conversion), v ∈ (s.converters[c]).inFlight → v.issued ≤ s.now ∧ s.now ≤ v.issued + 40

/-! ### Checks (R82, R83, R89, R98 to R100) -/

/-- The status of a check agrees with its entry and its suspension causes. -/
structure CheckStatus.Sound (st : CheckStatus) (e : CheckEntry) (suspended : Bool) : Prop where
  off_iff : st.state = .off ↔ e.enabled = false
  off_counts : st.state = .off → st.run = 0 ∧ st.tally = 0
  rising : st.state = .rising → 1 ≤ st.run ∧ st.run < e.persistence
  falling : st.state = .falling → 1 ≤ st.run ∧ st.run < e.release
  steady : st.state ≠ .rising → st.state ≠ .falling → st.run = 0
  latched : st.state = .latched → 1 ≤ e.tallyLimit ∧ st.tally = e.tallyLimit
  below_limit : 1 ≤ e.tallyLimit → st.state ≠ .latched → st.tally < e.tallyLimit
  tally_le : st.tally ≤ 255
  suspended_iff : e.enabled = true → st.state ≠ .latched → (st.state = .suspended ↔ suspended = true)

def State.ChecksSound (s : State) : Prop :=
  ∀ i : CheckIx, s.checks[i].Sound s.plan.checks[i] (s.suspends i)

/-! ### Verdicts (R110 to R124) -/

/-- A permit is given exactly when its reason set is empty (R114). -/
def State.PermitsSound (s : State) : Prop :=
  ∀ g : Group, s.verdicts[g].given = s.verdicts[g].reasons.isEmpty

/-- Each group's terms, trip condition and WARN are those of its checks, TRIP is present exactly while the trip condition
is true, and the alert output follows them (R110 to R112, R116, R124). -/
def State.VerdictsCurrent (s : State) : Prop :=
  (∀ g : Group,
    s.verdicts[g].term1 = s.termState g .t1 ∧ s.verdicts[g].term2 = s.termState g .t2 ∧
    s.verdicts[g].trip = s.tripCondition g ∧ s.verdicts[g].warn = s.warns g ∧
    s.verdicts[g].reasons.trip = s.tripCondition g) ∧
  (s.alert = true ↔ ∃ g : Group, s.tripCondition g = true ∨ s.warns g = true)

/-- STOP, BLIND and TEST are present exactly while their conditions hold, and UNPLANNED while the plan does not protect
the group (R115, R120 to R122). -/
def State.ReasonsCurrent (s : State) : Prop :=
  ∀ g : Group,
    s.verdicts[g].reasons.stop = s.stopInput ∧ s.verdicts[g].reasons.blind = s.isBlind g ∧
    s.verdicts[g].reasons.test = s.tests[g].isRunning ∧
    (s.plan.protects g = false → s.verdicts[g].reasons.unplanned = true)

/-! ### Tests (R150, R155 to R158) -/

/-- A channel's source names a pattern only while the test of its group runs. -/
def State.SourcesSound (s : State) : Prop :=
  ∀ c : Channel, s.sources[c] ≠ .live → s.tests[s.plan.groupOf c].isRunning = true

/-- Offers and recorded restores are those of the protection channels (R118, R150). -/
def State.PairingsSound (s : State) : Prop :=
  ∀ g : Group, (∀ l n w, s.tests[g] = .offered l n w → l ≠ .m ∧ 1 ≤ n ∧ n ≤ 900) ∧
    (∀ x, s.verdicts[g].restore = some x → x.1 ≠ .m ∧ s.verdicts[g].reasons.restore = true)

/-- What an activation in whose plan a channel stands in the case `k` leaves of the channel (R17, R32 to R34, R76). The
filling buffer of a channel disabled under both plans is idle in any case. -/
def State.ChannelActivated (s t : State) (c : Channel) (k : ChannelCase) : Prop :=
  let v := s.converters[c]
  let unhanded := v.inFlight.map (fun x => { x with handed := false })
  let emptied := t.records[c] = none ∧ (t.buffers[c]).fill = .idle ∧ (t.buffers[c]).held = none
  (t.buffers[c]).counters = (s.buffers[c]).counters ∧
  (t.buffers[c]).epoch = (match k with
    | .unchanged => (s.buffers[c]).epoch
    | .enabled | .disabled | .changed => (s.buffers[c]).epoch + 1) ∧
  match k with
  | .unchanged => t.records[c] = s.records[c] ∧ t.converters[c] = v ∧
      (t.plan.channels[c].enabled = true → (t.buffers[c]).fill = (s.buffers[c]).fill)
  | .enabled => t.records[c] = s.records[c] ∧ t.converters[c] = { v with armed := false } ∧
      (t.buffers[c]).fill = (s.buffers[c]).fill
  | .disabled => emptied ∧ t.converters[c] = { v with armed := false, inFlight := unhanded }
  | .changed => emptied ∧ t.converters[c] =
      { v with armed := v.armed && decide (s.plan.refOf c = t.plan.refOf c), inFlight := unhanded }

/-! ### The end and the start of a cycle (R4, R21, R23, R25) -/

/-- A frame but for what a take writes into it: its audit mark and its engines-with field. -/
def Frame.untaken (f : Frame) : Frame := { f with audit := false, engines := ⟨false, false⟩ }

/-- What the end of a cycle of reference `r` with outcome `o` leaves in a filling buffer (R23): a short one discards the
frame, a complete or held one lets it close if its slot 127 sample has arrived and makes the buffer closing if not. -/
def FillBuffer.ended (r : Ref) (o : Outcome) : FillBuffer → FillBuffer
  | .filling f =>
    if f.ref = r then
      if o = .short ∨ f.samples[127].isSome = true then .idle
      else .closing { f with heldFlag := f.heldFlag || o == .held } none
    else .filling f
  | .idle => .idle
  | .closing f next => .closing f next

/-- The frame that closes at that end (R23). -/
def FillBuffer.closedAt (r : Ref) (o : Outcome) : FillBuffer → Option Frame
  | .filling f =>
    if f.ref = r ∧ o ≠ .short ∧ f.samples[127].isSome = true then
      some { f with heldFlag := f.heldFlag || o == .held }
    else none
  | .idle | .closing _ _ => none

/-- That end discards a frame as short (R23). -/
def FillBuffer.shortAt (r : Ref) (o : Outcome) : FillBuffer → Bool
  | .filling f => f.ref == r && o == .short
  | .idle | .closing _ _ => false

/-- Between `s` and `t` the frame given, or none, has closed on channel `c` (R25, R27, R35); the takes that follow may have
marked the buffered frame. The number of its join order is the model's own (log entry 23). -/
def State.Closes (s t : State) (c : Channel) : Option Frame → Prop
  | none => (t.buffers[c]).held.map Frame.untaken = (s.buffers[c]).held.map Frame.untaken
  | some f =>
    let n := (s.buffers[c]).counters
    let counted : ChannelCounters := { n with
      closed := min (n.closed + 1) 65535
      clipped := if f.clipped = true then min (n.clipped + 1) 65535 else n.clipped }
    let joins := (t.buffers[c]).held.map Frame.untaken =
      some ({ f with priority := s.priorityOf c, joinOrder := 16 * s.now + c.val } : Frame).untaken
    match (s.buffers[c]).held with
    | none => joins ∧ (t.buffers[c]).counters = counted
    | some old =>
      if (old.engines.e1 || old.engines.e2) = true then
        (t.buffers[c]).held.map Frame.untaken = some old.untaken ∧
        (t.buffers[c]).counters = { counted with lost := min (n.lost + 1) 65535 }
      else joins ∧ (t.buffers[c]).counters = { counted with superseded := min (n.superseded + 1) 65535 }

/-- Between `s` and `t` a cycle of reference `r` has ended with outcome `o` on every channel (R23). What it leaves in the
filling buffers is `FillBuffer.ended`, and no plan epoch moves (R20). -/
def State.CycleEnds (s t : State) (r : Ref) (o : Outcome) : Prop :=
  ∀ c : Channel,
    s.Closes t c ((s.buffers[c]).fill.closedAt r o) ∧
    ((s.buffers[c]).fill.closedAt r o = none →
      (t.buffers[c]).counters = { (s.buffers[c]).counters with
        short := if (s.buffers[c]).fill.shortAt r o = true then min ((s.buffers[c]).counters.short + 1) 65535
          else (s.buffers[c]).counters.short }) ∧
    (t.buffers[c]).epoch = (s.buffers[c]).epoch

/-- Between `s` and `t` a cycle of reference `r` has started, the filling buffers being `fill` before it: the new frames
(R21), the converters and strobe 0 (R4, R17, R18), and the quiet counters (R102); no plan epoch moves (R20). The decrement
of a counter at 1 is left to QUIET_END of the same tick (the model's choice, log entry 6), and a buffer found filling is
left as it is, as is the pending start of one that has one (the model's choice, log entry 22). A new frame's priority and
join order, which R19 sets at its close and its join, are 0 until then (the model's choice, log entry 37). -/
structure State.CycleStarts (s t : State) (r : Ref) (fill : Channel → FillBuffer) : Prop where
  fills : ∀ c : Channel, (t.buffers[c]).fill =
    if s.usesRef r c = true then
      let f : Frame :=
        { channel := c, ref := r, cycle := (s.trackers.get r).cycle + 1, epoch := (s.buffers[c]).epoch,
          source := s.sources[c], samples := Vector.replicate 128 none, heldFlag := false, clipped := false,
          priority := 0, joinOrder := 0, audit := false, engines := ⟨false, false⟩ }
      match fill c with
      | .idle => .filling f
      | .closing old none => .closing old (some ⟨f, none⟩)
      | .closing old (some p) => .closing old (some p)
      | .filling old => .filling old
    else fill c
  epochs : ∀ c : Channel, (t.buffers[c]).epoch = (s.buffers[c]).epoch
  converters : ∀ c : Channel, t.converters[c] =
    if s.usesRef r c = true then
      { armed := true
        latched := s.sources[c]
        inFlight := (s.converters[c]).inFlight ++
          [⟨(s.trackers.get r).cycle + 1, 0, s.sources[c], s.now, true⟩] }
    else s.converters[c]
  quiet : ∀ g : Group, t.quiet[g] =
    if s.plan.groups[g].ref = r ∧ 1 < s.quiet[g] then s.quiet[g] - 1 else s.quiet[g]
  quietEnds : ∀ g : Group, t.quietEndDue[g] = true ↔
    s.quietEndDue[g] = true ∨ s.plan.groups[g].ref = r ∧ s.quiet[g] = 1

/-! ### Settling and taking (R30, R31, R52) -/

/-- What the settling of the frame of join order `j` leaves in a held buffer (R30). -/
def heldAfter (j : Nat) : Option Frame → Option Frame
  | some f => if f.joinOrder = j then none else some f
  | none => none

/-- The settling of the frame of channel `c` with join order `j`, as the buffers and the queue show it: the frame leaves the
held buffer, and a place in the queue if it still has one, and nothing else of any channel's buffers changes (R30, R31). -/
def State.Settles (s u : State) (c : Channel) (j : Nat) : Prop :=
  (∀ d : Channel, u.buffers[d] =
    if d = c then { s.buffers[c] with held := heldAfter j (s.buffers[c]).held } else s.buffers[d]) ∧
  u.queue = if (s.buffers[c]).held.any (fun f => f.joinOrder == j) = true then s.queue.filter (fun d => d != c) else s.queue

/-- `u` is what the result of a completed transform has made of `s`, the engine's hand being empty, and `t` what the engine
then does: a STOPPING one goes OUT OF SERVICE with an ENGINE notice and takes nothing, any other takes, as the other engine
does where that is idle (R52, R54, R66, R68). While frames of the tick are still joining `State.enginesTake` takes nothing,
even where an older frame is eligible (the model's choice, log entry 34). -/
def State.CompletionEnds (s u t : State) (e : Engine) : Prop :=
  u.engines = s.engines.set e { s.engines.get e with hand := none } ∧
  ((s.engines.get e).service = .stopping →
    t = (u.setEngine e { u.engines.get e with service := .out }).raise
      (.engine e (s.engines.get e).lastCycle .stopping .out 0)) ∧
  ((s.engines.get e).service ≠ .stopping → t = u.enginesTake)

/-! ### Notices (R105, R125, 10.6) -/

/-- The CHECK notices of the changes between `s` and `t`, in increasing check index (R105, R106): those of the checks that
have entered or left the asserting set, with the cycle number given for their group. -/
def State.checkNotices (s t : State) (cycle : Group → Word) : List NoticeBody :=
  (List.finRange 64).filterMap (fun i =>
    if s.checks[i].state.asserting = t.checks[i].state.asserting then none
    else some (.check i (cycle (t.plan.checkGroup i)) s.checks[i].state t.checks[i].state t.checks[i].tally))

/-- The PERMIT notices of the changes between `s` and `t`, in increasing group number (R125). -/
def State.permitNotices (s t : State) (cycle : Group → Word) : List NoticeBody :=
  (List.finRange 4).filterMap (fun g =>
    if s.verdicts[g].given = t.verdicts[g].given then none
    else some (.permit g (cycle g) s.verdicts[g].given t.verdicts[g].given t.verdicts[g].reasons))

/-- Between `s` and `t` the notices `bs` have been raised, in that order, and no others, and the ports have their queues,
their masks and their flags as before. Replies and drains are not spoken of. -/
def State.Raised (s t : State) (bs : List NoticeBody) : Prop :=
  ∀ l, (t.ports.get l).log = ((s.raiseAll bs).ports.get l).log ∧
    (t.ports.get l).overflow = ((s.raiseAll bs).ports.get l).overflow ∧
    (t.ports.get l).queue = (s.ports.get l).queue ∧ (t.ports.get l).mask = (s.ports.get l).mask ∧
    (t.ports.get l).halted = (s.ports.get l).halted ∧ (t.ports.get l).dropped = (s.ports.get l).dropped

/-! ### The items of a WRITE ENTRY (R133, R134, 11.3) -/

/-- The number of an item lies in its kind's range, and each field that names something names it (R133). -/
def itemNames (kind number : Byte) (item : List Byte) : Prop :=
  let field := fun k => (item.getD k 0).toNat
  match kind.toNat with
  | 1 => number.toNat ≤ 63 ∧ (field 1 = 1 ∨ field 1 = 2) ∧ (1 ≤ field 2 ∧ field 2 ≤ 16) ∧ field 3 ≤ 6 ∧
      1 ≤ field 5 ∧ field 5 ≤ 16
  | 2 => (1 ≤ number.toNat ∧ number.toNat ≤ 16) ∧ 1 ≤ field 1 ∧ field 1 ≤ 4
  | 3 => (1 ≤ number.toNat ∧ number.toNat ≤ 4) ∧ (field 0 = 1 ∨ field 0 = 2)
  | 4 => number.toNat = 1 ∨ number.toNat = 2
  | 5 => number.toNat = 0
  | 6 => 1 ≤ number.toNat ∧ number.toNat ≤ 8
  | _ => False

/-- The weight of slot `j` of a weight block as it travels. -/
def weightSent (item : List Byte) (j : Nat) : Nat := (half (item.getD (2 * j) 0) (item.getD (2 * j + 1) 0)).toNat

/-- The bytes in which an item is read back once it has been written: each field clamped, and the bits without a meaning
0 (R134, R148, 11.3). -/
def itemStored (kind number : Byte) (item : List Byte) : List Byte :=
  let field := fun k => item.getD k 0
  let into := fun lo hi k => byteOf (max lo (min (field k).toNat hi))
  match kind.toNat with
  | 1 => [field 0 &&& 0x0F, field 1, field 2, field 3, into 1 63 4, field 5, field 6, field 7, field 8, field 9,
      into 1 255 10, into 1 255 11, field 12, 0]
  | 2 => [field 0 &&& 0x01, field 1, into 0 3 2] ++ le16 (halfOf (min (half (field 3) (field 4)).toNat 32767))
      ++ [field 5, field 6]
  | 3 => [field 0, field 1 &&& 0x0F, field 2]
  | 4 => [into 1 16 0, into 1 255 1]
  | 5 => [field 0, into 0 3 1]
  | 6 => (List.range 8).flatMap (fun j =>
      if number.toNat = 8 ∧ j = 7 then [0, 0] else le16 (halfOf (min (weightSent item j) 4096)))
  | _ => []

/-- How many fields of an item the clamps change (R133, R134). -/
def itemClamps (kind number : Byte) (item : List Byte) : Nat :=
  let field := fun k => (item.getD k 0).toNat
  let out := fun lo hi x => if lo ≤ x ∧ x ≤ hi then 0 else 1
  match kind.toNat with
  | 1 => out 1 63 (field 4) + out 1 255 (field 10) + out 1 255 (field 11)
  | 2 => out 0 3 (field 2) + out 0 32767 (half (item.getD 3 0) (item.getD 4 0)).toNat
  | 4 => out 1 16 (field 0) + out 1 255 (field 1)
  | 5 => out 0 3 (field 1)
  | 6 => ((List.range 8).filter (fun j => decide (¬(number.toNat = 8 ∧ j = 7) ∧ 4096 < weightSent item j))).length
  | _ => 0

/-! ### The records of 11.4 and 11.5, field by field

The bits of a byte to which a layout gives no field are 0 (the model's choice, log entry 36). -/

/-- The byte at an offset of a record. -/
def field8 (b : List Byte) (k : Nat) : Nat := (b.getD k 0).toNat

/-- The two-byte field at an offset of a record, low byte first (R178). -/
def field16 (b : List Byte) (k : Nat) : Nat := field8 b k + 256 * field8 b (k + 1)

/-- The four-byte field at an offset of a record, low byte first (R178). -/
def field32 (b : List Byte) (k : Nat) : Nat := field16 b k + 65536 * field16 b (k + 2)

/-- The number made of flags, the first in bit 0. -/
def bitsOf : List Bool → Nat
  | [] => 0
  | x :: xs => x.toNat + 2 * bitsOf xs

/-- The number of a link in a record: 1 A, 2 B, 3 M. -/
def linkNumber : Link → Nat
  | .a => 1
  | .b => 2
  | .m => 3

def refNumber : Ref → Nat
  | .r1 => 1
  | .r2 => 2

/-- The tracker states: 0 SEEKING, 1 LOCKED, 2 HOLDING. -/
def modeNumber : TrackerMode → Nat
  | .seeking => 0
  | .locked => 1
  | .holding => 2

/-- The check states: 0 OFF, 1 CLEAR, 2 RISING, 3 ACTIVE, 4 FALLING, 5 LATCHED, 6 SUSPENDED. -/
def checkNumber : CheckState → Nat
  | .off => 0
  | .clear => 1
  | .rising => 2
  | .active => 3
  | .falling => 4
  | .latched => 5
  | .suspended => 6

/-- The service of an engine in a notice: 0 IN SERVICE, 2 STOPPING, 3 OUT OF SERVICE. -/
def serviceNumber : Service → Nat
  | .inService => 0
  | .stopping => 2
  | .out => 3

/-- The term states: 0 EMPTY, 1 NOT ASSERTING, 2 ASSERTING. -/
def termNumber : TermState → Nat
  | .empty => 0
  | .notAsserting => 1
  | .asserting => 2

def phaseNumber : PlanPhase → Nat
  | .empty => 0
  | .opened => 1
  | .sealed => 2
  | .activated => 3

/-- The test states: 0 NONE, 1 OFFERED, 2 RUNNING. -/
def testNumber : TestPhase → Nat
  | .idle => 0
  | .offered => 1
  | .running => 2

/-- The cause codes of a TEST notice (R180). -/
def causeNumber : TestCause → Nat
  | .windowExpired => 1
  | .notOutOfService => 2
  | .testEnd => 3
  | .linkReset => 4
  | .expired => 5
  | .breakerClosed => 6
  | .plan => 7

/-- A reason set as a number (R180). -/
def reasonsNumber (r : Reasons) : Nat := bitsOf [r.unplanned, r.trip, r.restore, r.stop, r.blind, r.test]

/-- The twelve bytes of a fault record from offset `k` on (11.4). -/
def faultLaid (b : List Byte) (k : Nat) : Option FaultRecord → Prop
  | none => ∀ j < 12, field8 b (k + j) = 0
  | some r =>
    field8 b k = r.channel.val + 1 ∧
    field8 b (k + 1) = (match r.quantity with | .mean => 1 | .ripple => 2 | .level _ => 3) ∧
    field8 b (k + 2) = (match r.quantity with | .level h => h.val + 1 | .mean | .ripple => 0) ∧
    field8 b (k + 3) = 0 ∧ field32 b (k + 4) = r.cycle.toNat ∧ field16 b (k + 8) = r.value1.toNat ∧
    field16 b (k + 10) = r.value2.toNat

/-- The status record of READ STATUS (11.4). -/
structure State.StatusLaid (s : State) (b : List Byte) : Prop where
  size : b.length = 56
  modes : field8 b 0 = modeNumber s.trackers.r1.mode ∧ field8 b 1 = modeNumber s.trackers.r2.mode
  frequencies : field16 b 2 = 1000000000 / s.trackers.r1.period % 65536 ∧
    field16 b 4 = 1000000000 / s.trackers.r2.period % 65536
  cycles : field32 b 6 = s.trackers.r1.cycle.toNat ∧ field32 b 10 = s.trackers.r2.cycle.toNat
  engines : ∀ e : Engine, field8 b (match e with | .e1 => 14 | .e2 => 15) =
    (match (s.engines.get e).service with
      | .inService => if (s.engines.get e).hand.isSome = true then 1 else 0
      | .stopping => 2
      | .out => 3)
  audit : field8 b 16 = bitsOf [s.audit.auditAll, s.audit.overflow, s.audit.first.isSome, s.audit.latest.isSome] ∧
    field8 b 17 = s.audit.mismatches % 256 ∧ field16 b 18 = s.audit.skips % 65536
  faults : faultLaid b 20 s.audit.first ∧ faultLaid b 32 s.audit.latest
  staging : match s.planStore.staging with
    | .empty => field8 b 44 = 0 ∧ field8 b 45 = 0 ∧ field16 b 48 = 0 ∧ field8 b 50 = 0
    | .opened _ l => field8 b 44 = 1 ∧ field8 b 45 = linkNumber l ∧ field16 b 48 = 0 ∧ field8 b 50 = 0
    | .sealed _ n a => field8 b 44 = 2 ∧ field8 b 45 = 0 ∧ field16 b 48 = n.toNat ∧
        field8 b 50 = (match a with | some x => linkNumber x.1 | none => 0)
  generation : field16 b 46 = s.planStore.generation.toNat
  guardLevel : field8 b 51 = s.plan.guardLevel % 256
  clock : field32 b 52 = s.clock.toNat

/-- The group record of READ GROUP (11.4, R126). -/
structure State.GroupLaid (s : State) (g : Group) (b : List Byte) : Prop where
  size : b.length = 10
  number : field8 b 0 = g.val + 1
  terms : field8 b 1 = termNumber s.verdicts[g].term1 + 4 * termNumber s.verdicts[g].term2
  flags : field8 b 2 = bitsOf [s.verdicts[g].trip, s.verdicts[g].warn, s.verdicts[g].given]
  reasons : field8 b 3 = reasonsNumber s.verdicts[g].reasons
  restore : match s.verdicts[g].restore with
    | none => field8 b 4 = 0 ∧ field16 b 6 = 0
    | some x => field8 b 4 = linkNumber x.1 ∧ field16 b 6 = max 1 (min (x.2 + 5000 - s.clock).toNat 5000)
  test : field8 b 5 = testNumber s.tests[g].phase
  quiet : field16 b 8 = s.quiet[g] % 65536

/-- A check status record of READ CHECKS (11.4, R107). An OFF check reports no suspension cause. -/
structure State.CheckLaid (s : State) (i : CheckIx) (b : List Byte) : Prop where
  size : b.length = 12
  number : field8 b 0 = i.val
  status : field8 b 1 = checkNumber s.checks[i].state ∧ field8 b 2 = s.checks[i].run % 256 ∧
    field8 b 3 = s.checks[i].tally % 256
  flags : field8 b 4 =
    (let g := s.plan.checkGroup i
     let on := decide (s.checks[i].state ≠ .off)
     bitsOf [s.checks[i].last.isSome,
      on && decide (s.inService[g] = false ∧ s.tests[g].isRunning = false),
      on && decide ((s.trackers.get s.plan.groups[g].ref).mode = .seeking),
      on && decide (0 < s.quiet[g] ∧ s.plan.checks[i].observeQuiet = false)])
  unused : field8 b 5 = 0
  last : match s.checks[i].last with
    | none => field16 b 6 = 0 ∧ field32 b 8 = 0
    | some (v, cycle) => (field16 b 6 : Int) = v % 65536 ∧ field32 b 8 = cycle.toNat

/-- The result body of READ RESULT for a channel and the orders sent (11.4, R77). -/
structure ResultRecord.BodyLaid (r : ResultRecord) (c : Channel) (orders b : List Byte) : Prop where
  size : b.length = 14 + 4 * min 16 orders.length
  channel : field8 b 0 = c.val + 1
  ref : field8 b 1 = refNumber r.ref
  cycle : field32 b 2 = r.cycle.toNat
  generation : field16 b 6 = r.generation.toNat
  flags : field8 b 8 = bitsOf [r.heldFlag, r.clipped, r.test, r.figures.saturated, r.unaudited]
  slots : field8 b 9 = min 16 orders.length
  figures : field16 b 10 = r.figures.mean.toNat ∧ field16 b 12 = r.figures.ripple.toNat
  levels : ∀ i < min 16 orders.length,
    let o := field8 orders i
    field8 b (14 + 4 * i) = o ∧
    (∀ _ : 1 ≤ o ∧ o ≤ 63, field8 b (15 + 4 * i) = 1 ∧ field16 b (16 + 4 * i) = levelOf r.figures o) ∧
    (∀ _ : ¬(1 ≤ o ∧ o ≤ 63), field8 b (15 + 4 * i) = 0 ∧ field16 b (16 + 4 * i) = 0)

/-- Kind, flags, subject, old and new state, cycle number and detail of a notice (R180). -/
def NoticeBody.fields : NoticeBody → Nat × Nat × Nat × Nat × Nat × Nat × Nat
  | .check i cycle old new tally => (1, 1, i.val, checkNumber old, checkNumber new, cycle.toNat, tally % 65536)
  | .permit g cycle old new reasons => (2, 1, g.val + 1, old.toNat, new.toNat, cycle.toNat, reasonsNumber reasons)
  | .plan l old new generation => (3, 0, (match l with | some l => linkNumber l | none => 0), phaseNumber old,
      phaseNumber new, 0, generation.toNat)
  | .sync r cycle old new freq => (4, 1, refNumber r, modeNumber old, modeNumber new, cycle.toNat, freq % 65536)
  | .mismatch c cycle old new count => (5, 1, c.val + 1, old.toNat, new.toNat, cycle.toNat, count % 65536)
  | .engine e cycle old new abandoned => (5, 3, (match e with | .e1 => 1 | .e2 => 2), serviceNumber old,
      serviceNumber new, cycle.toNat, abandoned % 65536)
  | .test g old new (.duration n) => (6, 0, g.val + 1, testNumber old, testNumber new, 0, n % 65536)
  | .test g old new (.cause x) => (6, 0, g.val + 1, testNumber old, testNumber new, 0, causeNumber x)

/-- The 16-byte record of a notice (R180). -/
def Notice.Laid (n : Notice) (b : List Byte) : Prop :=
  b.length = 16 ∧ field8 b 5 = 0 ∧ field32 b 6 = n.stamp.toNat ∧
  (field8 b 0, field8 b 1, field8 b 2, field8 b 3, field8 b 4, field32 b 10, field16 b 14) = n.body.fields

/-! ### Events of the evaluator and of the test unit -/

/-- Between `s` and `t` the causes of the checks of the groups in `sel` have been examined as they stand in `t`: a check
with a cause is suspended and one with none released, LATCHED and OFF checks stay, and no other check has changed (R92, R97
to R99). -/
def State.CausesExaminedOn (s t : State) (sel : Group → Bool) : Prop :=
  ∀ i : CheckIx, t.checks[i] =
    if s.plan.checks[i].enabled = true ∧ sel (s.plan.checkGroup i) = true then
      match s.checks[i].state with
      | .off | .latched => s.checks[i]
      | .suspended => if t.suspends i then s.checks[i] else { s.checks[i] with state := .clear, run := 0 }
      | .clear | .rising | .active | .falling =>
        if t.suspends i then { s.checks[i] with state := .suspended, run := 0 } else s.checks[i]
    else s.checks[i]

/-- The same of the checks of one group. -/
def State.CausesExamined (s t : State) (g : Group) : Prop := s.CausesExaminedOn t (fun g' => g' == g)

/-- Between `s` and `t` the verdict unit has taken one event. Each group of which a check has changed state, and each in
`forced`, is recomputed from the checks and the plan of `t` (R113; TermsTripAndWarn says what `State.recompute` does), every
group's verdict then has the event's own change, and its permit is set once, where its reason set has changed (R114); all
else of a verdict stays. The alert output follows a recomputation (R124). -/
def State.VerdictsSet (s t : State) (forced : Group → Bool) (change : Group → Verdict → Verdict) : Prop :=
  let hit : Group → Bool := fun g =>
    forced g || decide (∃ i : CheckIx, s.plan.checkGroup i = g ∧ t.checks[i].state ≠ s.checks[i].state)
  (∀ g : Group,
    let v := change g (if hit g = true then t.recompute g s.verdicts[g] else s.verdicts[g])
    t.verdicts[g] = { v with
      given := if v.reasons = s.verdicts[g].reasons then s.verdicts[g].given
        else decide (v.reasons = ⟨false, false, false, false, false, false⟩) }) ∧
  t.alert = if ∃ g : Group, hit g = true then
    decide (∃ g : Group, t.verdicts[g].trip = true ∨ t.verdicts[g].warn = true) else s.alert

/-- What the end of a test does to its group's verdict beside the recomputation (R122): TEST is removed, the recorded
restore withdrawn, and RESTORE removed if it was set during the test. -/
def Verdict.afterTest (v : Verdict) : Verdict :=
  { v with
    reasons := { v.reasons with
      test := false
      restore := if v.restoreDuringTest = true then false else v.reasons.restore }
    restore := none
    restoreDuringTest := false }

/-- What an evaluation event of channel `c` does to the verdict of a group beside the recomputation (R115): UNPLANNED of the
channel's group is cleared under a plan that protects it. -/
def State.afterEvaluation (s : State) (c : Channel) (g : Group) (v : Verdict) : Verdict :=
  if g = s.plan.groupOf c ∧ s.plan.protects g = true then { v with reasons := { v.reasons with unplanned := false } }
  else v

/-- Between `s` and `t` the test of group `g` has ended (R20, R24, R35, R117, R122, R158). -/
structure State.TestEnded (s t : State) (g : Group) : Prop where
  idle : t.tests = s.tests.set g .idle
  sources : ∀ c : Channel, t.sources[c] = if s.plan.groupOf c = g then .live else s.sources[c]
  buffers : ∀ c : Channel, t.buffers[c] =
    if s.plan.groupOf c = g then { s.buffers[c] with fill := .idle } else s.buffers[c]
  checks : ∀ i : CheckIx, t.checks[i] =
    if s.plan.checks[i].enabled = true ∧ s.plan.checkGroup i = g then
      { state := if t.suspends i then .suspended else .clear, run := 0, tally := 0, last := s.checks[i].last }
    else s.checks[i]
  test : t.verdicts[g].reasons.test = false
  trip : t.verdicts[g].reasons.trip = false
  restore : t.verdicts[g].reasons.restore = (s.verdicts[g].reasons.restore && !s.verdicts[g].restoreDuringTest)
  recorded : t.verdicts[g].restore = none
  duringTest : t.verdicts[g].restoreDuringTest = false
  verdicts : s.VerdictsSet t (fun g' => g' == g) (fun g' v => if g' = g then v.afterTest else v)
  others : ∀ g' : Group, g' ≠ g → t.verdicts[g'] = s.verdicts[g']

end Sys2Proof.Machine
end

