-- ==== Sys2Proof/Certificates/Slice0/Obligations.lean ====
section
/-! DEFINITION. The statements put to the provers. A statement about a command frame is made for a port that executes it
at the instant it is taken (`State.Ready`); the frames that wait or are dropped have statements of their own. An event or a
command that may settle frames can end drains, and what the ports then execute comes after it (`State.runAll`; the model's
choice, log entry 35): ResumeActs says what that is, and that it is nothing while no command waits at a port. -/

open Sys2Proof Sys2Proof.Machine

/-! ### The step -/

/-- A step takes the command at the front of the queue and carries it out with the rest of the queue behind it. The
queue of waiting commands is the model's own (log entry 24). -/
def Obligations.StepRunsTheFrontCommand : Prop :=
  ∀ (s : State) (c : Instr) (rest : List Instr),
    s.pending = c :: rest → step s = exec c { s with pending := rest }

/-- The model's own reading of time (log entry 1): with no command waiting one tick passes, and none passes while an event
of the part's own time is due. The millisecond clock is R174's. -/
def Obligations.IdleStepPassesOneTick : Prop :=
  ∀ s : State, s.pending = [] →
    (s.anyDue = true → step s = .next s) ∧
    (s.anyDue = false →
      step s = .next { s with
        now := s.now + 1
        clock := if (s.now + 1) % 10000 = 0 then s.clock + 1 else s.clock })

/-- Nothing stops the part: every command and event has a next state. What an event that is not due does is the model's
choice (log entry 3). That each leaves the waiting commands as they are speaks of the model's own queue (log entry 24), and
that POWER_ON_RESET does is the model's choice (log entry 10). -/
def Obligations.EveryCommandCompletes : Prop :=
  ∀ (i : Instr) (s : State), ∃ t : State, exec i s = .next t ∧ t.pending = s.pending

/-! ### Frames on the links -/

/-- The frame in which a master sends a command is read as that command, with every field at every value (R178, R179): its
bytes are the code, the tag, the payload length and the payload, and the port takes the frame from them and reads the
command from the frame. -/
def Obligations.ParseReadsEveryCommand : Prop :=
  ∀ (tag : Byte) (c : Command), c.fits = true →
    c.payload.length ≤ 255 ∧
    (c.frame tag).bytes = [c.code, tag, BitVec.ofNat 8 c.payload.length] ++ c.payload ∧
    frameOfBytes (c.frame tag).bytes = some (c.frame tag) ∧ parse (c.frame tag) = some c

/-- A frame that is read as a command is the frame of that command: no other code and no other length is taken for it
(R165, R179). A frame taken from a string of bytes has those bytes and no others (R178). -/
def Obligations.ParsedFrameIsTheCommands : Prop :=
  (∀ (f : CmdFrame) (c : Command), parse f = some c → f = c.frame f.tag ∧ c.fits = true) ∧
  (∀ (bytes : List Byte) (f : CmdFrame), frameOfBytes bytes = some f →
    bytes = f.bytes ∧ bytes.length = 3 + f.payload.length ∧ f.payload.length ≤ 255)

/-! ### Power-on -/

/-- What power-on reset leaves in each block (R3, R16, R20, R35, R51, R56 to R62, R69, R81, R130, R149, R161), with the
verdict unit's values (R109) and every field of the default plan (R129). The inputs keep their levels (the model's choice,
log entry 10), and a converter is not armed (log entry 27). -/
def Obligations.PowerOnResetValues : Prop :=
  ∀ s : State, ∃ t : State, exec .powerOnReset s = .next t ∧
    (∀ r, (t.trackers.get r).mode = .seeking ∧ (t.trackers.get r).period = 200000 ∧
      (t.trackers.get r).cycle = 0 ∧ (t.trackers.get r).previousEdge = none ∧ (t.trackers.get r).filtered = false ∧
      (t.trackers.get r).start = none ∧ (t.trackers.get r).deadline = none ∧ (t.trackers.get r).nextStrobe = none ∧
      (t.trackers.get r).heldCount = 0 ∧ (t.trackers.get r).candidate = none ∧
      (t.trackers.get r).counters = { spurious := 0, locks := 0, holds := 0, losses := 0 }) ∧
    (∀ c : Channel, t.buffers[c] =
        { fill := .idle, held := none, epoch := 0
          counters := { closed := 0, superseded := 0, lost := 0, short := 0, clipped := 0 } } ∧
      t.records[c] = none ∧ t.sources[c] = .live ∧ (t.converters[c]).inFlight = [] ∧
      (t.converters[c]).armed = false ∧ t.audit.kept[c] = none) ∧
    t.queue = [] ∧ (∀ e, t.engines.get e = { service := .inService, hand := none, lastCycle := 0 }) ∧
    t.audit.counter = 0 ∧ t.audit.auditAll = false ∧ t.audit.mismatches = 0 ∧ t.audit.skips = 0 ∧
    t.audit.first = none ∧ t.audit.latest = none ∧ t.audit.overflow = false ∧
    t.planStore.generation = 0 ∧ t.planStore.staging = .empty ∧
    (∀ i : CheckIx, t.plan.checks[i] =
      { enabled := false, cls := .warn, term := .t1, channel := 0, quantity := .mean, order := 1, second := 0
        low := 0, high := 0, sense := .outside, persistence := 1, release := 1, tallyLimit := 0
        observeQuiet := false }) ∧
    (∀ c : Channel, t.plan.channels[c] =
      { enabled := false, group := 0, basePriority := 0, meanFloor := 0, fundFloor := 0 }) ∧
    (∀ g : Group, t.plan.groups[g] =
      { ref := .r1, combine := .or, repermit := .manual, blind := .withdraw, quietCode := 0, evaluateHeld := true }) ∧
    (∀ r, t.plan.refs.get r = { filterLength := 4, holdLimit := 10 }) ∧
    t.plan.auditInterval = 16 ∧ t.plan.guardLevel = 0 ∧ (∀ o : OrderIx, t.plan.weights[o] = 0) ∧
    (∀ i : CheckIx, t.checks[i] = { state := .off, run := 0, tally := 0, last := none }) ∧
    (∀ g : Group, t.quiet[g] = 0 ∧ t.tests[g] = .idle ∧ t.verdicts[g] =
      { term1 := .empty, term2 := .empty, trip := false, warn := false
        reasons := { unplanned := true, trip := false, restore := false, stop := s.stopInput, blind := true
                     test := false }
        restore := none, restoreDuringTest := false, given := false }) ∧
    (∀ (p : Store) (k : Slot), t.patterns[p][k] = 0) ∧
    (∀ l, t.ports.get l =
      { queue := [], replies := [], drain := none, halted := false, dropped := false, log := [], overflow := false
        mask := { check := true, permit := true, plan := true, sync := true, engine := true, test := true } }) ∧
    t.alert = false ∧ t.clock = 0 ∧ t.stopInput = s.stopInput ∧ t.inService = s.inService

/-! ### Trackers -/

/-- The sync input filter at one input sample (R1). An accepted edge is noted for EDGE_ACCEPTED of the same tick (the
model's choice, log entry 7). Frames that joined at this tick are taken once no other can join (R52, log entry 8). -/
def Obligations.SyncInputSampleFilters : Prop :=
  ∀ (r : Ref) (high : Bool) (s : State), s.sampleDue r = true →
    ∃ u, exec (.syncInputSample r high) s = .next (s.setTracker r u).afterJoins ∧
      u.level = high ∧
      u.run = (if high = (s.trackers.get r).level then (s.trackers.get r).run + 1 else 1) ∧
      u.candidate = (if high = true then
        if (s.trackers.get r).level = true then (s.trackers.get r).candidate else some s.now else none) ∧
      u.filtered = (if high = false ∧ (s.plan.refs.get r).filterLength ≤ u.run then false
        else (s.trackers.get r).filtered) ∧
      u.accepting = (if high = true ∧ (s.trackers.get r).filtered = false ∧
        (s.plan.refs.get r).filterLength ≤ u.run then u.candidate else none) ∧
      u.nextSample = (s.trackers.get r).nextSample + 10 ∧
      u.mode = (s.trackers.get r).mode ∧ u.previousEdge = (s.trackers.get r).previousEdge ∧
      u.period = (s.trackers.get r).period ∧ u.start = (s.trackers.get r).start ∧
      u.deadline = (s.trackers.get r).deadline ∧ u.nextStrobe = (s.trackers.get r).nextStrobe ∧
      u.heldCount = (s.trackers.get r).heldCount ∧ u.cycle = (s.trackers.get r).cycle ∧
      u.counters = (s.trackers.get r).counters

/-- A spurious edge is counted and otherwise ignored; a first edge and a late edge only become the previous edge (R2).
The filtered level becomes high here (the model's choice, log entry 7). Frames that joined at this tick are taken once no
other can join (R52, log entry 8). -/
def Obligations.EdgesOutsideTheWindow : Prop :=
  ∀ (r : Ref) (e : Tick) (s : State), s.calm → s.edgeDue r = true → (s.trackers.get r).accepting = some e →
    (∀ p, (s.trackers.get r).previousEdge = some p → e - p < 150000 →
      exec (.edgeAccepted r) s = .next (s.setTracker r { s.trackers.get r with
        filtered := true
        accepting := none
        counters := { (s.trackers.get r).counters with
          spurious := min ((s.trackers.get r).counters.spurious + 1) 65535 } }).afterJoins) ∧
    (((s.trackers.get r).previousEdge = none ∨
        ∃ p, (s.trackers.get r).previousEdge = some p ∧ 225000 < e - p) →
      exec (.edgeAccepted r) s = .next (s.setTracker r { s.trackers.get r with
        filtered := true, accepting := none, previousEdge := some e }).afterJoins)

/-- An in-window edge in SEEKING locks (R6): the tracker's new fields, the start of the cycle (R4, R17, R18, R21, R102),
BLIND removed from the groups on the reference (R121), the causes of their checks examined, every other check left as it was
(R92, R99), the verdicts of the groups, of which all else stays (R113, R114, R124), and the notices: SYNC
(R15), then CHECK, then PERMIT (the model's order, log entry 15). The filtered level becomes high here (the model's
choice, log entry 7), and only frames that joined at this same tick are taken (R52, log entry 8). A quiet counter at 1 stays
there until QUIET_END of this tick (the model's choice, log entry 6), a filling buffer found filling is left as it is
(the model's choice, log entry 22), and a new frame's priority and join order are 0 until its close and its join set them
(the model's choice, log entry 37). -/
def Obligations.LockFromSeeking : Prop :=
  ∀ (r : Ref) (e p : Tick) (s : State), s.calm → s.edgeDue r = true →
    (s.trackers.get r).accepting = some e → (s.trackers.get r).previousEdge = some p →
    150000 ≤ e - p → e - p ≤ 225000 → (s.trackers.get r).mode = .seeking →
    ∃ u t : State, exec (.edgeAccepted r) s = .next t ∧
      t = u.afterJoins ∧ u.queue = s.queue ∧ u.engines = s.engines ∧ u.audit = s.audit ∧ u.lastJoin = s.lastJoin ∧
      t.trackers = s.trackers.set r { s.trackers.get r with
        mode := .locked
        filtered := true
        accepting := none
        previousEdge := some e
        period := e - p
        start := some e
        deadline := some (e + min (e - p + (e - p) / 16) 225000)
        nextStrobe := some 1
        heldCount := 0
        cycle := (s.trackers.get r).cycle + 1
        counters := { (s.trackers.get r).counters with
          locks := min ((s.trackers.get r).counters.locks + 1) 65535 } } ∧
      s.CycleStarts t r (fun c => (s.buffers[c]).fill) ∧
      (∀ c : Channel, s.Closes t c none ∧ (t.buffers[c]).counters = (s.buffers[c]).counters) ∧
      (∀ g : Group, s.plan.groups[g].ref = r → t.verdicts[g].reasons.blind = false) ∧
      s.CausesExaminedOn t (fun g => s.plan.groups[g].ref == r) ∧
      s.VerdictsSet t (fun _ => false) (fun g v =>
        if s.plan.groups[g].ref = r then { v with reasons := { v.reasons with blind := false } } else v) ∧
      s.Raised t ([.sync r ((s.trackers.get r).cycle + 1) .seeking .locked (1000000000 / (e - p))]
        ++ s.checkNotices t t.groupCycle ++ s.permitNotices t t.groupCycle) ∧
      (s.lastJoin ≠ some s.now → t.queue = s.queue ∧ t.engines = s.engines ∧ t.audit = s.audit) ∧
      State.ChangesOnly [.trackers, .buffers, .quiet, .quietEndDue, .converters, .checks, .verdicts, .alert, .ports,
        .queue, .engines, .audit] s t

/-- An in-window edge in LOCKED ends the cycle, complete or short, and starts the next with the edge's interval (R7, R8);
in HOLDING it re-locks and the held cycle ends short (R11). What the end does to each channel's frame is R23's: a short
end discards it, a complete one closes it or leaves it closing; the new frame then enters or waits behind a closing one
(R21). Strobe 0 is issued and the quiet counters step (R4, R17, R18, R102). A re-lock raises a SYNC notice, and an edge in
LOCKED raises none (R15). The engines take once the frames have joined (R52, log entry 8). The filtered level becomes high
here (the model's choice, log entry 7). A quiet counter at 1 stays there until QUIET_END of this tick (the model's choice,
log entry 6), a filling buffer found filling is left as it is (the model's choice, log entry 22), and a frame that joins
has the model's join order (log entry 23). A new frame's priority and join order are 0 until its close and
its join set them (the model's choice, log entry 37). Commands behind a drain that this event ends run after it (log entry
35). -/
def Obligations.EdgeEndsTheCycle : Prop :=
  ∀ (r : Ref) (e p : Tick) (s : State), s.BuffersSound → s.edgeDue r = true →
    (s.trackers.get r).accepting = some e → (s.trackers.get r).previousEdge = some p →
    150000 ≤ e - p → e - p ≤ 225000 → (s.trackers.get r).mode ≠ .seeking →
    let outcome : Outcome :=
      if (s.trackers.get r).mode = .locked ∧ (s.trackers.get r).nextStrobe = some 128 then .complete else .short
    ∃ u t : State, exec (.edgeAccepted r) s = .next t.runAll ∧
      t = u.afterJoins ∧ u.engines = s.engines ∧ u.audit = s.audit ∧ s.CycleEnds u r outcome ∧
      t.trackers = s.trackers.set r { s.trackers.get r with
        mode := .locked
        filtered := true
        accepting := none
        previousEdge := some e
        period := e - p
        start := some e
        deadline := some (e + min (e - p + (e - p) / 16) 225000)
        nextStrobe := some 1
        heldCount := if (s.trackers.get r).mode = .holding then 0 else (s.trackers.get r).heldCount
        cycle := (s.trackers.get r).cycle + 1
        counters := { (s.trackers.get r).counters with
          locks := if (s.trackers.get r).mode = .holding then min ((s.trackers.get r).counters.locks + 1) 65535
            else (s.trackers.get r).counters.locks } } ∧
      s.CycleEnds t r outcome ∧
      s.CycleStarts t r (fun c => (s.buffers[c]).fill.ended r outcome) ∧
      s.Raised t (if (s.trackers.get r).mode = .holding then
        [.sync r ((s.trackers.get r).cycle + 1) .holding .locked (1000000000 / (e - p))] else []) ∧
      State.ChangesOnly [.trackers, .buffers, .queue, .lastJoin, .engines, .audit, .converters, .quiet, .quietEndDue,
        .ports] s t

/-- At the deadline the cycle ends held and a held cycle starts (R9). At the end of a held cycle the next one starts, or
at the hold limit the reference is lost (R10), BLIND is added where the policy says so (R121) and the checks of the groups
on it are suspended, LATCHED, OFF and SUSPENDED ones and those of other groups staying as they were (R92, R98), with the
verdicts that follow, of which all else stays (R113, R114, R124). Each channel's frame closes held, or is left closing
with its held flag set (R23), and the new frame enters or waits behind it (R21); strobe 0 is issued and the quiet counters
step (R4, R17, R18, R102). The engines take once the frames have joined (R52, log entry 8). The SYNC notices are R15's; at
a loss the CHECK and PERMIT notices follow in the model's order, and the suspensions and BLIND are one event (log entries
15 and 30). A quiet counter at 1 stays there until QUIET_END of this tick (the model's choice, log entry 6), a filling
buffer found filling is left as it is (the model's choice, log entry 22), and a frame that joins has the model's join
order (log entry 23). A new frame's priority and join order are 0 until its close and its join set them (the
model's choice, log entry 37). Commands behind a drain that this event ends run after it (log entry 35). -/
def Obligations.HeldCycles : Prop :=
  (∀ (r : Ref) (s : State), s.BuffersSound → s.deadlineDue r = true →
    ∃ u t : State, exec (.deadlineExpiry r) s = .next t.runAll ∧
      t = u.afterJoins ∧ u.engines = s.engines ∧ u.audit = s.audit ∧ s.CycleEnds u r .held ∧
      t.trackers = s.trackers.set r { s.trackers.get r with
        mode := .holding
        heldCount := 1
        deadline := none
        start := some s.now
        nextStrobe := some 1
        cycle := (s.trackers.get r).cycle + 1
        counters := { (s.trackers.get r).counters with
          holds := min ((s.trackers.get r).counters.holds + 1) 65535 } } ∧
      s.CycleEnds t r .held ∧ s.CycleStarts t r (fun c => (s.buffers[c]).fill.ended r .held) ∧
      s.Raised t [.sync r ((s.trackers.get r).cycle + 1) .locked .holding
        (1000000000 / (s.trackers.get r).period)] ∧
      State.ChangesOnly [.trackers, .buffers, .queue, .lastJoin, .engines, .audit, .converters, .quiet, .quietEndDue,
        .ports] s t) ∧
  (∀ (r : Ref) (s : State), s.BuffersSound → s.heldEndDue r = true →
    (s.trackers.get r).heldCount < (s.plan.refs.get r).holdLimit →
    ∃ u t : State, exec (.heldCycleEnd r) s = .next t.runAll ∧
      t = u.afterJoins ∧ u.engines = s.engines ∧ u.audit = s.audit ∧ s.CycleEnds u r .held ∧
      t.trackers = s.trackers.set r { s.trackers.get r with
        heldCount := (s.trackers.get r).heldCount + 1
        start := some s.now
        nextStrobe := some 1
        cycle := (s.trackers.get r).cycle + 1 } ∧
      s.CycleEnds t r .held ∧ s.CycleStarts t r (fun c => (s.buffers[c]).fill.ended r .held) ∧
      s.Raised t [] ∧
      State.ChangesOnly [.trackers, .buffers, .queue, .lastJoin, .engines, .audit, .converters, .quiet, .quietEndDue,
        .ports] s t) ∧
  (∀ (r : Ref) (s : State), s.BuffersSound → s.heldEndDue r = true →
    (s.plan.refs.get r).holdLimit ≤ (s.trackers.get r).heldCount →
    ∃ u t : State, exec (.heldCycleEnd r) s = .next t.runAll ∧
      t = u.afterJoins ∧ u.engines = s.engines ∧ u.audit = s.audit ∧ s.CycleEnds u r .held ∧
      t.trackers = s.trackers.set r { s.trackers.get r with
        mode := .seeking
        heldCount := 0
        start := none
        deadline := none
        nextStrobe := none
        counters := { (s.trackers.get r).counters with
          losses := min ((s.trackers.get r).counters.losses + 1) 65535 } } ∧
      s.CycleEnds t r .held ∧ (∀ c : Channel, (t.buffers[c]).fill = (s.buffers[c]).fill.ended r .held) ∧
      (∀ g : Group, s.plan.groups[g].ref = r →
        t.verdicts[g].reasons.blind = decide (s.plan.groups[g].blind = .withdraw)) ∧
      (∀ i : CheckIx, s.plan.checks[i].enabled = true → s.plan.groups[s.plan.checkGroup i].ref = r →
        s.checks[i].state ∈ [CheckState.clear, .rising, .active, .falling] →
        t.checks[i] = { s.checks[i] with state := .suspended, run := 0 }) ∧
      s.CausesExaminedOn t (fun g => s.plan.groups[g].ref == r) ∧
      s.VerdictsSet t (fun _ => false) (fun g v => if s.plan.groups[g].ref = r then
        { v with reasons := { v.reasons with blind := decide (s.plan.groups[g].blind = .withdraw) } } else v) ∧
      s.Raised t ([.sync r (s.trackers.get r).cycle .holding .seeking (1000000000 / (s.trackers.get r).period)]
        ++ s.checkNotices t t.groupCycle ++ s.permitNotices t t.groupCycle) ∧
      State.ChangesOnly [.trackers, .buffers, .queue, .lastJoin, .engines, .audit, .checks, .verdicts, .alert, .ports]
        s t)

/-- A strobe that falls due is issued: every channel that converts on the reference starts a conversion, marked with the
cycle and the slot (R5, R17). -/
def Obligations.StrobeStartsConversions : Prop :=
  ∀ (r : Ref) (s : State), s.strobeDue r = true →
    ∃ (k : Slot) (t : State), (s.trackers.get r).nextStrobe = some k.val ∧ exec (.strobe r) s = .next t ∧
      t.trackers = s.trackers.set r { s.trackers.get r with nextStrobe := some (k.val + 1) } ∧
      (∀ c : Channel, t.converters[c] =
        if s.usesRef r c = true ∧ (s.converters[c]).armed = true then
          { s.converters[c] with
            inFlight := (s.converters[c]).inFlight ++
              [⟨(s.trackers.get r).cycle, k, (s.converters[c]).latched, s.now, true⟩] }
        else s.converters[c]) ∧
      State.ChangesOnly [.trackers, .converters] s t

/-! ### Frames -/

/-- What a sample arrival does (R17, R18, R22, R23): the conversion is over, with all else of the converter as it was, and
its sample, limited to the range of the
converter or read from the pattern, is written into its slot of the filling or closing frame of its cycle and marks it
when it is clipped; a closing frame that has its slot 127 sample closes and the pending start enters with the sample kept
for it; a sample of the pending start's cycle is kept; and any other is discarded. Only a close touches the held buffer and
the counters, and joins the queue, and the
engines take at once, or once no other frame can join at this tick (R52, log entry 8). A frame that joins has the model's
join order (log entry 23), and commands behind a drain that a close ends run after the arrival (log entry 35). -/
def Obligations.SampleFillsItsSlot : Prop :=
  ∀ (c : Channel) (cycle : Word) (slot : Slot) (analog : Int) (s : State) (v : Conversion),
    s.BuffersSound → s.arriving c cycle slot = some v →
    let written := fun (f : Frame) (k : Slot) (x : Sample) => ({ f with
      samples := f.samples.set k (some x)
      clipped := f.clipped || decide (x.toInt = -32768 ∨ x.toInt = 32767) } : Frame)
    ∃ (u t : State) (x : Sample), exec (.sampleArrival c cycle slot analog) s = .next t.runAll ∧
      t = u.afterJoins ∧ u.engines = s.engines ∧ u.audit = s.audit ∧
      (∀ d : Channel, (t.buffers[d]).epoch = (s.buffers[d]).epoch) ∧
      (v.source = .live → x = BitVec.ofInt 16 (if analog < -32768 then -32768
        else if 32767 < analog then 32767 else analog)) ∧
      (∀ p, v.source = .pattern p → x = s.patterns[p][slot]) ∧
      t.converters[c] = { s.converters[c] with inFlight := (s.converters[c]).inFlight.erase v } ∧
      (∀ f, v.handed = true → (s.buffers[c]).fill = .filling f → f.cycle = cycle →
        (t.buffers[c]).fill = .filling (written f slot x)) ∧
      (∀ f next, v.handed = true → (s.buffers[c]).fill = .closing f next → f.cycle = cycle →
        if (written f slot x).samples[127].isSome = true then
          s.Closes t c (some (written f slot x)) ∧
          (t.buffers[c]).fill = (match next with
            | none => .idle
            | some p => match p.kept with
              | none => .filling p.frame
              | some (k, y) => .filling (written p.frame k y))
        else (t.buffers[c]).fill = .closing (written f slot x) next ∧ s.Closes t c none ∧
          (t.buffers[c]).counters = (s.buffers[c]).counters) ∧
      (∀ f p, v.handed = true → (s.buffers[c]).fill = .closing f (some p) → f.cycle ≠ cycle → p.frame.cycle = cycle →
        (t.buffers[c]).fill = .closing f (some { p with kept := some (slot, x) })) ∧
      ((v.handed = false ∨ (match (s.buffers[c]).fill with
          | .idle => True
          | .filling f => f.cycle ≠ cycle
          | .closing f none => f.cycle ≠ cycle
          | .closing f (some p) => f.cycle ≠ cycle ∧ p.frame.cycle ≠ cycle)) →
        (t.buffers[c]).fill = (s.buffers[c]).fill) ∧
      ((v.handed = false ∨ ∀ f next, (s.buffers[c]).fill = .closing f next → f.cycle ≠ cycle) →
        s.Closes t c none ∧ (t.buffers[c]).counters = (s.buffers[c]).counters ∧
        (s.lastJoin ≠ some s.now → State.ChangesOnly [.converters, .buffers] s t)) ∧
      (∀ d : Channel, d ≠ c → t.converters[d] = s.converters[d] ∧ (t.buffers[d]).fill = (s.buffers[d]).fill ∧
        (t.buffers[d]).counters = (s.buffers[d]).counters ∧ s.Closes t d none) ∧
      s.Raised t [] ∧
      State.ChangesOnly [.converters, .buffers, .queue, .lastJoin, .engines, .audit, .ports] s t

/-- The close of a frame. Its priority is its channel's base priority, one higher while a check of the channel's group is
RISING, ACTIVE, FALLING or LATCHED, and at most 3 (R27). With the channel's buffered frame at an engine the new frame is
lost; with none buffered it becomes the buffered frame and joins the queue; a buffered frame that no engine has taken is
superseded: it leaves the queue and the new frame joins at its own place (R25). A frame that joins stands behind every
frame of a higher level and, within its level, behind those that closed earlier, so at the tail of its level when no frame
has joined at this tick (R28). Among frames that join at one tick it stands in channel order whatever the order of their
events (the model's reading of R28, log entry 8), and its join order is 16 times the tick plus its channel's index (the
model's number, log entry 23). -/
def Obligations.FrameClose : Prop :=
  let key := fun (s : State) (a b : Channel) => s.heldPriority b < s.heldPriority a ∨
    s.heldPriority a = s.heldPriority b ∧ s.heldJoin a < s.heldJoin b
  let joins := fun (s t : State) (f : Frame) (queue : List Channel) =>
    ∃ ahead behind, queue = ahead ++ behind ∧ t.queue = ahead ++ f.channel :: behind ∧
      (∀ d ∈ ahead, s.priorityOf f.channel < s.heldPriority d ∨
        s.heldPriority d = s.priorityOf f.channel ∧ s.heldJoin d < 16 * s.now + f.channel.val) ∧
      (∀ d ∈ behind, s.heldPriority d < s.priorityOf f.channel ∨
        s.heldPriority d = s.priorityOf f.channel ∧ 16 * s.now + f.channel.val ≤ s.heldJoin d) ∧
      ((∀ d ∈ queue, s.heldJoin d < 16 * s.now) →
        (∀ d ∈ ahead, s.priorityOf f.channel ≤ s.heldPriority d) ∧
        (∀ d ∈ behind, s.heldPriority d < s.priorityOf f.channel)) ∧
      (t.buffers[f.channel]).held =
        some { f with priority := s.priorityOf f.channel, joinOrder := 16 * s.now + f.channel.val }
  (∀ (s : State) (c : Channel),
    s.priorityOf c = min 3 (s.plan.channels[c].basePriority +
      if (∃ i : CheckIx, s.plan.channels[s.plan.checks[i].channel].group = s.plan.channels[c].group ∧
        s.checks[i].state ∈ [CheckState.rising, .active, .falling, .latched]) then 1 else 0)) ∧
  (∀ (s : State) (f old : Frame), (s.buffers[f.channel]).held = some old →
    (old.engines.e1 || old.engines.e2) = true →
    s.closeFrame f = s.setBuffers f.channel { s.buffers[f.channel] with
      counters := { (s.buffers[f.channel]).counters.countClose f.clipped with
        lost := min ((s.buffers[f.channel]).counters.lost + 1) 65535 } }) ∧
  (∀ (s : State) (f : Frame), (s.buffers[f.channel]).held = none → f.channel ∉ s.queue → s.queue.Pairwise (key s) →
    joins s (s.closeFrame f) f s.queue ∧
    ((s.closeFrame f).buffers[f.channel]).counters = (s.buffers[f.channel]).counters.countClose f.clipped) ∧
  (∀ (s : State) (f old : Frame), (s.buffers[f.channel]).held = some old →
    (old.engines.e1 || old.engines.e2) = false → s.queue.Pairwise (key s) →
    joins s (s.closeFrame f) f (s.queue.filter (fun d => d != f.channel)) ∧
    ((s.closeFrame f).buffers[f.channel]).counters =
      { (s.buffers[f.channel]).counters.countClose f.clipped with
        superseded := min ((s.buffers[f.channel]).counters.superseded + 1) 65535 } ∧
    (s.closeFrame f).queue.count f.channel = 1) ∧
  (∀ (n : ChannelCounters) (clipped : Bool), n.countClose clipped = { n with
    closed := min (n.closed + 1) 65535
    clipped := if clipped = true then min (n.clipped + 1) 65535 else n.clipped })

/-! ### Engines -/

/-- An engine that is IN SERVICE and idle takes the first eligible frame in queue order. The frame in hand and the frame in
the held buffer then name the engine beside those that they named; the audit unit decides at a first take whether they are
marked audit, and a frame so marked stays in the queue, but for one whose audit is abandoned at once; at a second take the
frame leaves the queue and its results are to be compared (R52, R53, R56 to R58, R63). With no eligible frame, or an engine
not in service or busy, nothing is taken. Both engines take with E1 first. While frames have joined at this tick and others
may yet close at it, neither takes (R52, log entry 8), whatever happens in that time (the model's choice, log entry 34). -/
def Obligations.EngineTakesTheFirstEligible : Prop :=
  (∀ (s : State) (e : Engine) (c : Channel) (ahead behind : List Channel) (f : Frame),
    (s.engines.get e).service = .inService → (s.engines.get e).hand = none →
    s.queue = ahead ++ c :: behind → (∀ d ∈ ahead, s.eligible e d = false) → s.eligible e c = true →
    (s.buffers[c]).held = some f →
    ∃ h, (s.engineTake e).engines.get e = { service := .inService, hand := some h, lastCycle := f.cycle } ∧
      h.taken = s.now ∧ h.frame = { f with audit := h.frame.audit, engines := h.frame.engines } ∧
      h.frame.engines.get e = true ∧ h.frame.engines.get e.other = f.engines.get e.other ∧
      (s.engineTake e).buffers = s.buffers.set c { s.buffers[c] with held := some h.frame } ∧
      (s.engineTake e).engines.get e.other = s.engines.get e.other ∧
      State.ChangesOnly [.engines, .buffers, .queue, .audit] s (s.engineTake e) ∧
      (f.audit = true → (s.engineTake e).queue = s.queue.filter (fun d => d != c) ∧ (s.engineTake e).audit = s.audit ∧
        h.frame.audit = true ∧ h.role = .pair ∧ (f.engines.get e.other = true → h.frame.engines = ⟨true, true⟩)) ∧
      (s.engineTake e).audit = { s.audit with
        counter := (s.engineTake e).audit.counter, skips := (s.engineTake e).audit.skips } ∧
      (f.audit = false →
        (∀ _ : s.audit.auditAll = true ∨
            s.plan.auditInterval ≠ 0 ∧ s.plan.auditInterval ≤ s.audit.counter + 1,
          (s.engineTake e).audit.counter = 0 ∧
          ((s.engines.get e.other).service = .inService → (s.engineTake e).queue = s.queue ∧
            h.frame.audit = true ∧ h.role = .pair ∧ (s.engineTake e).audit.skips = s.audit.skips) ∧
          ((s.engines.get e.other).service = .stopping →
            (s.engineTake e).queue = s.queue.filter (fun d => d != c) ∧ h.frame.audit = true ∧ h.role = .abandoned ∧
            (s.engineTake e).audit.skips = s.audit.skips) ∧
          ((s.engines.get e.other).service = .out →
            (s.engineTake e).queue = s.queue.filter (fun d => d != c) ∧ h.frame.audit = false ∧ h.role = .plain ∧
            (s.engineTake e).audit.skips = min (s.audit.skips + 1) 65535)) ∧
        (∀ _ : ¬(s.audit.auditAll = true ∨
            s.plan.auditInterval ≠ 0 ∧ s.plan.auditInterval ≤ s.audit.counter + 1),
          (s.engineTake e).audit.counter =
            (if s.plan.auditInterval = 0 then s.audit.counter else s.audit.counter + 1) ∧
          (s.engineTake e).queue = s.queue.filter (fun d => d != c) ∧ h.frame.audit = false ∧ h.role = .plain ∧
          (s.engineTake e).audit.skips = s.audit.skips))) ∧
  (∀ (s : State) (e : Engine),
    (s.engines.get e).service ≠ .inService ∨ (s.engines.get e).hand ≠ none ∨
      (∀ c ∈ s.queue, s.eligible e c = false) →
    s.engineTake e = s) ∧
  (∀ s : State,
    (s.closesAhead = true ↔
      (∃ r : Ref, s.sampleDue r = true ∨ (s.trackers.get r).accepting.isSome = true ∨
        (s.trackers.get r).mode = .locked ∧ (s.trackers.get r).deadline = some s.now ∨
        (s.trackers.get r).mode = .holding ∧ ∃ st, (s.trackers.get r).start = some st ∧
          s.now = st + (s.trackers.get r).period) ∨
      ∃ c : Channel, s.arrivalDue c = true) ∧
    (s.lastJoin = some s.now → s.closesAhead = true → s.enginesTake = s ∧ s.afterJoins = s) ∧
    (s.lastJoin = some s.now → s.closesAhead = false → s.afterJoins = (s.engineTake .e1).engineTake .e2) ∧
    (s.lastJoin ≠ some s.now ∨ s.closesAhead = false → s.enginesTake = (s.engineTake .e1).engineTake .e2) ∧
    (s.lastJoin ≠ some s.now → s.afterJoins = s))

/-- What becomes of the result of a completed transform (R54, R71 to R74). The result of a frame not marked audit, that of
an abandoned audit with the unaudited flag (R63), and that of an audit pair that agrees, with the saturated flag of either
(R60), come to the result table. There a result of another plan epoch (R71) and a test result that is not admitted (R72)
are dropped; any other is accepted: the record is replaced whole, stamped with the active generation, every check that the
channel concerns and that is not suspended is evaluated with its quantity or passed over where the quantity is not formed
(R50, R84, R94), UNPLANNED is cleared under a plan that protects the group (R115), and each group of which a check has
changed is recomputed (R113, R114, R116, R117, R124). A held result where held frames are not evaluated steps no check
(R73). The result of a frame that an activation removed is dropped (R64), and the first result of a pair is kept (R59). A
result that is accepted or dropped settles its frame, and nothing else of any channel's buffers changes (R30, R31); a pair
leaves the audit unit at its comparison, and all else of that unit stays (R59 to R62). An engine that was STOPPING then
goes OUT OF SERVICE, and any other takes its next frame (R52, R54), or takes nothing while frames of this tick are still
joining (the model's choice, log entry 34). The notices are CHECK, then PERMIT, of the evaluated
cycle (R106, R125), then the ENGINE notice of an engine that was STOPPING (R54, R68; the place of this last one is the
model's choice, log entry 15). The figures are those of the samples, or those of a faulty engine (the model's choice, log
entry 5). Commands behind a drain that the settling ends run after the evaluation, the notices and the engine's next take
(the model's choice, log entry 35). -/
def Obligations.TransformResults : Prop :=
  ∀ (e : Engine) (wrong : Option Figures) (s : State) (h : Hand),
    (s.engines.get e).hand = some h →
    let c := h.frame.channel
    let own := wrong.getD (transform h.frame.values)
    let stops : List NoticeBody := if (s.engines.get e).service = .stopping then
      [.engine e (s.engines.get e).lastCycle .stopping .out 0] else []
    let dropped := h.frame.epoch ≠ (s.buffers[c]).epoch ∨ h.frame.source ≠ .live ∧
      (s.tests[s.plan.groupOf c].isRunning = false ∨ s.sources[c] = .live)
    -- the result `figures`, with its unaudited flag, comes to the result table
    let arrives := fun (figures : Figures) (unaudited : Bool) =>
      h.role = .plain ∧ figures = own ∧ unaudited = false ∨
      h.role = .abandoned ∧ figures = own ∧ unaudited = true ∨
      ∃ k, h.role = .pair ∧ s.audit.kept[c] = some k ∧ k.result.figures.mean = own.mean ∧
        k.result.figures.ripple = own.ripple ∧ k.result.figures.levels = own.levels ∧
        figures = { own with saturated := own.saturated || k.result.figures.saturated } ∧ unaudited = false
    let first : Kept :=
      { engine := e
        result :=
          { join := h.frame.joinOrder, channel := c, ref := h.frame.ref, cycle := h.frame.cycle,
            epoch := h.frame.epoch, heldFlag := h.frame.heldFlag, clipped := h.frame.clipped,
            test := h.frame.source != .live, unaudited := false, figures := own } }
    ∃ u t : State, exec (.transformComplete e wrong) s = .next t.runAll ∧ s.CompletionEnds u t e ∧
      (h.role = .removed ∨ (∃ figures unaudited, arrives figures unaudited) → s.Settles u c h.frame.joinOrder) ∧
      (h.role ≠ .pair → u.audit = s.audit) ∧
      (h.role = .pair → (∃ figures unaudited, arrives figures unaudited) →
        u.audit = { s.audit with kept := s.audit.kept.set c none }) ∧
      (t.engines.get e).service =
        (if (s.engines.get e).service = .stopping then .out else (s.engines.get e).service) ∧
      ((s.engines.get e).service = .stopping → (t.engines.get e).hand = none) ∧
      (h.role = .removed ∨ (∃ figures unaudited, arrives figures unaudited) →
        ∀ f, (s.buffers[c]).held = some f → f.joinOrder = h.frame.joinOrder → (t.buffers[c]).held = none) ∧
      (h.role = .removed ∨ dropped ∧ (∃ figures unaudited, arrives figures unaudited) →
        s.Raised t stops ∧ State.ChangesOnly [.buffers, .queue, .engines, .audit, .ports] s t) ∧
      (h.role = .pair → s.audit.kept[c] = none →
        t.audit.kept[c] = some first ∧ u.audit = { s.audit with kept := s.audit.kept.set c (some first) } ∧
        u.buffers = s.buffers ∧ u.queue = s.queue ∧
        s.Raised t stops ∧ State.ChangesOnly [.buffers, .queue, .engines, .audit, .ports] s t) ∧
      (∀ figures unaudited, arrives figures unaudited → ¬dropped →
        t.records = s.records.set c (some
          { ref := h.frame.ref, cycle := h.frame.cycle, generation := s.planStore.generation,
            figures := figures, heldFlag := h.frame.heldFlag, clipped := h.frame.clipped,
            test := h.frame.source != .live, unaudited := unaudited }) ∧
        (h.frame.heldFlag = true → s.plan.groups[s.plan.groupOf c].evaluateHeld = false →
          t.checks = s.checks ∧ t.verdicts = s.verdicts ∧ t.alert = s.alert) ∧
        (h.frame.heldFlag = false ∨ s.plan.groups[s.plan.groupOf c].evaluateHeld = true →
          (∀ i : CheckIx,
            let x := s.plan.checks[i]
            let other := if x.channel = c then x.second else x.channel
            let judged := fun v : Int => evaluateCheck x v h.frame.cycle s.checks[i]
            let formed := fun v : Option Nat => match v with
              | some n => judged n
              | none => s.checks[i]
            t.checks[i] =
              if x.enabled = true ∧ (x.channel = c ∨ x.quantity = .spread ∧ x.second = c) ∧
                  s.checks[i].state ≠ .suspended then
                match x.quantity with
                | .mean => judged figures.mean.toInt
                | .ripple => judged figures.ripple.toNat
                | .level => judged (levelOf figures x.order)
                | .factor => formed (rippleFactor s.plan.channels[c].meanFloor figures)
                | .distortion => formed (distortion s.plan.channels[c].fundFloor figures)
                | .weighted => judged (weightedInterference s.plan.weights figures)
                | .spread => if other = c then judged 0 else
                  match s.records[other] with
                  | some r => if r.ref = h.frame.ref ∧ r.cycle = h.frame.cycle then judged (spread figures r.figures)
                      else s.checks[i]
                  | none => s.checks[i]
              else s.checks[i]) ∧
          (∀ g : Group, t.verdicts[g].reasons.unplanned =
            if g = s.plan.groupOf c ∧ s.plan.protects g = true then false
            else s.verdicts[g].reasons.unplanned) ∧
          s.VerdictsSet t (fun _ => false) (s.afterEvaluation c)) ∧
        s.Raised t (s.checkNotices t (fun _ => h.frame.cycle) ++ s.permitNotices t (fun _ => h.frame.cycle)
          ++ stops) ∧
        State.ChangesOnly [.records, .checks, .verdicts, .alert, .buffers, .queue, .engines, .audit, .ports] s t)

/-- The two results of an audit frame mismatch at the second completion (R60 to R62): the frame is settled, no record and
no check changes, the fault is recorded with the first quantity in which they differ and the figures of E1 and of E2, the
count rises, audit-all mode is on from the third, and an ENGINE notice is raised (R68), before that of an engine that was
STOPPING (the model's order, log entry 15). Nothing else of the audit unit and of any channel's buffers changes, and the
engine then takes its next frame unless it was STOPPING (R52, R54), or takes nothing while frames of this tick are still
joining (the model's choice, log entry 34). The figures may be those of a faulty engine (the
model's choice, log entry 5). Commands behind a drain that the settling ends run after all of this (the model's choice,
log entry 35). -/
def Obligations.TransformMismatch : Prop :=
  ∀ (e : Engine) (wrong : Option Figures) (s : State) (h : Hand) (k : Kept),
    (s.engines.get e).hand = some h → h.role = .pair →
    s.audit.kept[h.frame.channel] = some k →
    let own := wrong.getD (transform h.frame.values)
    let x1 := if e = .e1 then own else k.result.figures
    let x2 := if e = .e1 then k.result.figures else own
    (x1.mean ≠ x2.mean ∨ x1.ripple ≠ x2.ripple ∨ x1.levels ≠ x2.levels) →
    ∃ (u t : State) (rec : FaultRecord), exec (.transformComplete e wrong) s = .next t.runAll ∧
      s.CompletionEnds u t e ∧ s.Settles u h.frame.channel h.frame.joinOrder ∧
      u.audit = { s.audit with
        kept := s.audit.kept.set h.frame.channel none
        mismatches := min (s.audit.mismatches + 1) 255
        auditAll := s.audit.auditAll || decide (3 ≤ min (s.audit.mismatches + 1) 255)
        first := if s.audit.first.isSome = true then s.audit.first else some rec
        latest := some rec
        overflow := s.audit.overflow || s.audit.latest.isSome } ∧
      State.ChangesOnly [.buffers, .queue, .engines, .audit, .ports] s t ∧
      (∀ f, (s.buffers[h.frame.channel]).held = some f → f.joinOrder = h.frame.joinOrder →
        (t.buffers[h.frame.channel]).held = none) ∧
      t.audit.mismatches = min (s.audit.mismatches + 1) 255 ∧
      t.audit.auditAll = (s.audit.auditAll || decide (3 ≤ min (s.audit.mismatches + 1) 255)) ∧
      t.audit.latest = some rec ∧ t.audit.first = (if s.audit.first.isSome = true then s.audit.first else some rec) ∧
      t.audit.overflow = (s.audit.overflow || s.audit.latest.isSome) ∧
      t.audit.kept[h.frame.channel] = none ∧
      rec.channel = h.frame.channel ∧ rec.cycle = h.frame.cycle ∧
      (x1.mean ≠ x2.mean → rec.quantity = .mean ∧ rec.value1 = x1.mean ∧ rec.value2 = x2.mean) ∧
      (x1.mean = x2.mean → x1.ripple ≠ x2.ripple →
        rec.quantity = .ripple ∧ rec.value1 = x1.ripple ∧ rec.value2 = x2.ripple) ∧
      (x1.mean = x2.mean → x1.ripple = x2.ripple →
        ∃ o : OrderIx, x1.levels[o] ≠ x2.levels[o] ∧ (∀ o' : OrderIx, o' < o → x1.levels[o'] = x2.levels[o']) ∧
          rec.quantity = .level o ∧ rec.value1 = x1.levels[o] ∧ rec.value2 = x2.levels[o]) ∧
      s.Raised t ([.mismatch h.frame.channel h.frame.cycle s.audit.auditAll t.audit.auditAll t.audit.mismatches]
        ++ if (s.engines.get e).service = .stopping then
          [.engine e (s.engines.get e).lastCycle .stopping .out 0] else [])

/-! ### Spectrum arithmetic -/

/-- The figures of a frame and the quantities derived from them. The mean is the floor of the sum over 128 (R37), and the
ripple level is the integer root of the floored mean square departure from it (R38). A harmonic level is the integer root
of the two harmonic sums squared, divided by 2,097,088 and capped at 65535, and a capped level sets the saturated flag (R41,
R42). The ripple factor and the distortion are not formed below their floors, and the factor, the distortion and the
weighted interference are capped at 65535 (R46 to R48). The spread is the distance of two means (R49). -/
def Obligations.MeanAndRipple : Prop :=
  (∀ xs : List Int, xs.length = 128 → (∀ x ∈ xs, -32768 ≤ x ∧ x ≤ 32767) →
    128 * (transform xs).mean.toInt ≤ xs.sum ∧ xs.sum < 128 * ((transform xs).mean.toInt + 1) ∧
    (((transform xs).ripple.toNat * (transform xs).ripple.toNat : Nat) : Int) ≤
      (xs.map (fun x => (x - (transform xs).mean.toInt) * (x - (transform xs).mean.toInt))).sum / 128 ∧
    (xs.map (fun x => (x - (transform xs).mean.toInt) * (x - (transform xs).mean.toInt))).sum / 128 <
      ((((transform xs).ripple.toNat + 1) * ((transform xs).ripple.toNat + 1) : Nat) : Int)) ∧
  (∀ xs : List Int, xs.length = 128 →
    let re := fun h : Nat => ((List.range 128).map (fun n => xs.getD n 0 * cosTable (h * n % 128))).sum
    let im := fun h : Nat => ((List.range 128).map (fun n => xs.getD n 0 * cosTable ((h * n + 96) % 128))).sum
    ∃ root : OrderIx → Nat,
      (∀ o : OrderIx,
        (root o : Int) * root o ≤ re (o.val + 1) * re (o.val + 1) + im (o.val + 1) * im (o.val + 1) ∧
        re (o.val + 1) * re (o.val + 1) + im (o.val + 1) * im (o.val + 1) < ((root o : Int) + 1) * (root o + 1) ∧
        ((transform xs).levels[o]).toNat = min 65535 (root o / 2097088)) ∧
      ((transform xs).saturated = true ↔ ∃ o : OrderIx, 65535 < root o / 2097088)) ∧
  (∀ (floor : Nat) (f : Figures),
    (f.mean.toInt.natAbs < max floor 1 → rippleFactor floor f = none) ∧
    (max floor 1 ≤ f.mean.toInt.natAbs →
      rippleFactor floor f = some (min 65535 (1000 * f.ripple.toNat / f.mean.toInt.natAbs)))) ∧
  (∀ (floor : Nat) (f : Figures),
    ((f.levels[0]).toNat < max floor 1 → distortion floor f = none) ∧
    (max floor 1 ≤ (f.levels[0]).toNat →
      ∃ root : Nat, root * root ≤ (∑ o : OrderIx, if o.val = 0 then 0 else (f.levels[o]).toNat ^ 2) ∧
        (∑ o : OrderIx, if o.val = 0 then 0 else (f.levels[o]).toNat ^ 2) < (root + 1) * (root + 1) ∧
        distortion floor f = some (min 65535 (1000 * root / (f.levels[0]).toNat)))) ∧
  (∀ (weights : Vector Nat 63) (f : Figures),
    ∃ root : Nat, root * root ≤ (∑ o : OrderIx, ((f.levels[o]).toNat * weights[o]) ^ 2) ∧
      (∑ o : OrderIx, ((f.levels[o]).toNat * weights[o]) ^ 2) < (root + 1) * (root + 1) ∧
      weightedInterference weights f = min 65535 (root / 4096)) ∧
  (∀ a b : Figures, (spread a b : Int) = |a.mean.toInt - b.mean.toInt|)

/-- A constant added to every sample of a frame changes no harmonic sum (R40, R41). -/
def Obligations.ConstantOffsetDropsOut : Prop :=
  ∀ (h : Nat) (d : Int) (xs : List Int), 1 ≤ h → h ≤ 63 → xs.length = 128 →
    harmonicSum cosTable h (xs.map (· + d)) = harmonicSum cosTable h xs ∧
    harmonicSum sinTable h (xs.map (· + d)) = harmonicSum sinTable h xs

/-! ### Checks -/

/-- The band of a check (R86): signed limits for MEAN, unsigned for every other quantity. -/
def Obligations.BandJudgement : Prop :=
  ∀ (e : CheckEntry) (v : Int),
    (e.quantity = .mean → e.sense = .outside → (e.present v = true ↔ v < e.low.toInt ∨ e.high.toInt < v)) ∧
    (e.quantity = .mean → e.sense = .inside → (e.present v = true ↔ e.low.toInt ≤ v ∧ v ≤ e.high.toInt)) ∧
    (e.quantity ≠ .mean → e.sense = .outside →
      (e.present v = true ↔ v < (e.low.toNat : Int) ∨ (e.high.toNat : Int) < v)) ∧
    (e.quantity ≠ .mean → e.sense = .inside →
      (e.present v = true ↔ (e.low.toNat : Int) ≤ v ∧ v ≤ (e.high.toNat : Int)))

/-- What an evaluation makes of a check's state, run count, tally, last value and last cycle: the transitions of CLEAR and
RISING (R87, R88) with the entry to ACTIVE or LATCHED (R89), those of ACTIVE and FALLING (R90, R91), and LATCHED, which
stays (R92). -/
def Obligations.CheckTransitions : Prop :=
  ∀ (e : CheckEntry) (v : Int) (cycle : Word) (st : CheckStatus),
    let new := evaluateCheck e v cycle st
    let entered : CheckStatus :=
      { state := if 1 ≤ e.tallyLimit ∧ min (st.tally + 1) 255 = e.tallyLimit then .latched else .active
        run := 0, tally := min (st.tally + 1) 255, last := some (v, cycle) }
    let stays : CheckStatus := { st with last := some (v, cycle) }
    (st.state = .clear → e.present v = false → new = stays) ∧
    (st.state = .clear → e.present v = true → e.persistence = 1 → new = entered) ∧
    (st.state = .clear → e.present v = true → e.persistence ≠ 1 → new = { stays with state := .rising, run := 1 }) ∧
    (st.state = .rising → e.present v = true → st.run + 1 = e.persistence → new = entered) ∧
    (st.state = .rising → e.present v = true → st.run + 1 ≠ e.persistence → new = { stays with run := st.run + 1 }) ∧
    (st.state = .rising → e.present v = false → new = { stays with state := .clear, run := 0 }) ∧
    (st.state = .active → e.present v = true → new = stays) ∧
    (st.state = .active → e.present v = false → e.release = 1 → new = { stays with state := .clear, run := 0 }) ∧
    (st.state = .active → e.present v = false → e.release ≠ 1 → new = { stays with state := .falling, run := 1 }) ∧
    (st.state = .falling → e.present v = true → new = { stays with state := .active, run := 0 }) ∧
    (st.state = .falling → e.present v = false → st.run + 1 = e.release →
      new = { stays with state := .clear, run := 0 }) ∧
    (st.state = .falling → e.present v = false → st.run + 1 ≠ e.release → new = { stays with run := st.run + 1 }) ∧
    (st.state = .latched → new = stays)

/-- CLEAR LATCH (R100, R104): a LATCHED check enters CLEAR, or SUSPENDED while a cause holds, with tally and run count 0;
any other keeps its state and run count, and its tally becomes 0. Every other check stays as it was, and the verdicts
follow the check, with UNPLANNED, RESTORE and the rest staying (R113, R114, R116, R124). The CHECK notice of a latch that
is cleared comes before the PERMIT notice (R105, R125; the model's order, log entry 15). -/
def Obligations.ClearLatchActs : Prop :=
  ∀ (l : Link) (tag check : Byte) (i : CheckIx) (s : State),
    s.Ready l → l ≠ .m → indexFrom0 64 check = some i →
    ∃ t : State, exec (.clearLatch l tag check) s =
        .next (t.reply l ((Command.clearLatch check).frame tag) .ok []) ∧
      t.checks = s.checks.set i
        (if s.checks[i].state = .latched then
          { s.checks[i] with state := if s.suspends i then .suspended else .clear, run := 0, tally := 0 }
        else { s.checks[i] with tally := 0 }) ∧
      s.VerdictsSet t (fun _ => false) (fun _ v => v) ∧
      s.Raised t (s.checkNotices t t.groupCycle ++ s.permitNotices t t.groupCycle) ∧
      State.ChangesOnly [.checks, .verdicts, .alert, .ports] s t

/-- The quiet counters. START QUIET loads the group's counter from its quiet code and the causes of its checks are
examined after the load (R101, R103); the countdown that brings a counter to 0 ends QUIET for the group's checks (R99,
R102). The verdicts follow the checks, and all else of them stays (R113, R114, R116, R124). That last countdown is
QUIET_END's own (the model's choice, log entry 6). CHECK notices come before PERMIT notices (the model's order, log entry
15). -/
def Obligations.QuietCounters : Prop :=
  (∀ (l : Link) (tag group : Byte) (g : Group) (s : State),
    s.Ready l → l ≠ .m → indexFrom1 4 group = some g →
    ∃ t : State, exec (.startQuiet l tag group) s =
        .next (t.reply l ((Command.startQuiet group).frame tag) .ok []) ∧
      t.quiet = s.quiet.set g (
        let q := s.plan.groups[g].quietCode
        if q ≤ 127 then q else if q ≤ 191 then 128 + (q - 128) * 2
        else if q ≤ 223 then 256 + (q - 192) * 8 else 512 + (q - 224) * 16) ∧
      s.CausesExamined t g ∧
      s.VerdictsSet t (fun _ => false) (fun _ v => v) ∧
      s.Raised t (s.checkNotices t t.groupCycle ++ s.permitNotices t t.groupCycle) ∧
      State.ChangesOnly [.quiet, .quietEndDue, .checks, .verdicts, .alert, .ports] s t) ∧
  (∀ (g : Group) (s : State), s.quietEndDue[g] = true → s.quiet[g] = 1 →
    ∃ t : State, exec (.quietEnd g) s = .next t ∧ t.quiet = s.quiet.set g 0 ∧ s.CausesExamined t g ∧
      s.VerdictsSet t (fun _ => false) (fun _ v => v) ∧
      s.Raised t (s.checkNotices t t.groupCycle ++ s.permitNotices t t.groupCycle) ∧
      State.ChangesOnly [.quiet, .quietEndDue, .checks, .verdicts, .alert, .ports] s t)

/-- The in-service inputs (R97, R101, R123): a rise loads the quiet counter and ends BREAKER OPEN, a fall begins it; either
way the causes of the group's checks are examined, and the verdicts follow the checks, RESTORE and the rest staying (R113,
R114, R116, R123, R124). CHECK notices come before PERMIT notices (the model's order, log
entry 15). A rise that ends a test is stated with the ends of tests. -/
def Obligations.InServiceInputs : Prop :=
  (∀ (g : Group) (s : State), s.inService[g] = false → s.tests[g].isRunning = false →
    ∃ t : State, exec (.inServiceRise g) s = .next t ∧ t.inService = s.inService.set g true ∧
      t.quiet = s.quiet.set g (quietLoad s.plan.groups[g].quietCode) ∧ s.CausesExamined t g ∧
      s.VerdictsSet t (fun _ => false) (fun _ v => v) ∧
      s.Raised t (s.checkNotices t t.groupCycle ++ s.permitNotices t t.groupCycle) ∧
      State.ChangesOnly [.inService, .quiet, .quietEndDue, .checks, .verdicts, .alert, .ports] s t) ∧
  (∀ (g : Group) (s : State), s.inService[g] = true →
    ∃ t : State, exec (.inServiceFall g) s = .next t ∧ t.inService = s.inService.set g false ∧ s.CausesExamined t g ∧
      s.VerdictsSet t (fun _ => false) (fun _ v => v) ∧
      s.Raised t (s.checkNotices t t.groupCycle ++ s.permitNotices t t.groupCycle) ∧
      State.ChangesOnly [.inService, .checks, .verdicts, .alert, .ports] s t)

/-! ### Verdicts -/

/-- A change of the stop input adds STOP to every group's set or removes it, and each permit follows its own set (R114,
R120). The PERMIT notices are raised in increasing group number (R125). The checks, the terms, the recorded restores and
the alert output are not touched. -/
def Obligations.StopInputChanges : Prop :=
  ∀ (asserted : Bool) (s : State), s.PermitsSound → asserted ≠ s.stopInput →
    ∃ t : State, exec (.stopInputChange asserted) s = .next t ∧ t.stopInput = asserted ∧
      (∀ g : Group, t.verdicts[g] = { s.verdicts[g] with
        reasons := { s.verdicts[g].reasons with stop := asserted }
        given := ({ s.verdicts[g].reasons with stop := asserted } : Reasons).isEmpty }) ∧
      s.Raised t (s.permitNotices t t.groupCycle) ∧
      State.ChangesOnly [.stopInput, .verdicts, .ports] s t

/-- RESTORE PERMIT (R118): refused while TRIP is present; no effect without RESTORE; recorded when it is the first; no
effect when the sender's is recorded; and as the second of a pair it removes RESTORE. -/
def Obligations.RestorePermitPairs : Prop :=
  ∀ (l : Link) (tag group : Byte) (g : Group) (s : State),
    s.Ready l → l ≠ .m → indexFrom1 4 group = some g →
    let f := (Command.restorePermit group).frame tag
    (s.verdicts[g].reasons.trip = true →
      exec (.restorePermit l tag group) s = .next (s.reply l f .stillTripped [])) ∧
    (s.verdicts[g].reasons.trip = false → s.verdicts[g].reasons.restore = false →
      exec (.restorePermit l tag group) s = .next (s.reply l f .ok [])) ∧
    (s.verdicts[g].reasons.trip = false → s.verdicts[g].reasons.restore = true → s.verdicts[g].restore = none →
      exec (.restorePermit l tag group) s = .next (({ s with
        verdicts := s.verdicts.set g { s.verdicts[g] with restore := some (l, s.clock) } } : State).reply l f .ok [])) ∧
    (∀ w, s.verdicts[g].reasons.trip = false → s.verdicts[g].reasons.restore = true →
      s.verdicts[g].restore = some (l, w) →
      exec (.restorePermit l tag group) s = .next (s.reply l f .ok [])) ∧
    (∀ l' w, l' ≠ l → s.verdicts[g].reasons.trip = false → s.verdicts[g].reasons.restore = true →
      s.verdicts[g].restore = some (l', w) →
      ∃ t : State, exec (.restorePermit l tag group) s = .next (t.reply l f .ok []) ∧
        t.verdicts = s.verdicts.set g { s.verdicts[g] with
          reasons := { s.verdicts[g].reasons with restore := false }
          restore := none
          given := ({ s.verdicts[g].reasons with restore := false } : Reasons).isEmpty } ∧
        s.Raised t (s.permitNotices t t.groupCycle) ∧
        State.ChangesOnly [.verdicts, .ports] s t)

/-- The pairing windows expire: a recorded restore is withdrawn and nothing else changes (R119), the sealed plan is
abandoned with a PLAN notice that names no link (R142), and a test offer ends (R152). -/
def Obligations.PairingWindowsExpire : Prop :=
  (∀ (g : Group) (s : State) (l : Link) (w : Word), s.verdicts[g].restore = some (l, w) → s.clock = w + 5000 →
    exec (.restoreWindowExpiry g) s =
      .next { s with verdicts := s.verdicts.set g { s.verdicts[g] with restore := none } }) ∧
  (∀ (s : State) (p : Plan) (n : Half) (l : Link) (w : Word),
    s.planStore.staging = .sealed p n (some (l, w)) → s.clock = w + 5000 →
    exec .acceptWindowExpiry s = .next ((s.setStaging .empty).raise (.plan none .sealed .empty n))) ∧
  (∀ (g : Group) (s : State) (l : Link) (n : Nat) (w : Word), s.tests[g] = .offered l n w → s.clock = w + 5000 →
    exec (.offerWindowExpiry g) s =
      .next ((s.setTest g .idle).raise (.test g .offered .idle (.cause .windowExpired))))

/-- The terms of a group (R110), its trip condition (R111) and its WARN (R112), and what a recomputation makes of its
verdict (R113): TRIP is present exactly while the trip condition is true (R116); where TRIP is added a recorded restore is
withdrawn (R119), and RESTORE is added in MANUAL and not in AUTO, which in a RUNNING test is marked as set during it (R117).
A RESTORE that is present already is not added and not marked (the model's reading, log entry 21). The other reasons and the
permit are not the recomputation's. -/
def Obligations.TermsTripAndWarn : Prop :=
  ∀ (s : State) (g : Group),
    (∀ v : Verdict,
      let w := s.recompute g v
      let added := s.tripCondition g = true ∧ v.reasons.trip = false
      w.term1 = s.termState g .t1 ∧ w.term2 = s.termState g .t2 ∧ w.trip = s.tripCondition g ∧ w.warn = s.warns g ∧
      (added → s.plan.groups[g].repermit = .manual →
        w.reasons = { v.reasons with trip := true, restore := true } ∧
        w.restoreDuringTest =
          (v.restoreDuringTest || (s.tests[g].isRunning && decide (v.reasons.restore = false)))) ∧
      (added → s.plan.groups[g].repermit = .auto →
        w.reasons = { v.reasons with trip := true } ∧ w.restoreDuringTest = v.restoreDuringTest) ∧
      (added → w.restore = none) ∧
      (¬added → w.reasons = { v.reasons with trip := s.tripCondition g } ∧ w.restore = v.restore ∧
        w.restoreDuringTest = v.restoreDuringTest) ∧
      w.given = v.given) ∧
    (∀ τ : Term,
      let member := fun i : CheckIx => s.plan.checks[i].enabled = true ∧ s.plan.checks[i].cls = .trip ∧
        s.plan.channels[s.plan.checks[i].channel].group = g ∧ s.plan.checks[i].term = τ
      let asserts := fun i : CheckIx =>
        s.checks[i].state = .active ∨ s.checks[i].state = .falling ∨ s.checks[i].state = .latched
      (s.termState g τ = .empty ↔ ¬∃ i, member i) ∧
      (s.termState g τ = .asserting ↔ ∃ i, member i ∧ asserts i) ∧
      (s.termState g τ = .notAsserting ↔ (∃ i, member i) ∧ ¬∃ i, member i ∧ asserts i)) ∧
    (s.plan.groups[g].combine = .or →
      (s.tripCondition g = true ↔ s.termState g .t1 = .asserting ∨ s.termState g .t2 = .asserting)) ∧
    (s.plan.groups[g].combine = .and →
      (s.tripCondition g = true ↔ s.termState g .t1 = .asserting ∧ s.termState g .t2 = .asserting)) ∧
    (s.warns g = true ↔ ∃ i : CheckIx, s.plan.checks[i].enabled = true ∧ s.plan.checks[i].cls = .warn ∧
      s.plan.channels[s.plan.checks[i].channel].group = g ∧
      (s.checks[i].state = .active ∨ s.checks[i].state = .falling ∨ s.checks[i].state = .latched))

/-! ### The plan store -/

/-- OPEN STAGING: the tests of R132 in their order, and the copy of the active plan that it opens. -/
def Obligations.OpenStagingTests : Prop :=
  ∀ (l : Link) (tag : Byte) (s : State), s.Ready l →
    let f := Command.openStaging.frame tag
    let guarded := s.plan.guardLevel = 3 ∨ 1 ≤ s.plan.guardLevel ∧ l = .m
    (guarded → exec (.openStaging l tag) s = .next (s.reply l f .guarded [])) ∧
    (¬guarded →
      (∀ p l', s.planStore.staging = .opened p l' → l' ≠ l →
        exec (.openStaging l tag) s = .next (s.reply l f .locked [])) ∧
      (∀ p, s.planStore.staging = .opened p l →
        exec (.openStaging l tag) s = .next (s.reply l f .wrongState [])) ∧
      (∀ p n a, s.planStore.staging = .sealed p n a →
        exec (.openStaging l tag) s = .next (s.reply l f .wrongState [])) ∧
      (s.planStore.staging = .empty →
        exec (.openStaging l tag) s =
          .next (((s.setStaging (.opened s.plan l)).raise
            (.plan (some l) .empty .opened s.planStore.generation)).reply l f .ok [])))

/-- WRITE ENTRY (R133): refused to a link that does not hold the lock; MALFORMED, with nothing written, for a number outside
its kind's range or a field that names nothing; and from the holder the item is replaced whole. A READ ENTRY of the staged
item then gives the bytes written with each field clamped (R134, R148) and the bits without a meaning 0, the reply counts
the fields the clamps changed, and every other item of the staged plan reads as before. The bits without a meaning in a
CHANNEL and a GROUP item are ignored (the model's choice, log entry 31), and the eighth slot of weight block 8 counts no
clamp (log entry 14). -/
def Obligations.WriteEntryActs : Prop :=
  ∀ (l : Link) (tag kind number : Byte) (item : List Byte) (s : State),
    s.Ready l → itemSize kind = some item.length →
    let f := (Command.writeEntry kind number item).frame tag
    ((∀ p, s.planStore.staging ≠ .opened p l) →
      exec (.writeEntry l tag kind number item) s = .next (s.reply l f .notOwner [])) ∧
    (∀ p, s.planStore.staging = .opened p l → ¬itemNames kind number item →
      exec (.writeEntry l tag kind number item) s = .next (s.reply l f .malformed [])) ∧
    (∀ p, s.planStore.staging = .opened p l → itemNames kind number item →
      ∃ (q : Plan) (x : PlanItem), exec (.writeEntry l tag kind number item) s =
          .next ((s.setStaging (.opened q l)).reply l f .ok [byteOf (itemClamps kind number item)]) ∧
        q.item kind number = some x ∧ x.bytes = itemStored kind number item ∧
        (∀ kind' number' : Byte, kind' ≠ kind ∨ number' ≠ number →
          q.item kind' number' = p.item kind' number'))

/-- SEAL (R135): refused to a link that does not hold the lock; PLAN ERRORS with the total and the first eight records when
validation finds errors; and otherwise the plan is sealed under the generation after the active one. -/
def Obligations.SealActs : Prop :=
  ∀ (l : Link) (tag : Byte) (s : State), s.Ready l →
    let f := Command.seal.frame tag
    ((∀ p, s.planStore.staging ≠ .opened p l) →
      exec (.seal l tag) s = .next (s.reply l f .notOwner [])) ∧
    (∀ p, s.planStore.staging = .opened p l → p.errors s.plan ≠ [] →
      exec (.seal l tag) s = .next (s.reply l f .planErrors
        (le16 (halfOf (p.errors s.plan).length) ++ [byteOf (min 8 (p.errors s.plan).length)] ++
          ((p.errors s.plan).take 8).flatMap SealError.bytes))) ∧
    (∀ p, s.planStore.staging = .opened p l → p.errors s.plan = [] →
      let n : Half := if s.planStore.generation = 65535 then 1 else s.planStore.generation + 1
      exec (.seal l tag) s =
        .next (((s.setStaging (.sealed p n none)).raise (.plan (some l) .opened .sealed n)).reply l f .ok (le16 n)))

/-- What a validation finds: each kind of error on each kind of item, once each, and nothing else (R136, R138, R139),
ordered by item and within an item by kind (R137). -/
def Obligations.ValidationFinds : Prop :=
  ∀ (staged active : Plan),
    (⟨.guardLowered, .global, 0⟩ ∈ staged.errors active ↔ staged.guardLevel < active.guardLevel) ∧
    (∀ i : CheckIx,
      (⟨.bandInverted, .check, i.val⟩ ∈ staged.errors active ↔
        staged.checks[i].enabled = true ∧
        (staged.checks[i].quantity = .mean ∧ staged.checks[i].high.toInt < staged.checks[i].low.toInt ∨
          staged.checks[i].quantity ≠ .mean ∧ staged.checks[i].high.toNat < staged.checks[i].low.toNat)) ∧
      (⟨.channelDisabled, .check, i.val⟩ ∈ staged.errors active ↔
        staged.checks[i].enabled = true ∧
        (staged.channels[staged.checks[i].channel].enabled = false ∨
          staged.checks[i].quantity = .spread ∧ staged.channels[staged.checks[i].second].enabled = false)) ∧
      (⟨.spreadSameChannel, .check, i.val⟩ ∈ staged.errors active ↔
        staged.checks[i].enabled = true ∧ staged.checks[i].quantity = .spread ∧
        staged.checks[i].second = staged.checks[i].channel) ∧
      (⟨.spreadCrossReference, .check, i.val⟩ ∈ staged.errors active ↔
        staged.checks[i].enabled = true ∧ staged.checks[i].quantity = .spread ∧
        staged.checks[i].second ≠ staged.checks[i].channel ∧
        staged.refOf staged.checks[i].channel ≠ staged.refOf staged.checks[i].second) ∧
      (⟨.guardFrozen, .check, i.val⟩ ∈ staged.errors active ↔
        2 ≤ active.guardLevel ∧
        staged.checks[i] ≠ { active.checks[i] with enabled := staged.checks[i].enabled })) ∧
    (∀ c : Channel, ⟨.guardFrozen, .channel, c.val + 1⟩ ∈ staged.errors active ↔
      1 ≤ active.guardLevel ∧ staged.channels[c] ≠ active.channels[c]) ∧
    (∀ g : Group,
      (⟨.emptyTerm, .group, g.val + 1⟩ ∈ staged.errors active ↔
        staged.groups[g].combine = .and ∧ staged.termUsed g .t1 ≠ staged.termUsed g .t2) ∧
      (⟨.guardFrozen, .group, g.val + 1⟩ ∈ staged.errors active ↔
        2 ≤ active.guardLevel ∧ staged.groups[g] ≠ active.groups[g])) ∧
    (∀ r : Ref, ⟨.guardFrozen, .reference, r.number.toNat⟩ ∈ staged.errors active ↔
      1 ≤ active.guardLevel ∧ staged.refs.get r ≠ active.refs.get r) ∧
    (∀ b : Fin 8, ⟨.guardFrozen, .weights, b.val + 1⟩ ∈ staged.errors active ↔
      1 ≤ active.guardLevel ∧ ∃ o : OrderIx, o.val / 8 = b.val ∧ staged.weights[o] ≠ active.weights[o]) ∧
    (∀ x ∈ staged.errors active, match x.item with
      | .check => x.number ≤ 63 ∧ x.kind ∈
          [ErrorKind.bandInverted, .channelDisabled, .spreadSameChannel, .spreadCrossReference, .guardFrozen]
      | .channel => 1 ≤ x.number ∧ x.number ≤ 16 ∧ x.kind = .guardFrozen
      | .group => 1 ≤ x.number ∧ x.number ≤ 4 ∧ x.kind ∈ [ErrorKind.emptyTerm, .guardFrozen]
      | .reference => 1 ≤ x.number ∧ x.number ≤ 2 ∧ x.kind = .guardFrozen
      | .weights => 1 ≤ x.number ∧ x.number ≤ 8 ∧ x.kind = .guardFrozen
      | .global => x.number = 0 ∧ x.kind = .guardLowered) ∧
    (let place := fun x : SealError => match x.item with
        | .check => 0
        | .channel => 1
        | .group => 2
        | .reference => 3
        | .weights => 4
        | .global => 5
     (staged.errors active).Pairwise (fun a b => place a < place b ∨ place a = place b ∧
      (a.number < b.number ∨ a.number = b.number ∧ a.kind.byte.toNat < b.kind.byte.toNat)))

/-- DISCARD STAGING: the rows of R140. -/
def Obligations.DiscardStagingActs : Prop :=
  ∀ (l : Link) (tag : Byte) (s : State), s.Ready l →
    let f := Command.discardStaging.frame tag
    (s.planStore.staging = .empty → exec (.discardStaging l tag) s = .next (s.reply l f .wrongState [])) ∧
    (∀ p, s.planStore.staging = .opened p l →
      exec (.discardStaging l tag) s =
        .next (((s.setStaging .empty).raise
          (.plan (some l) .opened .empty s.planStore.generation)).reply l f .ok [])) ∧
    (∀ p l', l' ≠ l → s.planStore.staging = .opened p l' →
      exec (.discardStaging l tag) s = .next (s.reply l f .notOwner [])) ∧
    (∀ p n a, l ≠ .m → s.planStore.staging = .sealed p n a →
      exec (.discardStaging l tag) s =
        .next (((s.setStaging .empty).raise (.plan (some l) .sealed .empty n)).reply l f .ok [])) ∧
    (∀ p n a, l = .m → s.planStore.staging = .sealed p n a →
      exec (.discardStaging l tag) s = .next (s.reply l f .notPermitted []))

/-- ACCEPT PLAN short of a pair (R141): with nothing sealed, with another generation, as the first accept, and again from
the same link. -/
def Obligations.AcceptPlanFirst : Prop :=
  ∀ (l : Link) (tag : Byte) (generation : Half) (s : State), s.Ready l → l ≠ .m →
    let f := (Command.acceptPlan generation).frame tag
    ((∀ p n a, s.planStore.staging ≠ .sealed p n a) →
      exec (.acceptPlan l tag generation) s = .next (s.reply l f .wrongState [])) ∧
    (∀ p n a, s.planStore.staging = .sealed p n a → generation ≠ n →
      exec (.acceptPlan l tag generation) s = .next (s.reply l f .stale [])) ∧
    (∀ p, s.planStore.staging = .sealed p generation none →
      exec (.acceptPlan l tag generation) s =
        .next ((s.setStaging (.sealed p generation (some (l, s.clock)))).reply l f .ok [])) ∧
    (∀ p w, s.planStore.staging = .sealed p generation (some (l, w)) →
      exec (.acceptPlan l tag generation) s = .next (s.reply l f .ok []))

/-- The accept that completes the pair activates the plan (R141, R144): the plan store, what becomes of each channel, its
buffers, its place in the queue and its converter (R17, R32 to R34, R76), the audit frames taken from the queue (R64) while
the engines go on with what they have in hand (R33, R51, R55), the
sources (R156), the tests that end (R157), and the verdicts, every group recomputed, with the end of its test where the
activation ends it, UNPLANNED of the groups the new plan does not protect, and BLIND (R113 to R115, R117, R121, R122); and
the notices: PLAN, CHECK, TEST, PERMIT (R144), for a plan whose enabled checks are on enabled channels, as a seal requires
(R136). The order of the parts of an activation is the model's choice (log entry 26), and so is the order of the TEST
notices among groups (log entry 15). Commands of the other links behind a drain that the activation ends run after it (the
model's choice, log entry 35). -/
def Obligations.SecondAcceptActivates : Prop :=
  ∀ (l l' : Link) (w : Word) (tag : Byte) (p : Plan) (n : Half) (s : State),
    s.Ready l → l ≠ .m → l' ≠ l → s.planStore.staging = .sealed p n (some (l', w)) →
    ∃ t : State, exec (.acceptPlan l tag n) s = .next (t.reply l ((Command.acceptPlan n).frame tag) .ok []).runAll ∧
      t.planStore = { active := p, generation := n, staging := .empty } ∧
      (∀ c : Channel, s.ChannelActivated t c (s.plan.channelCase p c)) ∧
      (s.KeptSound →
        (∀ c : Channel, s.plan.channelCase p c = .unchanged ∨ s.plan.channelCase p c = .enabled →
          (t.buffers[c]).held = (s.buffers[c]).held ∧ t.audit.kept[c] = s.audit.kept[c] ∧
          (c ∈ t.queue ↔ c ∈ s.queue)) ∧
        (∀ c : Channel, s.plan.channelCase p c = .disabled ∨ s.plan.channelCase p c = .changed →
          ∀ f, (s.buffers[c]).held = some f → c ∉ t.queue ∧
            (c ∈ s.queue → (f.engines.e1 || f.engines.e2) = true →
              t.audit.kept[c] = none ∧ (s.audit.kept[c] = none → ∀ e h, (s.engines.get e).hand = some h →
                h.frame.channel = c → (t.engines.get e).hand = some { h with role := .removed }))) ∧
        (∀ e, t.engines.get e = { s.engines.get e with hand := (s.engines.get e).hand.map (fun h =>
          let c := h.frame.channel
          if (s.plan.channelCase p c = .disabled ∨ s.plan.channelCase p c = .changed) ∧ c ∈ s.queue ∧
              (s.buffers[c]).held.any (fun f => f.engines.e1 || f.engines.e2) = true ∧ s.audit.kept[c] = none then
            { h with role := .removed } else h) })) ∧
      (s.KeptSound → s.QueueSound → t.queue = s.queue.filter (fun c =>
        decide (s.plan.channelCase p c = .unchanged ∨ s.plan.channelCase p c = .enabled))) ∧
      (∀ c : Channel, t.sources[c] =
        if t.tests[p.channels[c].group].isRunning = true then s.sources[c] else .live) ∧
      s.VerdictsSet t (fun _ => true) (fun g v =>
        let ended := s.tests[g].isRunning = true ∧ ¬∃ c : Channel, p.channels[c].enabled = true ∧ p.channels[c].group = g
        let w := if ended then v.afterTest else v
        { w with reasons := { w.reasons with
          unplanned := if p.protects g = true then w.reasons.unplanned else true
          blind := decide ((s.trackers.get p.groups[g].ref).mode = .seeking ∧ p.groups[g].blind = .withdraw) } }) ∧
      (∀ g : Group, p.protects g = false → t.verdicts[g].reasons.unplanned = true) ∧
      (∀ g : Group, p.protects g = true →
        t.verdicts[g].reasons.unplanned = s.verdicts[g].reasons.unplanned) ∧
      (∀ g : Group, t.tests[g] =
        if s.tests[g].isRunning = true ∧ ¬∃ c : Channel, p.channels[c].enabled = true ∧ p.channels[c].group = g then
          .idle else s.tests[g]) ∧
      ((∀ i : CheckIx, p.checks[i].enabled = true → p.channels[p.checks[i].channel].enabled = true) →
        s.Raised t ([.plan (some l) .sealed .activated n] ++ s.checkNotices t t.groupCycle
          ++ (List.finRange 4).filterMap (fun g =>
            if s.tests[g].isRunning = true ∧ t.tests[g] = .idle then some (.test g .running .idle (.cause .plan))
            else none)
          ++ s.permitNotices t t.groupCycle)) ∧
      State.ChangesOnly [.planStore, .converters, .buffers, .queue, .engines, .audit, .records, .checks, .verdicts, .alert,
        .tests, .sources, .ports] s t

/-- The checks at an activation (R145, R146). A check restarts when its entry, a setting of its channel or of the second
channel of a SPREAD check, a setting of its group or, for a WEIGHTED check, a weight differs: it enters CLEAR, SUSPENDED or
OFF with tally 0 and no last value. A check that meets none of these keeps everything, unless it is enabled and the
activation ends its group's test: then it is reset as at any test end (R158). The order of the parts of an activation is
the model's choice (log entry 26), and commands behind a drain that it ends run after it (log entry 35). -/
def Obligations.ActivationRestartsChecks : Prop :=
  ∀ (l l' : Link) (w : Word) (tag : Byte) (p : Plan) (n : Half) (s : State),
    s.Ready l → l ≠ .m → l' ≠ l → s.planStore.staging = .sealed p n (some (l', w)) →
    s.ChecksSound →
    ∃ t : State, exec (.acceptPlan l tag n) s = .next (t.reply l ((Command.acceptPlan n).frame tag) .ok []).runAll ∧
      ∀ i : CheckIx,
        let e := p.checks[i]
        let g := p.channels[e.channel].group
        let restarts := s.plan.checks[i] ≠ e ∨ s.plan.channels[e.channel] ≠ p.channels[e.channel] ∨
          e.quantity = .spread ∧ s.plan.channels[e.second] ≠ p.channels[e.second] ∨
          s.plan.groups[g] ≠ p.groups[g] ∨ e.quantity = .weighted ∧ s.plan.weights ≠ p.weights
        let ended := s.tests[g].isRunning = true ∧
          ¬∃ c : Channel, p.channels[c].enabled = true ∧ p.channels[c].group = g
        let fresh : CheckState := if t.suspends i = true then .suspended else .clear
        (restarts → e.enabled = true → t.checks[i] = { state := fresh, run := 0, tally := 0, last := none }) ∧
        (restarts → e.enabled = false → t.checks[i] = { state := .off, run := 0, tally := 0, last := none }) ∧
        (¬restarts → ended → e.enabled = true →
          t.checks[i] = { state := fresh, run := 0, tally := 0, last := s.checks[i].last }) ∧
        (¬restarts → ¬ended ∨ e.enabled = false → t.checks[i] = s.checks[i])

/-! ### The test unit -/

/-- TEST GRANT (R150, R151, R153): an offer, a refusal, and the start of the test with the other link's matching offer. At
the start TEST is added, no RESTORE has yet been set during the test, and the verdicts follow the checks, all else of them
staying (R113, R114, R117, R122). The TEST notice comes before the PERMIT notice (R153), and the CHECK notices stand between
them (the model's order, log entry 15). -/
def Obligations.TestGrantActs : Prop :=
  ∀ (l : Link) (tag group : Byte) (seconds : Half) (g : Group) (s : State),
    s.Ready l → l ≠ .m → indexFrom1 4 group = some g →
    let f := (Command.testGrant group seconds).frame tag
    let n := max 1 (min seconds.toNat 900)
    (s.tests[g] = .idle → s.inService[g] = true →
      exec (.testGrant l tag group seconds) s = .next (s.reply l f .notOutOfService [])) ∧
    (s.tests[g] = .idle → s.inService[g] = false →
      exec (.testGrant l tag group seconds) s =
        .next (((s.setTest g (.offered l n s.clock)).raise (.test g .idle .offered (.duration n))).reply l f .ok [])) ∧
    (∀ m w, s.tests[g] = .offered l m w →
      exec (.testGrant l tag group seconds) s = .next (s.reply l f .ok [])) ∧
    (∀ l' m w, l' ≠ l → s.tests[g] = .offered l' m w → m ≠ n →
      exec (.testGrant l tag group seconds) s = .next (s.reply l f .wrongState [])) ∧
    (∀ l' w, l' ≠ l → s.tests[g] = .offered l' n w → s.inService[g] = true →
      exec (.testGrant l tag group seconds) s =
        .next (((s.setTest g .idle).raise
          (.test g .offered .idle (.cause .notOutOfService))).reply l f .notOutOfService [])) ∧
    (∀ l' w, s.PermitsSound → l' ≠ l → s.tests[g] = .offered l' n w → s.inService[g] = false →
      ∃ t : State, exec (.testGrant l tag group seconds) s = .next (t.reply l f .ok []) ∧
        t.tests = s.tests.set g (.running (s.clock + BitVec.ofNat 32 (n * 1000))) ∧
        t.verdicts[g].reasons.test = true ∧ t.verdicts[g].given = false ∧ s.CausesExamined t g ∧
        t.verdicts[g].restoreDuringTest = false ∧
        s.VerdictsSet t (fun _ => false) (fun g' v => if g' = g then
          { v with reasons := { v.reasons with test := true }, restoreDuringTest := false } else v) ∧
        s.Raised t ([.test g .offered .running (.duration n)] ++ s.checkNotices t t.groupCycle
          ++ s.permitNotices t t.groupCycle) ∧
        State.ChangesOnly [.tests, .checks, .verdicts, .alert, .ports] s t) ∧
    (∀ w, s.tests[g] = .running w →
      exec (.testGrant l tag group seconds) s = .next (s.reply l f .wrongState []))

/-- A RUNNING test ends by TEST END, at its run time end and at a rising in-service input (R157, R158), with the TEST
notice, then the CHECK notices, then the PERMIT notice (R158). The group is recomputed from its reset checks, TEST is
removed, the recorded restore withdrawn, and a RESTORE set during the test removed (R117, R122). TEST END ends a waiting
offer, and is refused on a group with neither (R152, R157). -/
def Obligations.TestsEnd : Prop :=
  (∀ (l : Link) (tag group : Byte) (g : Group) (w : Word) (s : State),
    s.Ready l → indexFrom1 4 group = some g → s.tests[g] = .running w →
    ∃ t : State, exec (.testEnd l tag group) s = .next (t.reply l ((Command.testEnd group).frame tag) .ok []) ∧
      s.TestEnded t g ∧
      s.Raised t ([.test g .running .idle (.cause .testEnd)] ++ s.checkNotices t t.groupCycle
        ++ s.permitNotices t t.groupCycle) ∧
      State.ChangesOnly [.tests, .sources, .buffers, .checks, .verdicts, .alert, .ports] s t) ∧
  (∀ (g : Group) (s : State), s.tests[g] = .running s.clock →
    ∃ t : State, exec (.testRunExpiry g) s = .next t ∧ s.TestEnded t g ∧
      s.Raised t ([.test g .running .idle (.cause .expired)] ++ s.checkNotices t t.groupCycle
        ++ s.permitNotices t t.groupCycle) ∧
      State.ChangesOnly [.tests, .sources, .buffers, .checks, .verdicts, .alert, .ports] s t) ∧
  (∀ (g : Group) (s : State), s.inService[g] = false → s.tests[g].isRunning = true →
    ∃ t : State, exec (.inServiceRise g) s = .next t ∧ s.TestEnded t g ∧ t.inService = s.inService.set g true ∧
      s.Raised t ([.test g .running .idle (.cause .breakerClosed)] ++ s.checkNotices t t.groupCycle
        ++ s.permitNotices t t.groupCycle) ∧
      t.quiet = s.quiet.set g (quietLoad s.plan.groups[g].quietCode) ∧
      State.ChangesOnly [.inService, .quiet, .quietEndDue, .tests, .sources, .buffers, .checks, .verdicts, .alert, .ports]
        s t) ∧
  (∀ (l : Link) (tag group : Byte) (g : Group) (s : State), s.Ready l → indexFrom1 4 group = some g →
    (∀ l' n w, s.tests[g] = .offered l' n w →
      exec (.testEnd l tag group) s = .next (((s.setTest g .idle).raise
        (.test g .offered .idle (.cause .testEnd))).reply l ((Command.testEnd group).frame tag) .ok [])) ∧
    (s.tests[g] = .idle →
      exec (.testEnd l tag group) s = .next (s.reply l ((Command.testEnd group).frame tag) .wrongState [])))

/-- LOAD PATTERN (R154) and TEST SOURCE (R155), on Link M. A pattern is in use while a channel's source names it, and
while a filling buffer holds a frame, filling or closing, that started with it (R154), or a start that waits behind a
closing frame and started with it (the model's choice, log entry 16). Fields are tested before the state (the model's
choice, log entry 13). -/
def Obligations.PatternsAndSources : Prop :=
  (∀ (s : State) (p : Store), s.patternInUse p = true ↔ ∃ c : Channel, s.sources[c] = .pattern p ∨
    ∃ f : Frame, f.source = .pattern p ∧
      ((s.buffers[c]).fill = .filling f ∨ (∃ next, (s.buffers[c]).fill = .closing f next) ∨
        ∃ old kept, (s.buffers[c]).fill = .closing old (some ⟨f, kept⟩))) ∧
  (∀ (tag store slot : Byte) (samples : List Half) (p : Store) (s : State),
    s.Ready .m → indexFrom1 4 store = some p → slot.toNat ≤ 127 → samples.length ≤ 28 →
    slot.toNat + samples.length ≤ 128 →
    let f := (Command.loadPattern store slot samples).frame tag
    (s.patternInUse p = true →
      exec (.loadPattern .m tag store slot samples) s = .next (s.reply .m f .inUse [])) ∧
    (s.patternInUse p = false →
      ∃ t : State, exec (.loadPattern .m tag store slot samples) s = .next (t.reply .m f .ok []) ∧
        (∀ k : Slot, (slot.toNat ≤ k.val → ∀ h : k.val - slot.toNat < samples.length,
            t.patterns[p][k] = samples[k.val - slot.toNat]) ∧
          (k.val < slot.toNat ∨ slot.toNat + samples.length ≤ k.val → t.patterns[p][k] = s.patterns[p][k])) ∧
        (∀ q : Store, q ≠ p → t.patterns[q] = s.patterns[q]) ∧
        State.ChangesOnly [.patterns] s t)) ∧
  (∀ (tag channel source : Byte) (c : Channel) (x : Source) (s : State),
    s.Ready .m → indexFrom1 16 channel = some c → sourceOf source = some x →
    let f := (Command.testSource channel source).frame tag
    (s.tests[s.plan.groupOf c].isRunning = true →
      exec (.testSource .m tag channel source) s = .next ((s.setSource c x).reply .m f .ok [])) ∧
    (s.tests[s.plan.groupOf c].isRunning = false →
      exec (.testSource .m tag channel source) s = .next (s.reply .m f .wrongState [])))

/-! ### Links -/

/-- The reading commands post what they read and change nothing else (R77, R107, R126, R148, R175), and each record holds
its fields at the offsets of 11.4; an error record of a seal is three bytes (R137, 11.4). Bits to which a layout gives no
field are sent as 0 (the model's choice, log entry 36). READ ENTRY tests its fields before
the staging state (the model's choice, log entry 13), and the window of a restore that expires at this instant reads as 1
(log entry 32). -/
def Obligations.ReadCommandsReply : Prop :=
  (∀ s : State, s.StatusLaid s.statusRecord ∧ (∀ g : Group, s.GroupLaid g (s.groupRecord g)) ∧
    ∀ i : CheckIx, s.CheckLaid i (s.checkRecord i)) ∧
  (∀ (r : ResultRecord) (c : Channel) (orders : List Byte), r.BodyLaid c orders (r.body c orders)) ∧
  (∀ x : SealError, x.bytes =
    [match x.kind with
      | .bandInverted => 1
      | .channelDisabled => 2
      | .spreadSameChannel => 3
      | .spreadCrossReference => 4
      | .emptyTerm => 5
      | .guardFrozen => 6
      | .guardLowered => 7,
    match x.item with
      | .check => 1
      | .channel => 2
      | .group => 3
      | .reference => 4
      | .global => 5
      | .weights => 6,
    BitVec.ofNat 8 x.number]) ∧
  (∀ (l : Link) (tag : Byte) (s : State), s.Ready l →
    exec (.readStatus l tag) s = .next (s.reply l (Command.readStatus.frame tag) .ok s.statusRecord) ∧
    (∀ (channel : Byte) (orders : List Byte) (c : Channel), orders.length ≤ 254 → indexFrom1 16 channel = some c →
      (s.records[c] = none → exec (.readResult l tag channel orders) s =
        .next (s.reply l ((Command.readResult channel orders).frame tag) .noResult [])) ∧
      (∀ rec, s.records[c] = some rec → exec (.readResult l tag channel orders) s =
        .next (s.reply l ((Command.readResult channel orders).frame tag) .ok (rec.body c orders)))) ∧
    (∀ (first count : Byte) (i : CheckIx), indexFrom0 64 first = some i →
      exec (.readChecks l tag first count) s = .next (s.reply l ((Command.readChecks first count).frame tag) .ok
        ([byteOf (min (min count.toNat 16) (64 - i.val))] ++
          (((List.finRange 64).drop i.val).take (min count.toNat 16)).flatMap s.checkRecord))) ∧
    (∀ (group : Byte) (g : Group), indexFrom1 4 group = some g →
      exec (.readGroup l tag group) s =
        .next (s.reply l ((Command.readGroup group).frame tag) .ok (s.groupRecord g))) ∧
    (∀ (kind number : Byte) (x : PlanItem), s.plan.item kind number = some x →
      exec (.readEntry l tag 0 kind number) s =
        .next (s.reply l ((Command.readEntry 0 kind number).frame tag) .ok
          ([1] ++ le16 s.planStore.generation ++ [kind, number] ++ x.bytes))) ∧
    (∀ (kind number : Byte) (x : PlanItem) (p : Plan) (l' : Link), s.planStore.staging = .opened p l' →
      p.item kind number = some x →
      exec (.readEntry l tag 1 kind number) s =
        .next (s.reply l ((Command.readEntry 1 kind number).frame tag) .ok ([0, 0, 0, kind, number] ++ x.bytes))) ∧
    (∀ (kind number : Byte) (x : PlanItem) (p : Plan) (n : Half) (a : Option (Link × Word)),
      s.planStore.staging = .sealed p n a → p.item kind number = some x →
      exec (.readEntry l tag 1 kind number) s =
        .next (s.reply l ((Command.readEntry 1 kind number).frame tag) .ok
          ([1] ++ le16 n ++ [kind, number] ++ x.bytes))) ∧
    (∀ (kind number : Byte) (x : PlanItem), s.planStore.staging = .empty → s.plan.item kind number = some x →
      exec (.readEntry l tag 1 kind number) s =
        .next (s.reply l ((Command.readEntry 1 kind number).frame tag) .wrongState [])))

/-- READ STATS (R176): the counters of a channel or of a reference, cleared at the read when the clear option is yes, and
nothing else; a selector that names neither is MALFORMED. -/
def Obligations.ReadStatsReply : Prop :=
  ∀ (l : Link) (tag number clear : Byte) (s : State), s.Ready l →
    (∀ c : Channel, indexFrom1 16 number = some c →
      exec (.readStats l tag 0 number clear) s =
        .next ((if bitOf clear 0 = true then s.setBuffers c { s.buffers[c] with
            counters := { closed := 0, superseded := 0, lost := 0, short := 0, clipped := 0 } } else s).reply l
          ((Command.readStats 0 number clear).frame tag) .ok ([0, number] ++
            le16 (halfOf (s.buffers[c]).counters.closed) ++ le16 (halfOf (s.buffers[c]).counters.superseded) ++
            le16 (halfOf (s.buffers[c]).counters.lost) ++ le16 (halfOf (s.buffers[c]).counters.short) ++
            le16 (halfOf (s.buffers[c]).counters.clipped)))) ∧
    (∀ r : Ref, refOfByte number = some r →
      exec (.readStats l tag 1 number clear) s =
        .next ((if bitOf clear 0 = true then s.setTracker r { s.trackers.get r with
            counters := { spurious := 0, locks := 0, holds := 0, losses := 0 } } else s).reply l
          ((Command.readStats 1 number clear).frame tag) .ok ([1, number] ++
            le16 (halfOf (s.trackers.get r).counters.spurious) ++ le16 (halfOf (s.trackers.get r).counters.locks) ++
            le16 (halfOf (s.trackers.get r).counters.holds) ++ le16 (halfOf (s.trackers.get r).counters.losses)))) ∧
    (∀ kind : Byte,
      (kind = 0 → indexFrom1 16 number = none) → (kind = 1 → refOfByte number = none) →
      exec (.readStats l tag kind number clear) s =
        .next (s.reply l ((Command.readStats kind number clear).frame tag) .malformed []))

/-- The notice logs. A notice raised joins the log of each port whose mask enables its kind, while overflow is clear and
there is room, and a full log sets overflow (R170, R171). SET NOTICE MASK replaces the mask (R170), CLEAR OVERFLOW clears
the flag (R171), and READ NOTICES removes the oldest notices and returns them with the flag (R172), each as the 16-byte
record of R180, in which bits 2 to 7 of byte 1 are 0 (the model's choice, log entry 36). -/
def Obligations.NoticeLogs : Prop :=
  (∀ n : Notice, n.Laid n.bytes) ∧
  (∀ (s : State) (b : NoticeBody) (l : Link),
    let p := s.ports.get l
    let p' := (s.raise b).ports.get l
    (p.mask.keeps b = false ∨ p.overflow = true → p' = p) ∧
    (p.mask.keeps b = true → p.overflow = false → p.log.length < 32 →
      p' = { p with log := p.log ++ [{ stamp := s.clock, body := b }] }) ∧
    (p.mask.keeps b = true → p.overflow = false → 32 ≤ p.log.length → p' = { p with overflow := true })) ∧
  (∀ (l : Link) (tag : Byte) (s : State), s.Ready l →
    (∀ maximum : Byte,
      let n := min (min maximum.toNat 8) (s.ports.get l).log.length
      exec (.readNotices l tag maximum) s =
        .next ((s.setPort l { s.ports.get l with log := (s.ports.get l).log.drop n }).reply l
          ((Command.readNotices maximum).frame tag) .ok
          ([byteOf n, if (s.ports.get l).overflow = true then 1 else 0] ++
            ((s.ports.get l).log.take n).flatMap Notice.bytes))) ∧
    (∀ mask : Byte, exec (.setNoticeMask l tag mask) s =
      .next ((s.setPort l { s.ports.get l with
        mask := { check := bitOf mask 0, permit := bitOf mask 1, plan := bitOf mask 2, sync := bitOf mask 3,
                  engine := bitOf mask 4, test := bitOf mask 5 } }).reply l
        ((Command.setNoticeMask mask).frame tag) .ok [])) ∧
    exec (.clearOverflow l tag) s =
      .next ((s.setPort l { s.ports.get l with overflow := false }).reply l (Command.clearOverflow.frame tag) .ok []))

/-- DRAIN WAIT and DRAIN TIMEOUT (R169): with nothing unsettled the reply is posted at once; otherwise the drain waits for
the frames unsettled at that instant, which are those in held buffers and those in an engine's hand; it ends with OK at the
settling of the last of them, and with TIMEOUT after 1000 ms. A settling is seen by the drains of all three ports: that of a
result accepted or dropped and of a mismatch, but not the first result of a pair, which is kept (R31, R59); that of a frame
superseded, but not of one lost, which was never in a held buffer (R25); and that of a frame that an activation takes from
the queue, unless an engine still has it (R33, R64). When a drain ends, by either reply, the port executes the commands
queued behind it, as ResumeActs says; they run after the whole of the event that ends it (the model's choice, log
entry 35). -/
def Obligations.Drains : Prop :=
  (∀ s : State, s.unsettled.Nodup ∧ ∀ j : Nat, j ∈ s.unsettled ↔
    (∃ (c : Channel) (f : Frame), (s.buffers[c]).held = some f ∧ f.joinOrder = j) ∨
    ∃ (e : Engine) (h : Hand), (s.engines.get e).hand = some h ∧ h.frame.joinOrder = j) ∧
  (∀ (s : State) (c : Channel) (j : Nat), (∀ l, (s.settle c j).ports.get l = (s.ports.get l).settled j) ∧
    ((s.settle c j).buffers[c]).held = (match (s.buffers[c]).held with
      | some f => if f.joinOrder = j then none else some f
      | none => none)) ∧
  (∀ (e : Engine) (wrong : Option Figures) (s : State) (h : Hand), (s.engines.get e).hand = some h →
    ∃ t : State, exec (.transformComplete e wrong) s = .next t.runAll ∧ ∀ l,
      let p := if h.role = .pair ∧ s.audit.kept[h.frame.channel] = none then s.ports.get l
        else (s.ports.get l).settled h.frame.joinOrder
      (t.ports.get l).drain = p.drain ∧ (t.ports.get l).replies = p.replies ∧
      (t.ports.get l).queue = (s.ports.get l).queue) ∧
  (∀ (s : State) (f : Frame) (l : Link), (s.closeFrame f).ports.get l =
    match (s.buffers[f.channel]).held with
    | none => s.ports.get l
    | some old => if (old.engines.e1 || old.engines.e2) = true then s.ports.get l
        else (s.ports.get l).settled old.joinOrder) ∧
  (∀ (s : State) (c : Channel) (l : Link), (s.emptyChannel c).ports.get l =
    match (s.buffers[c]).held with
    | none => s.ports.get l
    | some f =>
      if c ∈ s.queue then
        if (f.engines.e1 || f.engines.e2) = true then
          match s.audit.kept[c] with
          | some k => (s.ports.get l).settled k.result.join
          | none => s.ports.get l
        else (s.ports.get l).settled f.joinOrder
      else s.ports.get l) ∧
  (∀ (l : Link) (tag : Byte) (s : State), s.Ready l →
    (s.unsettled = [] → exec (.drainWait l tag) s = .next (s.reply l (Command.drainWait.frame tag) .ok [0])) ∧
    (s.unsettled ≠ [] → exec (.drainWait l tag) s = .next (s.setPort l { s.ports.get l with
      drain := some { tag := tag, awaiting := s.unsettled, count := s.unsettled.length, started := s.clock } }))) ∧
  (∀ (l : Link) (d : Drain) (s : State), (s.ports.get l).drain = some d →
    s.clock = d.started + 1000 →
    exec (.drainTimeout l) s = .next (s.setPort l { s.ports.get l with
      drain := none
      replies := (s.ports.get l).replies ++
        [{ command := 0x06, tag := d.tag, code := .timeout, body := [byteOf d.awaiting.length] }] }).runAll) ∧
  (∀ (p : Port) (d : Drain) (j : Nat), p.drain = some d →
    (j ∉ d.awaiting → p.settled j = p) ∧
    (j ∈ d.awaiting → (∀ k ∈ d.awaiting, k = j) → p.settled j = { p with
      drain := none
      replies := p.replies ++ [{ command := 0x06, tag := d.tag, code := .ok, body := [byteOf d.count] }] }) ∧
    (j ∈ d.awaiting → (∃ k ∈ d.awaiting, k ≠ j) → p.settled j = { p with
      drain := some { d with awaiting := d.awaiting.filter (fun k => k != j) } }))

/-- Every command frame is dropped at outstanding count 16, and joins the queue of a halted or draining port below that
(R162). A frame has at most 255 payload bytes (R178). -/
def Obligations.FramesTaken : Prop :=
  (∀ (l : Link) (s : State), (s.ports.get l).outstanding = 16 →
    exec (.droppedFrame l) s = .next (s.setPort l { s.ports.get l with dropped := true }) ∧
    (∀ (i : Instr) (f : CmdFrame), i.frame = some (l, f) → isControl f = false → f.payload.length ≤ 255 →
      exec i s = .next (s.setPort l { s.ports.get l with dropped := true }))) ∧
  (∀ (l : Link) (s : State) (i : Instr) (f : CmdFrame), s.calm → (s.ports.get l).outstanding < 16 →
    (s.ports.get l).halted = true ∨ (s.ports.get l).drain.isSome = true →
    i.frame = some (l, f) → isControl f = false → f.payload.length ≤ 255 →
    exec i s = .next (s.setPort l { s.ports.get l with queue := (s.ports.get l).queue ++ [f] }))

/-- A transfer out composes the status byte and clears DROPPED; a reply read leaves the reply buffer, and with none
there the master receives the filler byte (R163, R173, R178). The status byte is composed and clocked out in one step,
and the wires are the model's own (log entry 12). -/
def Obligations.Transfers : Prop :=
  ∀ (l : Link) (s : State),
    (∃ b : Byte, exec (.transferOut l) s =
        .next { s.setPort l { s.ports.get l with dropped := false } with
          wires := s.wires.set l { status := b, bytes := [] } } ∧
      b.getLsbD 0 = (!(s.ports.get l).log.isEmpty || (s.ports.get l).overflow) ∧
      b.getLsbD 1 = !(s.ports.get l).replies.isEmpty ∧ b.getLsbD 2 = (s.ports.get l).halted ∧
      b.getLsbD 3 = (s.ports.get l).dropped ∧ b.toNat < 16) ∧
    ((s.ports.get l).replies = [] →
      exec (.replyRead l) s = .next { s with wires := s.wires.set l { s.wires.get l with bytes := [0xFF] } }) ∧
    (∀ x rest, (s.ports.get l).replies = x :: rest →
      exec (.replyRead l) s = .next { s.setPort l { s.ports.get l with replies := rest } with
        wires := s.wires.set l { s.wires.get l with
          bytes := [x.command, x.tag, x.code.byte] ++ le16 (halfOf x.body.length) ++ x.body } })

/-- RESUME clears HALTED and the ports execute; at a port that is not halted it does nothing (R167). A port executes while
commands wait at it, it is not halted and no drain is in progress (R164). The command at the head of its queue leaves the
queue and is executed, then the next under the same conditions, so the commands of one link run in the order in which they
were taken: with RESUME, behind a drain (R169), and wherever else commands wait. Each of them posts one reply with its code
and its tag at the tail of the port's replies, and a MALFORMED one halts the port; a DRAIN WAIT that has frames to wait for
posts none yet. With several ports ready one of them goes first, and the manual does not say which (the model's free value,
log entry 9); all of it runs in the one step (log entry 19). -/
def Obligations.ResumeActs : Prop :=
  (∀ (l : Link) (s : State),
    ((s.ports.get l).halted = false → exec (.resume l) s = .next s) ∧
    ((s.ports.get l).halted = true →
      exec (.resume l) s = .next (s.setPort l { s.ports.get l with halted := false }).runAll)) ∧
  (∀ (s : State) (l : Link), l ∈ s.readyPorts ↔
    (s.ports.get l).halted = false ∧ (s.ports.get l).drain = none ∧ (s.ports.get l).queue ≠ []) ∧
  (∀ s : State, s.readyPorts = [] → s.runAll = s) ∧
  (∀ (s : State) (l : Link) (f : CmdFrame) (rest : List CmdFrame),
    s.readyPorts = [l] → (s.ports.get l).queue = f :: rest →
    s.runAll = ((s.setPort l { s.ports.get l with queue := rest }).runFrame l f).runAll) ∧
  (∀ s : State, 2 ≤ s.readyPorts.length →
    ∃ l ∈ s.readyPorts, ∃ f rest, (s.ports.get l).queue = f :: rest ∧
      s.runAll =
        (({ s with choices := s.choices + 1 }.setPort l { s.ports.get l with queue := rest }).runFrame l f).runAll) ∧
  (∀ (s : State) (l : Link) (f : CmdFrame), (s.ports.get l).drain = none →
    let t := s.runFrame l f
    (∀ l', (t.ports.get l').queue = (s.ports.get l').queue) ∧
    (∀ l', l' ≠ l → (t.ports.get l').halted = (s.ports.get l').halted) ∧
    (parse f = some .drainWait → s.unsettled ≠ [] →
      (t.ports.get l).replies = (s.ports.get l).replies ∧ (t.ports.get l).halted = (s.ports.get l).halted ∧
      ∃ d, (t.ports.get l).drain = some d ∧ d.tag = f.tag) ∧
    (parse f ≠ some .drainWait ∨ s.unsettled = [] →
      (t.ports.get l).drain = none ∧ ∃ code body,
        (t.ports.get l).replies = (s.ports.get l).replies ++
          [{ command := f.code, tag := f.tag, code := code, body := body }] ∧
        (t.ports.get l).halted = ((s.ports.get l).halted || code == .malformed)))

/-- LINK RESET returns the port to its values after power-on reset (R161, R168), discards the staging the link holds, and
withdraws its accept, its restores and its offers (R119, R143, R152). The port's log holds only the notices that the reset
itself raises, and the other ports are offered the same notices: the PLAN notice of the staging (R143), then the TEST
notices of the offers in increasing group number (R152; the model's order, log entry 15). -/
def Obligations.LinkResetActs : Prop :=
  ∀ (l : Link) (s : State),
    let notices : List NoticeBody :=
      (match s.planStore.staging with
        | .opened _ holder => if holder = l then [.plan (some l) .opened .empty s.planStore.generation] else []
        | .empty | .sealed _ _ _ => [])
      ++ (List.finRange 4).filterMap (fun g => match s.tests[g] with
        | .offered l' _ _ => if l' = l then some (.test g .offered .idle (.cause .linkReset)) else none
        | .idle | .running _ => none)
    ∃ t : State, exec (.linkReset l) s = .next t ∧
    t.ports.get l = { Port.reset with log := notices.map (fun b => { stamp := s.clock, body := b }) } ∧
    (∀ l', l' ≠ l →
      (t.ports.get l').log = ((s.raiseAll notices).ports.get l').log ∧
      (t.ports.get l').overflow = ((s.raiseAll notices).ports.get l').overflow ∧
      (t.ports.get l').queue = (s.ports.get l').queue ∧ (t.ports.get l').mask = (s.ports.get l').mask ∧
      (t.ports.get l').halted = (s.ports.get l').halted ∧ (t.ports.get l').dropped = (s.ports.get l').dropped ∧
      (t.ports.get l').replies = (s.ports.get l').replies ∧ (t.ports.get l').drain = (s.ports.get l').drain) ∧
    Port.reset = {
      queue := [], replies := [], drain := none, halted := false, dropped := false, log := [], overflow := false
      mask := { check := true, permit := true, plan := true, sync := true, engine := true, test := true } } ∧
    t.planStore.active = s.planStore.active ∧ t.planStore.generation = s.planStore.generation ∧
    (∀ p, s.planStore.staging = .opened p l → t.planStore.staging = .empty) ∧
    (∀ p n w, s.planStore.staging = .sealed p n (some (l, w)) → t.planStore.staging = .sealed p n none) ∧
    ((∀ p, s.planStore.staging ≠ .opened p l) → (∀ p n w, s.planStore.staging ≠ .sealed p n (some (l, w))) →
      t.planStore.staging = s.planStore.staging) ∧
    (∀ g : Group, t.verdicts[g] = { s.verdicts[g] with
      restore := match s.verdicts[g].restore with
        | some x => if x.1 = l then none else some x
        | none => none }) ∧
    (∀ g : Group, t.tests[g] = match s.tests[g] with
      | .offered l' n w => if l' = l then .idle else .offered l' n w
      | .idle => .idle
      | .running w => .running w) ∧
    State.ChangesOnly [.ports, .planStore, .verdicts, .tests] s t

/-- A frame that carries no command is answered MALFORMED and halts the port (R165, R167, R179), and so is a command
whose number field identifies nothing. Fields are tested before the state (the model's choice, log entry 13), and
ENGINE_SERVICE_IN carries its direction (log entry 18). -/
def Obligations.MalformedHalts : Prop :=
  ∀ (l : Link) (tag : Byte) (s : State), s.Ready l →
    (∀ (code : Byte) (payload : List Byte), parse ⟨code, tag, payload⟩ = none → isControl ⟨code, tag, payload⟩ = false →
      payload.length ≤ 255 →
      exec (.unknownCommand l tag code payload) s = .next (s.reply l ⟨code, tag, payload⟩ .malformed [])) ∧
    (∀ f body, (((s.reply l f .malformed body).ports.get l).halted = true)) ∧
    (∀ channel orders, indexFrom1 16 channel = none → orders.length ≤ 254 →
      exec (.readResult l tag channel orders) s =
        .next (s.reply l ((Command.readResult channel orders).frame tag) .malformed [])) ∧
    (∀ first count, indexFrom0 64 first = none →
      exec (.readChecks l tag first count) s =
        .next (s.reply l ((Command.readChecks first count).frame tag) .malformed [])) ∧
    (∀ group, indexFrom1 4 group = none →
      exec (.readGroup l tag group) s = .next (s.reply l ((Command.readGroup group).frame tag) .malformed []) ∧
      exec (.testEnd l tag group) s = .next (s.reply l ((Command.testEnd group).frame tag) .malformed []) ∧
      (l ≠ .m →
        exec (.startQuiet l tag group) s = .next (s.reply l ((Command.startQuiet group).frame tag) .malformed []) ∧
        exec (.restorePermit l tag group) s =
          .next (s.reply l ((Command.restorePermit group).frame tag) .malformed []) ∧
        (∀ seconds, exec (.testGrant l tag group seconds) s =
          .next (s.reply l ((Command.testGrant group seconds).frame tag) .malformed [])))) ∧
    (∀ check, indexFrom0 64 check = none → l ≠ .m →
      exec (.clearLatch l tag check) s = .next (s.reply l ((Command.clearLatch check).frame tag) .malformed [])) ∧
    (∀ engine direction, engineOfByte engine = none ∨ 1 < direction.toNat →
      exec (.engineServiceIn l tag engine direction) s =
        .next (s.reply l ((Command.engineService engine direction).frame tag) .malformed [])) ∧
    (∀ engine, engineOfByte engine = none →
      exec (.engineServiceOut l tag engine) s =
        .next (s.reply l ((Command.engineService engine 0).frame tag) .malformed [])) ∧
    (∀ store slot samples, l = .m → samples.length ≤ 126 →
      indexFrom1 4 store = none ∨ 127 < slot.toNat ∨ 28 < samples.length ∨ 128 < slot.toNat + samples.length →
      exec (.loadPattern l tag store slot samples) s =
        .next (s.reply l ((Command.loadPattern store slot samples).frame tag) .malformed [])) ∧
    (∀ plan kind number, s.plan.item kind number = none ∨ 1 < plan.toNat →
      exec (.readEntry l tag plan kind number) s =
        .next (s.reply l ((Command.readEntry plan kind number).frame tag) .malformed [])) ∧
    (∀ channel source, l = .m → indexFrom1 16 channel = none ∨ 4 < source.toNat →
      exec (.testSource l tag channel source) s =
        .next (s.reply l ((Command.testSource channel source).frame tag) .malformed []))

/-- A command that the role table gives the sending link "no" for is refused with NOT PERMITTED before its fields are read
(R165), and a refused command changes no state of the blocks but for a TEST GRANT refused with NOT OUT OF SERVICE
(R166). -/
def Obligations.RefusedCommandsChangeNothing : Prop :=
  (∀ (i : Instr) (l : Link) (f : CmdFrame) (c : Command) (s : State),
    s.Ready l → i.frame = some (l, f) → parse f = some c →
    (l = .m ∧ (match c with
        | .acceptPlan _ | .clearLatch _ | .startQuiet _ | .restorePermit _ | .testGrant _ _ | .clearFaults => True
        | _ => False)) ∨
      (l ≠ .m ∧ (match c with
        | .loadPattern _ _ _ | .testSource _ _ => True
        | _ => False)) →
    exec i s = .next (s.reply l f .notPermitted [])) ∧
  (∀ (s : State) (l : Link) (c : Command),
    (s.runCommand l c).code ≠ .ok → (s.runCommand l c).code ≠ .notOutOfService →
    (s.runCommand l c).state = s)

/-- ENGINE SERVICE (R63, R65, R66): into service, with the takes of R52; out of service, or to STOPPING; and the refusal
to take out the last engine in service. Every change of an engine's state raises an ENGINE notice (R68). At service out
every audit frame that the other engine has taken and that waits for this one leaves the queue, in queue order: a kept
result is handed to the result table at once as unaudited, where it is accepted or dropped, and a transform that still
runs is marked so (R63). No fault is recorded. The ENGINE notice comes before the notices that the abandoned audits bring
(the model's choice, log entry 15), and commands of the other links behind a drain that these end run after all of it (the
model's choice, log entry 35). An engine that is idle because frames still join at this tick goes OUT at once, and one
that enters service then takes when they have joined (the model's choice, log entry 34). -/
def Obligations.EngineServiceActs : Prop :=
  let dropped := fun (s : State) (r : TransformResult) => r.epoch ≠ (s.buffers[r.channel]).epoch ∨
    r.test = true ∧ (s.tests[s.plan.groupOf r.channel].isRunning = false ∨ s.sources[r.channel] = .live)
  let unauditedRecord := fun (s : State) (r : TransformResult) => ({
    ref := r.ref, cycle := r.cycle, generation := s.planStore.generation, figures := r.figures, heldFlag := r.heldFlag
    clipped := r.clipped, test := r.test, unaudited := true } : ResultRecord)
  (∀ (l : Link) (tag engine : Byte) (e : Engine) (s : State), s.Ready l → engineOfByte engine = some e →
    let fIn := (Command.engineService engine 1).frame tag
    let fOut := (Command.engineService engine 0).frame tag
    let last := (s.engines.get e).lastCycle
    ((s.engines.get e).service = .inService →
      exec (.engineServiceIn l tag engine 1) s = .next (s.reply l fIn .ok [])) ∧
    ((s.engines.get e).service = .stopping →
      exec (.engineServiceIn l tag engine 1) s =
        .next (((s.setEngine e { s.engines.get e with service := .inService }).raise
          (.engine e last .stopping .inService 0)).reply l fIn .ok [])) ∧
    ((s.engines.get e).service = .out →
      ∃ t : State, exec (.engineServiceIn l tag engine 1) s = .next (t.reply l fIn .ok []) ∧
        t = ((s.setEngine e { s.engines.get e with service := .inService }).raise
          (.engine e last .out .inService 0)).enginesTake ∧
        (t.engines.get e).service = .inService ∧ (t.engines.get e.other).service = (s.engines.get e.other).service ∧
        s.Raised t [.engine e last .out .inService 0] ∧
        (∀ (c : Channel) (ahead behind : List Channel) (f : Frame), (s.engines.get e).hand = none →
          s.lastJoin ≠ some s.now ∨ s.closesAhead = false → s.queue = ahead ++ c :: behind →
          (∀ d ∈ ahead, s.eligible e d = false) → s.eligible e c = true → (s.buffers[c]).held = some f →
          e = .e1 ∨ (s.engines.get e.other).service ≠ .inService ∨ (s.engines.get e.other).hand ≠ none ∨
            (∀ d ∈ s.queue, s.eligible e.other d = false) →
          ∃ h, (t.engines.get e).hand = some h ∧ h.taken = s.now ∧ h.frame.joinOrder = f.joinOrder ∧
            h.frame.samples = f.samples) ∧
        State.ChangesOnly [.engines, .buffers, .queue, .audit, .ports] s t) ∧
    ((s.engines.get e).service ≠ .inService →
      exec (.engineServiceOut l tag engine) s = .next (s.reply l fOut .ok [])) ∧
    ((s.engines.get e).service = .inService → (s.engines.get e.other).service ≠ .inService →
      exec (.engineServiceOut l tag engine) s = .next (s.reply l fOut .lastEngine [])) ∧
    ((s.engines.get e).service = .inService → (s.engines.get e.other).service = .inService →
      let waiting := s.waitingFor e
      let new : Service := if (s.engines.get e).hand.isSome = true then .stopping else .out
      let notice : NoticeBody := .engine e last .inService new waiting.length
      waiting.Sublist s.queue ∧
      (∀ c : Channel, c ∈ waiting ↔ c ∈ s.queue ∧ ∃ f, (s.buffers[c]).held = some f ∧ f.audit = true ∧
        f.engines.get e.other = true ∧ f.engines.get e = false) ∧
      ∃ t : State, exec (.engineServiceOut l tag engine) s = .next (t.reply l fOut .ok []).runAll ∧
        t = waiting.foldl (fun u c => u.abandonAudit e c)
          ((s.setEngine e { s.engines.get e with service := new }).raise notice) ∧
        t.engines.get e = { s.engines.get e with service := new } ∧ (t.engines.get e.other).service = .inService ∧
        (∀ c : Channel, t.buffers[c] = { s.buffers[c] with held := (t.buffers[c]).held }) ∧
        t.audit = { s.audit with kept := t.audit.kept } ∧
        (∃ brought, s.Raised t (notice :: brought) ∧ ∀ b ∈ brought,
          (∃ i cycle o n tally, b = .check i cycle o n tally) ∨ ∃ g cycle o n reasons, b = .permit g cycle o n reasons) ∧
        (s.KeptSound →
          t.queue = s.queue.filter (fun c => !waiting.contains c) ∧
          (∀ c : Channel, t.audit.kept[c] = if c ∈ waiting then none else s.audit.kept[c]) ∧
          (∀ (c : Channel) (k : Kept), c ∈ waiting → s.audit.kept[c] = some k →
            (dropped s k.result → t.records[c] = s.records[c]) ∧
            (¬dropped s k.result → t.records[c] = some (unauditedRecord s k.result)) ∧
            ∀ f, (s.buffers[c]).held = some f → f.joinOrder = k.result.join → (t.buffers[c]).held = none) ∧
          (∀ c : Channel, c ∉ waiting ∨ s.audit.kept[c] = none →
            t.records[c] = s.records[c] ∧ (t.buffers[c]).held = (s.buffers[c]).held)) ∧
        (s.KeptSound → s.QueueSound → (t.engines.get e.other).hand = match (s.engines.get e.other).hand with
          | some h => if h.frame.channel ∈ waiting ∧ s.audit.kept[h.frame.channel] = none then
              some { h with role := .abandoned } else some h
          | none => none) ∧
        State.ChangesOnly [.engines, .buffers, .queue, .audit, .records, .checks, .verdicts, .alert, .ports] s t)) ∧
  (∀ (s : State) (e : Engine) (c : Channel) (k : Kept), s.audit.kept[c] = some k → k.result.channel = c →
    let r := k.result
    let t := s.abandonAudit e c
    (∀ l, (t.ports.get l).drain = ((s.ports.get l).settled r.join).drain ∧
      (t.ports.get l).replies = ((s.ports.get l).settled r.join).replies) ∧
    (dropped s r → s.Raised t [] ∧ State.ChangesOnly [.buffers, .queue, .audit, .ports] s t) ∧
    (¬dropped s r →
      t.records = s.records.set c (some (unauditedRecord s r)) ∧
      (r.heldFlag = true → s.plan.groups[s.plan.groupOf c].evaluateHeld = false →
        t.checks = s.checks ∧ t.verdicts = s.verdicts ∧ t.alert = s.alert) ∧
      (r.heldFlag = false ∨ s.plan.groups[s.plan.groupOf c].evaluateHeld = true →
        (∀ i : CheckIx, t.checks[i] =
          ({ s with records := t.records } : State).evaluated c (unauditedRecord s r) i) ∧
        s.VerdictsSet t (fun _ => false) (s.afterEvaluation c)) ∧
      s.Raised t (s.checkNotices t (fun _ => r.cycle) ++ s.permitNotices t (fun _ => r.cycle))))

/-- CLEAR FAULTS (R67): from Link A or Link B it empties the fault records, clears overflow, the mismatch count and
audit-all mode, and touches nothing else of the part; from Link M it is refused. That the audit counter stands as it was
is the model's reading (log entry 17). -/
def Obligations.ClearFaultsActs : Prop :=
  ∀ (l : Link) (tag : Byte) (s : State), s.Ready l →
    (l ≠ .m → exec (.clearFaults l tag) s =
      .next (({ s with audit := { s.audit with
        first := none, latest := none, overflow := false, mismatches := 0, auditAll := false } } : State).reply l
        (Command.clearFaults.frame tag) .ok [])) ∧
    (l = .m → exec (.clearFaults l tag) s = .next (s.reply l (Command.clearFaults.frame tag) .notPermitted []))

/-! ### What holds at every instant -/

/-- The invariants below hold after power-on reset, whatever the levels of the pins and the waiting commands. The
levels of the pins are any levels (log entry 10). -/
def Obligations.ResetHoldsTheInvariants : Prop :=
  ∀ (stop : Bool) (inService : Vector Bool 4) (waiting : List Instr),
    let s := State.powerOn stop inService waiting
    s.PortsSound ∧ s.calm ∧ s.PlansInRange ∧ s.SealSound ∧ s.TrackersSound ∧ s.EnginesSound ∧ s.AuditSound ∧
    s.TransformsInTime ∧ s.KeptSound ∧ s.TakesDone ∧ s.BuffersSound ∧ s.QueueSound ∧ s.ConversionsInTime ∧ s.ChecksSound ∧
    s.PermitsSound ∧ s.VerdictsCurrent ∧ s.ReasonsCurrent ∧ s.SourcesSound ∧ s.PairingsSound

/-- Every step keeps the ports within their bounds and leaves no command that a port could execute (R161, R164, R167,
R169, R171). -/
def Obligations.PortsStaySound : Prop :=
  ∀ s t : State, s.PortsSound → s.calm → step s = .next t → t.PortsSound ∧ t.calm

/-- Every step keeps the active and the staged plan within their ranges (R134), and a sealed plan as R135 to R141 leave
it; and the guard level never decreases except at power-on reset (R138). -/
def Obligations.PlansStayInRange : Prop :=
  ∀ s t : State, s.PlansInRange → s.SealSound → step s = .next t →
    t.PlansInRange ∧ t.SealSound ∧ (s.pending.head? ≠ some .powerOnReset → s.plan.guardLevel ≤ t.plan.guardLevel)

/-- Every step keeps the trackers as R2 to R11 allow: the period in use within the window, a cycle and strobes exactly
outside SEEKING, a deadline exactly in LOCKED, a held count exactly in HOLDING. -/
def Obligations.TrackersStaySound : Prop :=
  ∀ s t : State, s.TrackersSound → step s = .next t → t.TrackersSound

/-- Every step keeps the engines and what they work on sound. At least one engine is IN SERVICE (R66), each engine's
service is in step with its frame in hand (R51), the audit unit's modes and records are consistent (R61, R62, R67), and no
transform is older than 250 µs (R54). The queue names no channel twice and so never holds more than sixteen frames, it
stands in queue order (R28), a queued frame is in its channel's held buffer, and a buffered frame that is not queued is
with an engine (R25, R30, R53); the frames of a buffer are its channel's, and those that have not closed are with no
engine (R19). A kept result stands under its own channel (R59). Unless frames are still joining at this tick, no engine
that is IN SERVICE and idle leaves an eligible frame in the queue (R52; log entries 8 and 34 for a tick at which they
are). No conversion outlasts its 40 ticks (R17; log entry 33 says what of that rule is no invariant). -/
def Obligations.EnginesStaySound : Prop :=
  (∀ s t : State, s.EnginesSound → s.AuditSound → s.TransformsInTime → step s = .next t →
    t.EnginesSound ∧ t.AuditSound ∧ t.TransformsInTime) ∧
  (∀ s t : State, s.BuffersSound → s.QueueSound → s.ConversionsInTime → step s = .next t →
    t.BuffersSound ∧ t.QueueSound ∧ t.ConversionsInTime ∧ t.queue.length ≤ 16) ∧
  (∀ s t : State, s.KeptSound → step s = .next t → t.KeptSound) ∧
  (∀ s t : State, s.EnginesSound → s.TakesDone → step s = .next t → t.TakesDone)

/-- Every step keeps the check table consistent: OFF exactly for the checks not enabled, run counts and tallies in their
ranges, and an enabled check that is not LATCHED SUSPENDED exactly while one of its causes holds (R82, R83, R89, R98 to
R100). -/
def Obligations.ChecksStaySound : Prop :=
  ∀ s t : State, s.PlansInRange → s.ChecksSound → step s = .next t → t.ChecksSound

/-- A permit is given when, and only when, the group's reason set is empty (R114): every step keeps it so. -/
def Obligations.PermitsFollowTheReasons : Prop :=
  ∀ s t : State, s.PermitsSound → step s = .next t → t.PermitsSound

/-- Every step keeps each group's terms, trip condition and WARN those of its checks, TRIP present exactly while the trip
condition is true, STOP, BLIND and TEST present exactly while their conditions hold, UNPLANNED present for every group that
the active plan does not protect, and the alert output asserted exactly while a group warns or trips (R110 to R116, R120 to
R124). -/
def Obligations.VerdictsStayCurrent : Prop :=
  ∀ s t : State, s.VerdictsCurrent → s.ReasonsCurrent → step s = .next t → t.VerdictsCurrent ∧ t.ReasonsCurrent

/-- Every step keeps pattern sources within RUNNING tests, and offers and recorded restores with the two protection
channels (R118, R150, R155 to R158). -/
def Obligations.TestsStaySound : Prop :=
  ∀ s t : State, s.SourcesSound → s.PairingsSound → step s = .next t → t.SourcesSound ∧ t.PairingsSound
end

