-- ==== Sys2Proof/Laws/State.lean ====
section
/-! SUPPORT. What each setter of the State does to each of its fields. -/

namespace Sys2Proof.Machine

variable (s : State)

/-! ### setTracker -/

@[simp] theorem setTracker_now (r : Ref) (t : Tracker) : (s.setTracker r t).now = s.now := rfl
@[simp] theorem setTracker_clock (r : Ref) (t : Tracker) : (s.setTracker r t).clock = s.clock := rfl
@[simp] theorem setTracker_trackers (r : Ref) (t : Tracker) : (s.setTracker r t).trackers = s.trackers.set r t := rfl
@[simp] theorem setTracker_converters (r : Ref) (t : Tracker) : (s.setTracker r t).converters = s.converters := rfl
@[simp] theorem setTracker_buffers (r : Ref) (t : Tracker) : (s.setTracker r t).buffers = s.buffers := rfl
@[simp] theorem setTracker_queue (r : Ref) (t : Tracker) : (s.setTracker r t).queue = s.queue := rfl
@[simp] theorem setTracker_lastJoin (r : Ref) (t : Tracker) : (s.setTracker r t).lastJoin = s.lastJoin := rfl
@[simp] theorem setTracker_engines (r : Ref) (t : Tracker) : (s.setTracker r t).engines = s.engines := rfl
@[simp] theorem setTracker_audit (r : Ref) (t : Tracker) : (s.setTracker r t).audit = s.audit := rfl
@[simp] theorem setTracker_records (r : Ref) (t : Tracker) : (s.setTracker r t).records = s.records := rfl
@[simp] theorem setTracker_checks (r : Ref) (t : Tracker) : (s.setTracker r t).checks = s.checks := rfl
@[simp] theorem setTracker_quiet (r : Ref) (t : Tracker) : (s.setTracker r t).quiet = s.quiet := rfl
@[simp] theorem setTracker_quietEndDue (r : Ref) (t : Tracker) : (s.setTracker r t).quietEndDue = s.quietEndDue := rfl
@[simp] theorem setTracker_verdicts (r : Ref) (t : Tracker) : (s.setTracker r t).verdicts = s.verdicts := rfl
@[simp] theorem setTracker_alert (r : Ref) (t : Tracker) : (s.setTracker r t).alert = s.alert := rfl
@[simp] theorem setTracker_planStore (r : Ref) (t : Tracker) : (s.setTracker r t).planStore = s.planStore := rfl
@[simp] theorem setTracker_tests (r : Ref) (t : Tracker) : (s.setTracker r t).tests = s.tests := rfl
@[simp] theorem setTracker_sources (r : Ref) (t : Tracker) : (s.setTracker r t).sources = s.sources := rfl
@[simp] theorem setTracker_patterns (r : Ref) (t : Tracker) : (s.setTracker r t).patterns = s.patterns := rfl
@[simp] theorem setTracker_ports (r : Ref) (t : Tracker) : (s.setTracker r t).ports = s.ports := rfl
@[simp] theorem setTracker_inService (r : Ref) (t : Tracker) : (s.setTracker r t).inService = s.inService := rfl
@[simp] theorem setTracker_stopInput (r : Ref) (t : Tracker) : (s.setTracker r t).stopInput = s.stopInput := rfl
@[simp] theorem setTracker_wires (r : Ref) (t : Tracker) : (s.setTracker r t).wires = s.wires := rfl
@[simp] theorem setTracker_choices (r : Ref) (t : Tracker) : (s.setTracker r t).choices = s.choices := rfl
@[simp] theorem setTracker_pending (r : Ref) (t : Tracker) : (s.setTracker r t).pending = s.pending := rfl
@[simp] theorem setTracker_plan (r : Ref) (t : Tracker) : (s.setTracker r t).plan = s.plan := rfl

/-! ### setConverter -/

@[simp] theorem setConverter_now (c : Channel) (v : Converter) : (s.setConverter c v).now = s.now := rfl
@[simp] theorem setConverter_clock (c : Channel) (v : Converter) : (s.setConverter c v).clock = s.clock := rfl
@[simp] theorem setConverter_trackers (c : Channel) (v : Converter) : (s.setConverter c v).trackers = s.trackers := rfl
@[simp] theorem setConverter_converters (c : Channel) (v : Converter) : (s.setConverter c v).converters = s.converters.set c v := rfl
@[simp] theorem setConverter_buffers (c : Channel) (v : Converter) : (s.setConverter c v).buffers = s.buffers := rfl
@[simp] theorem setConverter_queue (c : Channel) (v : Converter) : (s.setConverter c v).queue = s.queue := rfl
@[simp] theorem setConverter_lastJoin (c : Channel) (v : Converter) : (s.setConverter c v).lastJoin = s.lastJoin := rfl
@[simp] theorem setConverter_engines (c : Channel) (v : Converter) : (s.setConverter c v).engines = s.engines := rfl
@[simp] theorem setConverter_audit (c : Channel) (v : Converter) : (s.setConverter c v).audit = s.audit := rfl
@[simp] theorem setConverter_records (c : Channel) (v : Converter) : (s.setConverter c v).records = s.records := rfl
@[simp] theorem setConverter_checks (c : Channel) (v : Converter) : (s.setConverter c v).checks = s.checks := rfl
@[simp] theorem setConverter_quiet (c : Channel) (v : Converter) : (s.setConverter c v).quiet = s.quiet := rfl
@[simp] theorem setConverter_quietEndDue (c : Channel) (v : Converter) : (s.setConverter c v).quietEndDue = s.quietEndDue := rfl
@[simp] theorem setConverter_verdicts (c : Channel) (v : Converter) : (s.setConverter c v).verdicts = s.verdicts := rfl
@[simp] theorem setConverter_alert (c : Channel) (v : Converter) : (s.setConverter c v).alert = s.alert := rfl
@[simp] theorem setConverter_planStore (c : Channel) (v : Converter) : (s.setConverter c v).planStore = s.planStore := rfl
@[simp] theorem setConverter_tests (c : Channel) (v : Converter) : (s.setConverter c v).tests = s.tests := rfl
@[simp] theorem setConverter_sources (c : Channel) (v : Converter) : (s.setConverter c v).sources = s.sources := rfl
@[simp] theorem setConverter_patterns (c : Channel) (v : Converter) : (s.setConverter c v).patterns = s.patterns := rfl
@[simp] theorem setConverter_ports (c : Channel) (v : Converter) : (s.setConverter c v).ports = s.ports := rfl
@[simp] theorem setConverter_inService (c : Channel) (v : Converter) : (s.setConverter c v).inService = s.inService := rfl
@[simp] theorem setConverter_stopInput (c : Channel) (v : Converter) : (s.setConverter c v).stopInput = s.stopInput := rfl
@[simp] theorem setConverter_wires (c : Channel) (v : Converter) : (s.setConverter c v).wires = s.wires := rfl
@[simp] theorem setConverter_choices (c : Channel) (v : Converter) : (s.setConverter c v).choices = s.choices := rfl
@[simp] theorem setConverter_pending (c : Channel) (v : Converter) : (s.setConverter c v).pending = s.pending := rfl
@[simp] theorem setConverter_plan (c : Channel) (v : Converter) : (s.setConverter c v).plan = s.plan := rfl

/-! ### setBuffers -/

@[simp] theorem setBuffers_now (c : Channel) (b : Buffers) : (s.setBuffers c b).now = s.now := rfl
@[simp] theorem setBuffers_clock (c : Channel) (b : Buffers) : (s.setBuffers c b).clock = s.clock := rfl
@[simp] theorem setBuffers_trackers (c : Channel) (b : Buffers) : (s.setBuffers c b).trackers = s.trackers := rfl
@[simp] theorem setBuffers_converters (c : Channel) (b : Buffers) : (s.setBuffers c b).converters = s.converters := rfl
@[simp] theorem setBuffers_buffers (c : Channel) (b : Buffers) : (s.setBuffers c b).buffers = s.buffers.set c b := rfl
@[simp] theorem setBuffers_queue (c : Channel) (b : Buffers) : (s.setBuffers c b).queue = s.queue := rfl
@[simp] theorem setBuffers_lastJoin (c : Channel) (b : Buffers) : (s.setBuffers c b).lastJoin = s.lastJoin := rfl
@[simp] theorem setBuffers_engines (c : Channel) (b : Buffers) : (s.setBuffers c b).engines = s.engines := rfl
@[simp] theorem setBuffers_audit (c : Channel) (b : Buffers) : (s.setBuffers c b).audit = s.audit := rfl
@[simp] theorem setBuffers_records (c : Channel) (b : Buffers) : (s.setBuffers c b).records = s.records := rfl
@[simp] theorem setBuffers_checks (c : Channel) (b : Buffers) : (s.setBuffers c b).checks = s.checks := rfl
@[simp] theorem setBuffers_quiet (c : Channel) (b : Buffers) : (s.setBuffers c b).quiet = s.quiet := rfl
@[simp] theorem setBuffers_quietEndDue (c : Channel) (b : Buffers) : (s.setBuffers c b).quietEndDue = s.quietEndDue := rfl
@[simp] theorem setBuffers_verdicts (c : Channel) (b : Buffers) : (s.setBuffers c b).verdicts = s.verdicts := rfl
@[simp] theorem setBuffers_alert (c : Channel) (b : Buffers) : (s.setBuffers c b).alert = s.alert := rfl
@[simp] theorem setBuffers_planStore (c : Channel) (b : Buffers) : (s.setBuffers c b).planStore = s.planStore := rfl
@[simp] theorem setBuffers_tests (c : Channel) (b : Buffers) : (s.setBuffers c b).tests = s.tests := rfl
@[simp] theorem setBuffers_sources (c : Channel) (b : Buffers) : (s.setBuffers c b).sources = s.sources := rfl
@[simp] theorem setBuffers_patterns (c : Channel) (b : Buffers) : (s.setBuffers c b).patterns = s.patterns := rfl
@[simp] theorem setBuffers_ports (c : Channel) (b : Buffers) : (s.setBuffers c b).ports = s.ports := rfl
@[simp] theorem setBuffers_inService (c : Channel) (b : Buffers) : (s.setBuffers c b).inService = s.inService := rfl
@[simp] theorem setBuffers_stopInput (c : Channel) (b : Buffers) : (s.setBuffers c b).stopInput = s.stopInput := rfl
@[simp] theorem setBuffers_wires (c : Channel) (b : Buffers) : (s.setBuffers c b).wires = s.wires := rfl
@[simp] theorem setBuffers_choices (c : Channel) (b : Buffers) : (s.setBuffers c b).choices = s.choices := rfl
@[simp] theorem setBuffers_pending (c : Channel) (b : Buffers) : (s.setBuffers c b).pending = s.pending := rfl
@[simp] theorem setBuffers_plan (c : Channel) (b : Buffers) : (s.setBuffers c b).plan = s.plan := rfl

/-! ### setEngine -/

@[simp] theorem setEngine_now (e : Engine) (x : EngineSlot) : (s.setEngine e x).now = s.now := rfl
@[simp] theorem setEngine_clock (e : Engine) (x : EngineSlot) : (s.setEngine e x).clock = s.clock := rfl
@[simp] theorem setEngine_trackers (e : Engine) (x : EngineSlot) : (s.setEngine e x).trackers = s.trackers := rfl
@[simp] theorem setEngine_converters (e : Engine) (x : EngineSlot) : (s.setEngine e x).converters = s.converters := rfl
@[simp] theorem setEngine_buffers (e : Engine) (x : EngineSlot) : (s.setEngine e x).buffers = s.buffers := rfl
@[simp] theorem setEngine_queue (e : Engine) (x : EngineSlot) : (s.setEngine e x).queue = s.queue := rfl
@[simp] theorem setEngine_lastJoin (e : Engine) (x : EngineSlot) : (s.setEngine e x).lastJoin = s.lastJoin := rfl
@[simp] theorem setEngine_engines (e : Engine) (x : EngineSlot) : (s.setEngine e x).engines = s.engines.set e x := rfl
@[simp] theorem setEngine_audit (e : Engine) (x : EngineSlot) : (s.setEngine e x).audit = s.audit := rfl
@[simp] theorem setEngine_records (e : Engine) (x : EngineSlot) : (s.setEngine e x).records = s.records := rfl
@[simp] theorem setEngine_checks (e : Engine) (x : EngineSlot) : (s.setEngine e x).checks = s.checks := rfl
@[simp] theorem setEngine_quiet (e : Engine) (x : EngineSlot) : (s.setEngine e x).quiet = s.quiet := rfl
@[simp] theorem setEngine_quietEndDue (e : Engine) (x : EngineSlot) : (s.setEngine e x).quietEndDue = s.quietEndDue := rfl
@[simp] theorem setEngine_verdicts (e : Engine) (x : EngineSlot) : (s.setEngine e x).verdicts = s.verdicts := rfl
@[simp] theorem setEngine_alert (e : Engine) (x : EngineSlot) : (s.setEngine e x).alert = s.alert := rfl
@[simp] theorem setEngine_planStore (e : Engine) (x : EngineSlot) : (s.setEngine e x).planStore = s.planStore := rfl
@[simp] theorem setEngine_tests (e : Engine) (x : EngineSlot) : (s.setEngine e x).tests = s.tests := rfl
@[simp] theorem setEngine_sources (e : Engine) (x : EngineSlot) : (s.setEngine e x).sources = s.sources := rfl
@[simp] theorem setEngine_patterns (e : Engine) (x : EngineSlot) : (s.setEngine e x).patterns = s.patterns := rfl
@[simp] theorem setEngine_ports (e : Engine) (x : EngineSlot) : (s.setEngine e x).ports = s.ports := rfl
@[simp] theorem setEngine_inService (e : Engine) (x : EngineSlot) : (s.setEngine e x).inService = s.inService := rfl
@[simp] theorem setEngine_stopInput (e : Engine) (x : EngineSlot) : (s.setEngine e x).stopInput = s.stopInput := rfl
@[simp] theorem setEngine_wires (e : Engine) (x : EngineSlot) : (s.setEngine e x).wires = s.wires := rfl
@[simp] theorem setEngine_choices (e : Engine) (x : EngineSlot) : (s.setEngine e x).choices = s.choices := rfl
@[simp] theorem setEngine_pending (e : Engine) (x : EngineSlot) : (s.setEngine e x).pending = s.pending := rfl
@[simp] theorem setEngine_plan (e : Engine) (x : EngineSlot) : (s.setEngine e x).plan = s.plan := rfl

/-! ### setKept -/

@[simp] theorem setKept_now (c : Channel) (k : Option Kept) : (s.setKept c k).now = s.now := rfl
@[simp] theorem setKept_clock (c : Channel) (k : Option Kept) : (s.setKept c k).clock = s.clock := rfl
@[simp] theorem setKept_trackers (c : Channel) (k : Option Kept) : (s.setKept c k).trackers = s.trackers := rfl
@[simp] theorem setKept_converters (c : Channel) (k : Option Kept) : (s.setKept c k).converters = s.converters := rfl
@[simp] theorem setKept_buffers (c : Channel) (k : Option Kept) : (s.setKept c k).buffers = s.buffers := rfl
@[simp] theorem setKept_queue (c : Channel) (k : Option Kept) : (s.setKept c k).queue = s.queue := rfl
@[simp] theorem setKept_lastJoin (c : Channel) (k : Option Kept) : (s.setKept c k).lastJoin = s.lastJoin := rfl
@[simp] theorem setKept_engines (c : Channel) (k : Option Kept) : (s.setKept c k).engines = s.engines := rfl
@[simp] theorem setKept_audit (c : Channel) (k : Option Kept) : (s.setKept c k).audit = { s.audit with kept := s.audit.kept.set c k } := rfl
@[simp] theorem setKept_records (c : Channel) (k : Option Kept) : (s.setKept c k).records = s.records := rfl
@[simp] theorem setKept_checks (c : Channel) (k : Option Kept) : (s.setKept c k).checks = s.checks := rfl
@[simp] theorem setKept_quiet (c : Channel) (k : Option Kept) : (s.setKept c k).quiet = s.quiet := rfl
@[simp] theorem setKept_quietEndDue (c : Channel) (k : Option Kept) : (s.setKept c k).quietEndDue = s.quietEndDue := rfl
@[simp] theorem setKept_verdicts (c : Channel) (k : Option Kept) : (s.setKept c k).verdicts = s.verdicts := rfl
@[simp] theorem setKept_alert (c : Channel) (k : Option Kept) : (s.setKept c k).alert = s.alert := rfl
@[simp] theorem setKept_planStore (c : Channel) (k : Option Kept) : (s.setKept c k).planStore = s.planStore := rfl
@[simp] theorem setKept_tests (c : Channel) (k : Option Kept) : (s.setKept c k).tests = s.tests := rfl
@[simp] theorem setKept_sources (c : Channel) (k : Option Kept) : (s.setKept c k).sources = s.sources := rfl
@[simp] theorem setKept_patterns (c : Channel) (k : Option Kept) : (s.setKept c k).patterns = s.patterns := rfl
@[simp] theorem setKept_ports (c : Channel) (k : Option Kept) : (s.setKept c k).ports = s.ports := rfl
@[simp] theorem setKept_inService (c : Channel) (k : Option Kept) : (s.setKept c k).inService = s.inService := rfl
@[simp] theorem setKept_stopInput (c : Channel) (k : Option Kept) : (s.setKept c k).stopInput = s.stopInput := rfl
@[simp] theorem setKept_wires (c : Channel) (k : Option Kept) : (s.setKept c k).wires = s.wires := rfl
@[simp] theorem setKept_choices (c : Channel) (k : Option Kept) : (s.setKept c k).choices = s.choices := rfl
@[simp] theorem setKept_pending (c : Channel) (k : Option Kept) : (s.setKept c k).pending = s.pending := rfl
@[simp] theorem setKept_plan (c : Channel) (k : Option Kept) : (s.setKept c k).plan = s.plan := rfl

/-! ### setRecord -/

@[simp] theorem setRecord_now (c : Channel) (r : Option ResultRecord) : (s.setRecord c r).now = s.now := rfl
@[simp] theorem setRecord_clock (c : Channel) (r : Option ResultRecord) : (s.setRecord c r).clock = s.clock := rfl
@[simp] theorem setRecord_trackers (c : Channel) (r : Option ResultRecord) : (s.setRecord c r).trackers = s.trackers := rfl
@[simp] theorem setRecord_converters (c : Channel) (r : Option ResultRecord) : (s.setRecord c r).converters = s.converters := rfl
@[simp] theorem setRecord_buffers (c : Channel) (r : Option ResultRecord) : (s.setRecord c r).buffers = s.buffers := rfl
@[simp] theorem setRecord_queue (c : Channel) (r : Option ResultRecord) : (s.setRecord c r).queue = s.queue := rfl
@[simp] theorem setRecord_lastJoin (c : Channel) (r : Option ResultRecord) : (s.setRecord c r).lastJoin = s.lastJoin := rfl
@[simp] theorem setRecord_engines (c : Channel) (r : Option ResultRecord) : (s.setRecord c r).engines = s.engines := rfl
@[simp] theorem setRecord_audit (c : Channel) (r : Option ResultRecord) : (s.setRecord c r).audit = s.audit := rfl
@[simp] theorem setRecord_records (c : Channel) (r : Option ResultRecord) : (s.setRecord c r).records = s.records.set c r := rfl
@[simp] theorem setRecord_checks (c : Channel) (r : Option ResultRecord) : (s.setRecord c r).checks = s.checks := rfl
@[simp] theorem setRecord_quiet (c : Channel) (r : Option ResultRecord) : (s.setRecord c r).quiet = s.quiet := rfl
@[simp] theorem setRecord_quietEndDue (c : Channel) (r : Option ResultRecord) : (s.setRecord c r).quietEndDue = s.quietEndDue := rfl
@[simp] theorem setRecord_verdicts (c : Channel) (r : Option ResultRecord) : (s.setRecord c r).verdicts = s.verdicts := rfl
@[simp] theorem setRecord_alert (c : Channel) (r : Option ResultRecord) : (s.setRecord c r).alert = s.alert := rfl
@[simp] theorem setRecord_planStore (c : Channel) (r : Option ResultRecord) : (s.setRecord c r).planStore = s.planStore := rfl
@[simp] theorem setRecord_tests (c : Channel) (r : Option ResultRecord) : (s.setRecord c r).tests = s.tests := rfl
@[simp] theorem setRecord_sources (c : Channel) (r : Option ResultRecord) : (s.setRecord c r).sources = s.sources := rfl
@[simp] theorem setRecord_patterns (c : Channel) (r : Option ResultRecord) : (s.setRecord c r).patterns = s.patterns := rfl
@[simp] theorem setRecord_ports (c : Channel) (r : Option ResultRecord) : (s.setRecord c r).ports = s.ports := rfl
@[simp] theorem setRecord_inService (c : Channel) (r : Option ResultRecord) : (s.setRecord c r).inService = s.inService := rfl
@[simp] theorem setRecord_stopInput (c : Channel) (r : Option ResultRecord) : (s.setRecord c r).stopInput = s.stopInput := rfl
@[simp] theorem setRecord_wires (c : Channel) (r : Option ResultRecord) : (s.setRecord c r).wires = s.wires := rfl
@[simp] theorem setRecord_choices (c : Channel) (r : Option ResultRecord) : (s.setRecord c r).choices = s.choices := rfl
@[simp] theorem setRecord_pending (c : Channel) (r : Option ResultRecord) : (s.setRecord c r).pending = s.pending := rfl
@[simp] theorem setRecord_plan (c : Channel) (r : Option ResultRecord) : (s.setRecord c r).plan = s.plan := rfl

/-! ### setTest -/

@[simp] theorem setTest_now (g : Group) (t : TestState) : (s.setTest g t).now = s.now := rfl
@[simp] theorem setTest_clock (g : Group) (t : TestState) : (s.setTest g t).clock = s.clock := rfl
@[simp] theorem setTest_trackers (g : Group) (t : TestState) : (s.setTest g t).trackers = s.trackers := rfl
@[simp] theorem setTest_converters (g : Group) (t : TestState) : (s.setTest g t).converters = s.converters := rfl
@[simp] theorem setTest_buffers (g : Group) (t : TestState) : (s.setTest g t).buffers = s.buffers := rfl
@[simp] theorem setTest_queue (g : Group) (t : TestState) : (s.setTest g t).queue = s.queue := rfl
@[simp] theorem setTest_lastJoin (g : Group) (t : TestState) : (s.setTest g t).lastJoin = s.lastJoin := rfl
@[simp] theorem setTest_engines (g : Group) (t : TestState) : (s.setTest g t).engines = s.engines := rfl
@[simp] theorem setTest_audit (g : Group) (t : TestState) : (s.setTest g t).audit = s.audit := rfl
@[simp] theorem setTest_records (g : Group) (t : TestState) : (s.setTest g t).records = s.records := rfl
@[simp] theorem setTest_checks (g : Group) (t : TestState) : (s.setTest g t).checks = s.checks := rfl
@[simp] theorem setTest_quiet (g : Group) (t : TestState) : (s.setTest g t).quiet = s.quiet := rfl
@[simp] theorem setTest_quietEndDue (g : Group) (t : TestState) : (s.setTest g t).quietEndDue = s.quietEndDue := rfl
@[simp] theorem setTest_verdicts (g : Group) (t : TestState) : (s.setTest g t).verdicts = s.verdicts := rfl
@[simp] theorem setTest_alert (g : Group) (t : TestState) : (s.setTest g t).alert = s.alert := rfl
@[simp] theorem setTest_planStore (g : Group) (t : TestState) : (s.setTest g t).planStore = s.planStore := rfl
@[simp] theorem setTest_tests (g : Group) (t : TestState) : (s.setTest g t).tests = s.tests.set g t := rfl
@[simp] theorem setTest_sources (g : Group) (t : TestState) : (s.setTest g t).sources = s.sources := rfl
@[simp] theorem setTest_patterns (g : Group) (t : TestState) : (s.setTest g t).patterns = s.patterns := rfl
@[simp] theorem setTest_ports (g : Group) (t : TestState) : (s.setTest g t).ports = s.ports := rfl
@[simp] theorem setTest_inService (g : Group) (t : TestState) : (s.setTest g t).inService = s.inService := rfl
@[simp] theorem setTest_stopInput (g : Group) (t : TestState) : (s.setTest g t).stopInput = s.stopInput := rfl
@[simp] theorem setTest_wires (g : Group) (t : TestState) : (s.setTest g t).wires = s.wires := rfl
@[simp] theorem setTest_choices (g : Group) (t : TestState) : (s.setTest g t).choices = s.choices := rfl
@[simp] theorem setTest_pending (g : Group) (t : TestState) : (s.setTest g t).pending = s.pending := rfl
@[simp] theorem setTest_plan (g : Group) (t : TestState) : (s.setTest g t).plan = s.plan := rfl

/-! ### setSource -/

@[simp] theorem setSource_now (c : Channel) (x : Source) : (s.setSource c x).now = s.now := rfl
@[simp] theorem setSource_clock (c : Channel) (x : Source) : (s.setSource c x).clock = s.clock := rfl
@[simp] theorem setSource_trackers (c : Channel) (x : Source) : (s.setSource c x).trackers = s.trackers := rfl
@[simp] theorem setSource_converters (c : Channel) (x : Source) : (s.setSource c x).converters = s.converters := rfl
@[simp] theorem setSource_buffers (c : Channel) (x : Source) : (s.setSource c x).buffers = s.buffers := rfl
@[simp] theorem setSource_queue (c : Channel) (x : Source) : (s.setSource c x).queue = s.queue := rfl
@[simp] theorem setSource_lastJoin (c : Channel) (x : Source) : (s.setSource c x).lastJoin = s.lastJoin := rfl
@[simp] theorem setSource_engines (c : Channel) (x : Source) : (s.setSource c x).engines = s.engines := rfl
@[simp] theorem setSource_audit (c : Channel) (x : Source) : (s.setSource c x).audit = s.audit := rfl
@[simp] theorem setSource_records (c : Channel) (x : Source) : (s.setSource c x).records = s.records := rfl
@[simp] theorem setSource_checks (c : Channel) (x : Source) : (s.setSource c x).checks = s.checks := rfl
@[simp] theorem setSource_quiet (c : Channel) (x : Source) : (s.setSource c x).quiet = s.quiet := rfl
@[simp] theorem setSource_quietEndDue (c : Channel) (x : Source) : (s.setSource c x).quietEndDue = s.quietEndDue := rfl
@[simp] theorem setSource_verdicts (c : Channel) (x : Source) : (s.setSource c x).verdicts = s.verdicts := rfl
@[simp] theorem setSource_alert (c : Channel) (x : Source) : (s.setSource c x).alert = s.alert := rfl
@[simp] theorem setSource_planStore (c : Channel) (x : Source) : (s.setSource c x).planStore = s.planStore := rfl
@[simp] theorem setSource_tests (c : Channel) (x : Source) : (s.setSource c x).tests = s.tests := rfl
@[simp] theorem setSource_sources (c : Channel) (x : Source) : (s.setSource c x).sources = s.sources.set c x := rfl
@[simp] theorem setSource_patterns (c : Channel) (x : Source) : (s.setSource c x).patterns = s.patterns := rfl
@[simp] theorem setSource_ports (c : Channel) (x : Source) : (s.setSource c x).ports = s.ports := rfl
@[simp] theorem setSource_inService (c : Channel) (x : Source) : (s.setSource c x).inService = s.inService := rfl
@[simp] theorem setSource_stopInput (c : Channel) (x : Source) : (s.setSource c x).stopInput = s.stopInput := rfl
@[simp] theorem setSource_wires (c : Channel) (x : Source) : (s.setSource c x).wires = s.wires := rfl
@[simp] theorem setSource_choices (c : Channel) (x : Source) : (s.setSource c x).choices = s.choices := rfl
@[simp] theorem setSource_pending (c : Channel) (x : Source) : (s.setSource c x).pending = s.pending := rfl
@[simp] theorem setSource_plan (c : Channel) (x : Source) : (s.setSource c x).plan = s.plan := rfl

/-! ### setPort -/

@[simp] theorem setPort_now (l : Link) (p : Port) : (s.setPort l p).now = s.now := rfl
@[simp] theorem setPort_clock (l : Link) (p : Port) : (s.setPort l p).clock = s.clock := rfl
@[simp] theorem setPort_trackers (l : Link) (p : Port) : (s.setPort l p).trackers = s.trackers := rfl
@[simp] theorem setPort_converters (l : Link) (p : Port) : (s.setPort l p).converters = s.converters := rfl
@[simp] theorem setPort_buffers (l : Link) (p : Port) : (s.setPort l p).buffers = s.buffers := rfl
@[simp] theorem setPort_queue (l : Link) (p : Port) : (s.setPort l p).queue = s.queue := rfl
@[simp] theorem setPort_lastJoin (l : Link) (p : Port) : (s.setPort l p).lastJoin = s.lastJoin := rfl
@[simp] theorem setPort_engines (l : Link) (p : Port) : (s.setPort l p).engines = s.engines := rfl
@[simp] theorem setPort_audit (l : Link) (p : Port) : (s.setPort l p).audit = s.audit := rfl
@[simp] theorem setPort_records (l : Link) (p : Port) : (s.setPort l p).records = s.records := rfl
@[simp] theorem setPort_checks (l : Link) (p : Port) : (s.setPort l p).checks = s.checks := rfl
@[simp] theorem setPort_quiet (l : Link) (p : Port) : (s.setPort l p).quiet = s.quiet := rfl
@[simp] theorem setPort_quietEndDue (l : Link) (p : Port) : (s.setPort l p).quietEndDue = s.quietEndDue := rfl
@[simp] theorem setPort_verdicts (l : Link) (p : Port) : (s.setPort l p).verdicts = s.verdicts := rfl
@[simp] theorem setPort_alert (l : Link) (p : Port) : (s.setPort l p).alert = s.alert := rfl
@[simp] theorem setPort_planStore (l : Link) (p : Port) : (s.setPort l p).planStore = s.planStore := rfl
@[simp] theorem setPort_tests (l : Link) (p : Port) : (s.setPort l p).tests = s.tests := rfl
@[simp] theorem setPort_sources (l : Link) (p : Port) : (s.setPort l p).sources = s.sources := rfl
@[simp] theorem setPort_patterns (l : Link) (p : Port) : (s.setPort l p).patterns = s.patterns := rfl
@[simp] theorem setPort_ports (l : Link) (p : Port) : (s.setPort l p).ports = s.ports.set l p := rfl
@[simp] theorem setPort_inService (l : Link) (p : Port) : (s.setPort l p).inService = s.inService := rfl
@[simp] theorem setPort_stopInput (l : Link) (p : Port) : (s.setPort l p).stopInput = s.stopInput := rfl
@[simp] theorem setPort_wires (l : Link) (p : Port) : (s.setPort l p).wires = s.wires := rfl
@[simp] theorem setPort_choices (l : Link) (p : Port) : (s.setPort l p).choices = s.choices := rfl
@[simp] theorem setPort_pending (l : Link) (p : Port) : (s.setPort l p).pending = s.pending := rfl
@[simp] theorem setPort_plan (l : Link) (p : Port) : (s.setPort l p).plan = s.plan := rfl

/-! ### setStaging -/

@[simp] theorem setStaging_now (x : Staging) : (s.setStaging x).now = s.now := rfl
@[simp] theorem setStaging_clock (x : Staging) : (s.setStaging x).clock = s.clock := rfl
@[simp] theorem setStaging_trackers (x : Staging) : (s.setStaging x).trackers = s.trackers := rfl
@[simp] theorem setStaging_converters (x : Staging) : (s.setStaging x).converters = s.converters := rfl
@[simp] theorem setStaging_buffers (x : Staging) : (s.setStaging x).buffers = s.buffers := rfl
@[simp] theorem setStaging_queue (x : Staging) : (s.setStaging x).queue = s.queue := rfl
@[simp] theorem setStaging_lastJoin (x : Staging) : (s.setStaging x).lastJoin = s.lastJoin := rfl
@[simp] theorem setStaging_engines (x : Staging) : (s.setStaging x).engines = s.engines := rfl
@[simp] theorem setStaging_audit (x : Staging) : (s.setStaging x).audit = s.audit := rfl
@[simp] theorem setStaging_records (x : Staging) : (s.setStaging x).records = s.records := rfl
@[simp] theorem setStaging_checks (x : Staging) : (s.setStaging x).checks = s.checks := rfl
@[simp] theorem setStaging_quiet (x : Staging) : (s.setStaging x).quiet = s.quiet := rfl
@[simp] theorem setStaging_quietEndDue (x : Staging) : (s.setStaging x).quietEndDue = s.quietEndDue := rfl
@[simp] theorem setStaging_verdicts (x : Staging) : (s.setStaging x).verdicts = s.verdicts := rfl
@[simp] theorem setStaging_alert (x : Staging) : (s.setStaging x).alert = s.alert := rfl
@[simp] theorem setStaging_planStore (x : Staging) : (s.setStaging x).planStore = { s.planStore with staging := x } := rfl
@[simp] theorem setStaging_tests (x : Staging) : (s.setStaging x).tests = s.tests := rfl
@[simp] theorem setStaging_sources (x : Staging) : (s.setStaging x).sources = s.sources := rfl
@[simp] theorem setStaging_patterns (x : Staging) : (s.setStaging x).patterns = s.patterns := rfl
@[simp] theorem setStaging_ports (x : Staging) : (s.setStaging x).ports = s.ports := rfl
@[simp] theorem setStaging_inService (x : Staging) : (s.setStaging x).inService = s.inService := rfl
@[simp] theorem setStaging_stopInput (x : Staging) : (s.setStaging x).stopInput = s.stopInput := rfl
@[simp] theorem setStaging_wires (x : Staging) : (s.setStaging x).wires = s.wires := rfl
@[simp] theorem setStaging_choices (x : Staging) : (s.setStaging x).choices = s.choices := rfl
@[simp] theorem setStaging_pending (x : Staging) : (s.setStaging x).pending = s.pending := rfl
@[simp] theorem setStaging_plan (x : Staging) : (s.setStaging x).plan = s.plan := rfl

/-! ### dequeue -/

@[simp] theorem dequeue_now (c : Channel) : (s.dequeue c).now = s.now := rfl
@[simp] theorem dequeue_clock (c : Channel) : (s.dequeue c).clock = s.clock := rfl
@[simp] theorem dequeue_trackers (c : Channel) : (s.dequeue c).trackers = s.trackers := rfl
@[simp] theorem dequeue_converters (c : Channel) : (s.dequeue c).converters = s.converters := rfl
@[simp] theorem dequeue_buffers (c : Channel) : (s.dequeue c).buffers = s.buffers := rfl
@[simp] theorem dequeue_queue (c : Channel) : (s.dequeue c).queue = s.queue.filter (fun d => d != c) := rfl
@[simp] theorem dequeue_lastJoin (c : Channel) : (s.dequeue c).lastJoin = s.lastJoin := rfl
@[simp] theorem dequeue_engines (c : Channel) : (s.dequeue c).engines = s.engines := rfl
@[simp] theorem dequeue_audit (c : Channel) : (s.dequeue c).audit = s.audit := rfl
@[simp] theorem dequeue_records (c : Channel) : (s.dequeue c).records = s.records := rfl
@[simp] theorem dequeue_checks (c : Channel) : (s.dequeue c).checks = s.checks := rfl
@[simp] theorem dequeue_quiet (c : Channel) : (s.dequeue c).quiet = s.quiet := rfl
@[simp] theorem dequeue_quietEndDue (c : Channel) : (s.dequeue c).quietEndDue = s.quietEndDue := rfl
@[simp] theorem dequeue_verdicts (c : Channel) : (s.dequeue c).verdicts = s.verdicts := rfl
@[simp] theorem dequeue_alert (c : Channel) : (s.dequeue c).alert = s.alert := rfl
@[simp] theorem dequeue_planStore (c : Channel) : (s.dequeue c).planStore = s.planStore := rfl
@[simp] theorem dequeue_tests (c : Channel) : (s.dequeue c).tests = s.tests := rfl
@[simp] theorem dequeue_sources (c : Channel) : (s.dequeue c).sources = s.sources := rfl
@[simp] theorem dequeue_patterns (c : Channel) : (s.dequeue c).patterns = s.patterns := rfl
@[simp] theorem dequeue_ports (c : Channel) : (s.dequeue c).ports = s.ports := rfl
@[simp] theorem dequeue_inService (c : Channel) : (s.dequeue c).inService = s.inService := rfl
@[simp] theorem dequeue_stopInput (c : Channel) : (s.dequeue c).stopInput = s.stopInput := rfl
@[simp] theorem dequeue_wires (c : Channel) : (s.dequeue c).wires = s.wires := rfl
@[simp] theorem dequeue_choices (c : Channel) : (s.dequeue c).choices = s.choices := rfl
@[simp] theorem dequeue_pending (c : Channel) : (s.dequeue c).pending = s.pending := rfl
@[simp] theorem dequeue_plan (c : Channel) : (s.dequeue c).plan = s.plan := rfl

/-! ### Raising a notice -/

@[simp] theorem raise_now (n : NoticeBody) : (s.raise n).now = s.now := rfl
@[simp] theorem raise_clock (n : NoticeBody) : (s.raise n).clock = s.clock := rfl
@[simp] theorem raise_trackers (n : NoticeBody) : (s.raise n).trackers = s.trackers := rfl
@[simp] theorem raise_converters (n : NoticeBody) : (s.raise n).converters = s.converters := rfl
@[simp] theorem raise_buffers (n : NoticeBody) : (s.raise n).buffers = s.buffers := rfl
@[simp] theorem raise_queue (n : NoticeBody) : (s.raise n).queue = s.queue := rfl
@[simp] theorem raise_lastJoin (n : NoticeBody) : (s.raise n).lastJoin = s.lastJoin := rfl
@[simp] theorem raise_engines (n : NoticeBody) : (s.raise n).engines = s.engines := rfl
@[simp] theorem raise_audit (n : NoticeBody) : (s.raise n).audit = s.audit := rfl
@[simp] theorem raise_records (n : NoticeBody) : (s.raise n).records = s.records := rfl
@[simp] theorem raise_checks (n : NoticeBody) : (s.raise n).checks = s.checks := rfl
@[simp] theorem raise_quiet (n : NoticeBody) : (s.raise n).quiet = s.quiet := rfl
@[simp] theorem raise_quietEndDue (n : NoticeBody) : (s.raise n).quietEndDue = s.quietEndDue := rfl
@[simp] theorem raise_verdicts (n : NoticeBody) : (s.raise n).verdicts = s.verdicts := rfl
@[simp] theorem raise_alert (n : NoticeBody) : (s.raise n).alert = s.alert := rfl
@[simp] theorem raise_planStore (n : NoticeBody) : (s.raise n).planStore = s.planStore := rfl
@[simp] theorem raise_tests (n : NoticeBody) : (s.raise n).tests = s.tests := rfl
@[simp] theorem raise_sources (n : NoticeBody) : (s.raise n).sources = s.sources := rfl
@[simp] theorem raise_patterns (n : NoticeBody) : (s.raise n).patterns = s.patterns := rfl
@[simp] theorem raise_inService (n : NoticeBody) : (s.raise n).inService = s.inService := rfl
@[simp] theorem raise_stopInput (n : NoticeBody) : (s.raise n).stopInput = s.stopInput := rfl
@[simp] theorem raise_wires (n : NoticeBody) : (s.raise n).wires = s.wires := rfl
@[simp] theorem raise_choices (n : NoticeBody) : (s.raise n).choices = s.choices := rfl
@[simp] theorem raise_pending (n : NoticeBody) : (s.raise n).pending = s.pending := rfl
@[simp] theorem raise_plan (n : NoticeBody) : (s.raise n).plan = s.plan := rfl

/-! ### One value for each of several parts -/

section
variable {α : Type}

@[simp] theorem perRef_get_set_self (p : PerRef α) (r : Ref) (x : α) : (p.set r x).get r = x := by cases r <;> rfl

@[simp] theorem perRef_get_set_ne (p : PerRef α) {r r' : Ref} (x : α) (h : r' ≠ r) : (p.set r x).get r' = p.get r' := by
  cases r <;> cases r' <;> first | rfl | exact absurd rfl h

@[simp] theorem perRef_set_set (p : PerRef α) (r : Ref) (x y : α) : (p.set r x).set r y = p.set r y := by
  cases r <;> rfl

@[simp] theorem perRef_set_get (p : PerRef α) (r : Ref) : p.set r (p.get r) = p := by cases r <;> rfl

@[simp] theorem perEngine_get_set_self (p : PerEngine α) (e : Engine) (x : α) : (p.set e x).get e = x := by
  cases e <;> rfl

@[simp] theorem perEngine_get_set_ne (p : PerEngine α) {e e' : Engine} (x : α) (h : e' ≠ e) :
    (p.set e x).get e' = p.get e' := by
  cases e <;> cases e' <;> first | rfl | exact absurd rfl h

@[simp] theorem perEngine_set_set (p : PerEngine α) (e : Engine) (x y : α) : (p.set e x).set e y = p.set e y := by
  cases e <;> rfl

@[simp] theorem perLink_get_set_self (p : PerLink α) (l : Link) (x : α) : (p.set l x).get l = x := by cases l <;> rfl

@[simp] theorem perLink_get_set_ne (p : PerLink α) {l l' : Link} (x : α) (h : l' ≠ l) :
    (p.set l x).get l' = p.get l' := by
  cases l <;> cases l' <;> first | rfl | exact absurd rfl h

@[simp] theorem perLink_set_set (p : PerLink α) (l : Link) (x y : α) : (p.set l x).set l y = p.set l y := by
  cases l <;> rfl

@[simp] theorem perLink_set_get (p : PerLink α) (l : Link) : p.set l (p.get l) = p := by cases l <;> rfl

end

@[simp] theorem setPort_setPort (l : Link) (p q : Port) : (s.setPort l p).setPort l q = s.setPort l q := by
  simp [State.setPort]

@[simp] theorem setPort_get (l : Link) : s.setPort l (s.ports.get l) = s := by simp [State.setPort]

/-- The port of link `l'` once a notice has been raised. -/
@[simp] theorem raise_ports_get (n : NoticeBody) (l : Link) :
    (s.raise n).ports.get l = (s.ports.get l).offer { stamp := s.clock, body := n } := by
  cases l <;> rfl

end Sys2Proof.Machine
end

