-- ==== Sys2Proof/Laws/Changes.lean ====
section
/-! SUPPORT. For each operation over the State, the parts it can change: one lemma each, put together from the lemmas of
the operations it is made of. -/

namespace Sys2Proof.Machine

variable {s t u : State}

/-! ### Putting changes together -/

theorem changes_refl (A : List Part) (s : State) : State.ChangesOnly A s s := fun p _ => by cases p <;> rfl

theorem same_trans (p : Part) (h : p.Same s t) (k : p.Same t u) : p.Same s u := by
  cases p <;> exact Eq.trans k h

theorem changes_mono {A B : List Part} (h : State.ChangesOnly A s t) (hAB : ∀ p ∈ A, p ∈ B) :
    State.ChangesOnly B s t := fun p hp => h p (fun hA => hp (hAB p hA))

theorem changes_trans {A : List Part} (h : State.ChangesOnly A s t) (k : State.ChangesOnly A t u) :
    State.ChangesOnly A s u := fun p hp => same_trans p (h p hp) (k p hp)

/-- Two changes one after the other, each within `C`. -/
theorem changes_comp {A B : List Part} (C : List Part) (h : State.ChangesOnly A s t) (k : State.ChangesOnly B t u)
    (hA : ∀ p ∈ A, p ∈ C) (hB : ∀ p ∈ B, p ∈ C) : State.ChangesOnly C s u :=
  changes_trans (changes_mono h hA) (changes_mono k hB)

theorem changes_foldl {α : Type} {A : List Part} (f : State → α → State)
    (h : ∀ s x, State.ChangesOnly A s (f s x)) (xs : List α) (s : State) :
    State.ChangesOnly A s (xs.foldl f s) := by
  induction xs generalizing s with
  | nil => exact changes_refl A s
  | cons x xs ih => exact changes_trans (h s x) (ih (f s x))

/-! ### One field replaced -/

theorem with_converters (s : State) (x) : State.ChangesOnly [.converters] s { s with converters := x } :=
  fun p hp => by cases p <;> first | exact (hp (by decide)).elim | exact rfl

theorem with_buffers (s : State) (x) : State.ChangesOnly [.buffers] s { s with buffers := x } :=
  fun p hp => by cases p <;> first | exact (hp (by decide)).elim | exact rfl

theorem with_quiet (s : State) (x) : State.ChangesOnly [.quiet] s { s with quiet := x } :=
  fun p hp => by cases p <;> first | exact (hp (by decide)).elim | exact rfl

theorem with_audit (s : State) (x) : State.ChangesOnly [.audit] s { s with audit := x } :=
  fun p hp => by cases p <;> first | exact (hp (by decide)).elim | exact rfl

theorem with_checks (s : State) (x) : State.ChangesOnly [.checks] s { s with checks := x } :=
  fun p hp => by cases p <;> first | exact (hp (by decide)).elim | exact rfl

theorem with_verdicts (s : State) (x) : State.ChangesOnly [.verdicts] s { s with verdicts := x } :=
  fun p hp => by cases p <;> first | exact (hp (by decide)).elim | exact rfl

theorem with_alert (s : State) (x) : State.ChangesOnly [.alert] s { s with alert := x } :=
  fun p hp => by cases p <;> first | exact (hp (by decide)).elim | exact rfl

theorem with_planStore (s : State) (x) : State.ChangesOnly [.planStore] s { s with planStore := x } :=
  fun p hp => by cases p <;> first | exact (hp (by decide)).elim | exact rfl

theorem with_sources (s : State) (x) : State.ChangesOnly [.sources] s { s with sources := x } :=
  fun p hp => by cases p <;> first | exact (hp (by decide)).elim | exact rfl

theorem with_patterns (s : State) (x) : State.ChangesOnly [.patterns] s { s with patterns := x } :=
  fun p hp => by cases p <;> first | exact (hp (by decide)).elim | exact rfl

theorem with_ports (s : State) (x) : State.ChangesOnly [.ports] s { s with ports := x } :=
  fun p hp => by cases p <;> first | exact (hp (by decide)).elim | exact rfl

theorem with_inService (s : State) (x) : State.ChangesOnly [.inService] s { s with inService := x } :=
  fun p hp => by cases p <;> first | exact (hp (by decide)).elim | exact rfl

theorem with_stopInput (s : State) (x) : State.ChangesOnly [.stopInput] s { s with stopInput := x } :=
  fun p hp => by cases p <;> first | exact (hp (by decide)).elim | exact rfl

theorem with_choices (s : State) (x) : State.ChangesOnly [.choices] s { s with choices := x } :=
  fun p hp => by cases p <;> first | exact (hp (by decide)).elim | exact rfl

/-! ### Setters and notices -/

theorem setTracker_changes (s : State) (r t) : State.ChangesOnly [.trackers] s (s.setTracker r t) :=
  fun p hp => by cases p <;> first | exact (hp (by decide)).elim | exact rfl

theorem setConverter_changes (s : State) (c v) : State.ChangesOnly [.converters] s (s.setConverter c v) :=
  fun p hp => by cases p <;> first | exact (hp (by decide)).elim | exact rfl

theorem setBuffers_changes (s : State) (c b) : State.ChangesOnly [.buffers] s (s.setBuffers c b) :=
  fun p hp => by cases p <;> first | exact (hp (by decide)).elim | exact rfl

theorem setEngine_changes (s : State) (e x) : State.ChangesOnly [.engines] s (s.setEngine e x) :=
  fun p hp => by cases p <;> first | exact (hp (by decide)).elim | exact rfl

theorem setKept_changes (s : State) (c k) : State.ChangesOnly [.audit] s (s.setKept c k) :=
  fun p hp => by cases p <;> first | exact (hp (by decide)).elim | exact rfl

theorem setRecord_changes (s : State) (c r) : State.ChangesOnly [.records] s (s.setRecord c r) :=
  fun p hp => by cases p <;> first | exact (hp (by decide)).elim | exact rfl

theorem setTest_changes (s : State) (g t) : State.ChangesOnly [.tests] s (s.setTest g t) :=
  fun p hp => by cases p <;> first | exact (hp (by decide)).elim | exact rfl

theorem setSource_changes (s : State) (c x) : State.ChangesOnly [.sources] s (s.setSource c x) :=
  fun p hp => by cases p <;> first | exact (hp (by decide)).elim | exact rfl

theorem setPort_changes (s : State) (l q) : State.ChangesOnly [.ports] s (s.setPort l q) :=
  fun p hp => by cases p <;> first | exact (hp (by decide)).elim | exact rfl

theorem setStaging_changes (s : State) (x) : State.ChangesOnly [.planStore] s (s.setStaging x) :=
  fun p hp => by cases p <;> first | exact (hp (by decide)).elim | exact rfl

theorem dequeue_changes (s : State) (c) : State.ChangesOnly [.queue] s (s.dequeue c) :=
  fun p hp => by cases p <;> first | exact (hp (by decide)).elim | exact rfl

theorem raise_changes (s : State) (n) : State.ChangesOnly [.ports] s (s.raise n) :=
  fun p hp => by cases p <;> first | exact (hp (by decide)).elim | exact rfl

theorem raiseAll_changes (s : State) (ns) : State.ChangesOnly [.ports] s (s.raiseAll ns) :=
  changes_foldl State.raise raise_changes ns s

/-! ### Settling, verdicts, checks -/

theorem release_changes (s : State) (c j) : State.ChangesOnly [.buffers, .queue] s (s.release c j) := by
  unfold State.release
  dsimp only
  repeat' split
  · exact changes_comp _ (setBuffers_changes s c _) (dequeue_changes _ c) (by decide) (by decide)
  all_goals exact changes_refl _ _

/-- The parts the settling of a frame changes. -/
abbrev settleParts : List Part := [.buffers, .queue, .ports]

theorem settle_changes (s : State) (c j) : State.ChangesOnly settleParts s (s.settle c j) :=
  changes_comp _ (release_changes s c j) (with_ports _ _) (by decide) (by decide)

theorem commitVerdicts_changes (s : State) (new cyc) :
    State.ChangesOnly [.verdicts, .ports] s (s.commitVerdicts new cyc) :=
  changes_comp _ (with_verdicts s _) (raiseAll_changes _ _)
    (by decide) (by decide)

theorem setAlert_changes (s : State) : State.ChangesOnly [.alert] s s.setAlert := by
  unfold State.setAlert; exact with_alert s _

theorem reasonEvent_changes (s : State) (f) : State.ChangesOnly [.verdicts, .ports] s (s.reasonEvent f) :=
  commitVerdicts_changes s _ _

theorem restorePermit_changes (s : State) (l g) :
    State.ChangesOnly [.verdicts, .ports] s (s.restorePermit l g).1 := by
  unfold State.restorePermit
  dsimp only
  repeat' split
  all_goals first | exact changes_refl _ _ | exact reasonEvent_changes _ _

theorem expireRestore_changes (s : State) (g) : State.ChangesOnly [.verdicts, .ports] s (s.expireRestore g) :=
  reasonEvent_changes s _

theorem changeStop_changes (s : State) (b) :
    State.ChangesOnly [.verdicts, .ports, .stopInput] s (s.changeStop b) :=
  changes_comp _ (with_stopInput s _) (reasonEvent_changes _ _)
    (by decide) (by decide)

theorem commitChecks_changes (s : State) (new cyc) :
    State.ChangesOnly [.checks, .ports] s (s.commitChecks new cyc) :=
  changes_comp _ (with_checks s _) (raiseAll_changes _ _)
    (by decide) (by decide)

/-- The parts the evaluator and the verdict unit change at an event. -/
abbrev verdictParts : List Part := [.checks, .verdicts, .alert, .ports]

theorem checkEvent_changes (s : State) (new forced change cc gc) :
    State.ChangesOnly verdictParts s (s.checkEvent new forced change cc gc) := by
  unfold State.checkEvent
  dsimp only
  have h := changes_comp verdictParts (commitChecks_changes s new cc)
    (commitVerdicts_changes (s.commitChecks new cc)
      (fun g => change g (if forced g || s.touches new g then (s.commitChecks new cc).recompute g
        (s.commitChecks new cc).verdicts[g] else (s.commitChecks new cc).verdicts[g])) gc)
    (by decide) (by decide)
  split
  · exact changes_trans h (changes_mono (setAlert_changes _) (by decide))
  · exact h

theorem causeEvent_changes (s : State) (new forced change) :
    State.ChangesOnly verdictParts s (s.causeEvent new forced change) := checkEvent_changes s _ _ _ _ _

theorem examineEvent_changes (s : State) (sel change) :
    State.ChangesOnly verdictParts s (s.examineEvent sel change) := causeEvent_changes s _ _ _

theorem evaluationEvent_changes (s : State) (c rec) :
    State.ChangesOnly verdictParts s (s.evaluationEvent c rec) := checkEvent_changes s _ _ _ _ _

theorem clearLatch_changes (s : State) (i) : State.ChangesOnly verdictParts s (s.clearLatch i) :=
  causeEvent_changes s _ _ _

theorem loadQuiet_changes (s : State) (g) : State.ChangesOnly [.quiet, .quietEndDue] s (s.loadQuiet g) :=
  fun p hp => by cases p <;> first | exact (hp (by decide)).elim | exact rfl

theorem countQuiet_changes (s : State) (r) : State.ChangesOnly [.quiet, .quietEndDue] s (s.countQuiet r) :=
  fun p hp => by cases p <;> first | exact (hp (by decide)).elim | exact rfl

theorem startQuiet_changes (s : State) (g) :
    State.ChangesOnly (verdictParts ++ [.quiet, .quietEndDue]) s (s.startQuiet g) :=
  changes_comp _ (loadQuiet_changes s g) (examineEvent_changes _ _ _) (by decide) (by decide)

theorem endQuiet_changes (s : State) (g) :
    State.ChangesOnly (verdictParts ++ [.quiet, .quietEndDue]) s (s.endQuiet g) :=
  changes_comp (A := [.quiet, .quietEndDue]) (t := { s with quiet := _, quietEndDue := _ }) _
    (fun p hp => by cases p <;> first | exact (hp (by decide)).elim | exact rfl) (examineEvent_changes _ _ _)
    (by decide) (by decide)

theorem breakerOpens_changes (s : State) (g) :
    State.ChangesOnly (verdictParts ++ [.inService]) s (s.breakerOpens g) :=
  changes_comp _ (with_inService s _) (examineEvent_changes _ _ _)
    (by decide) (by decide)

/-! ### The result table -/

theorem dropResult_changes (s : State) (res) : State.ChangesOnly settleParts s (s.dropResult res) :=
  settle_changes s _ _

theorem storeResult_changes (s : State) (res) :
    State.ChangesOnly (settleParts ++ [.records]) s (s.storeResult res) :=
  changes_comp _ (setRecord_changes s _ _) (settle_changes _ _ _) (by decide) (by decide)

/-- The parts a result that reaches the result table changes. -/
abbrev arriveParts : List Part := verdictParts ++ [.records, .buffers, .queue]

theorem arrive_changes (s : State) (res) : State.ChangesOnly arriveParts s (s.arrive res) := by
  unfold State.arrive
  split
  · exact changes_mono (dropResult_changes s res) (by decide)
  · split
    · exact changes_mono (dropResult_changes s res) (by decide)
    · split
      · exact changes_mono (storeResult_changes s res) (by decide)
      · exact changes_comp _ (storeResult_changes s res) (evaluationEvent_changes _ _ _) (by decide) (by decide)

/-! ### Engines -/

theorem putInHand_changes (s : State) (e f role) : State.ChangesOnly [.engines] s (s.putInHand e f role) :=
  setEngine_changes s _ _

/-- The parts a take changes. -/
abbrev takeParts : List Part := [.buffers, .queue, .engines, .audit]

theorem takeFrame_changes (s : State) (e c f) : State.ChangesOnly takeParts s (s.takeFrame e c f) := by
  unfold State.takeFrame
  dsimp only
  have hb : ∀ (s : State) (b : Buffers), State.ChangesOnly takeParts s (s.setBuffers c b) := fun s b =>
    changes_mono (setBuffers_changes s c b) (by decide)
  have hq : ∀ s : State, State.ChangesOnly takeParts s (s.dequeue c) := fun s =>
    changes_mono (dequeue_changes s c) (by decide)
  have hh : ∀ (s : State) (f : Frame) (r : AuditRole), State.ChangesOnly takeParts s (s.putInHand e f r) :=
    fun s f r => changes_mono (putInHand_changes s e f r) (by decide)
  have ha : ∀ (s : State) (a : AuditUnit), State.ChangesOnly takeParts s { s with audit := a } :=
    fun s a => changes_mono (with_audit s a) (by decide)
  split
  · exact changes_trans (changes_trans (hb _ _) (hq _)) (hh _ _ _)
  · split
    · exact changes_trans (changes_trans (changes_trans (ha _ _) (hb _ _)) (hq _)) (hh _ _ _)
    · exact changes_trans (changes_trans (ha _ _) (hb _ _)) (hh _ _ _)
    · exact changes_trans (changes_trans (changes_trans (ha _ _) (hb _ _)) (hq _)) (hh _ _ _)

theorem engineTake_changes (s : State) (e) : State.ChangesOnly takeParts s (s.engineTake e) := by
  unfold State.engineTake
  dsimp only
  repeat' split
  all_goals first | exact changes_refl _ _ | exact takeFrame_changes _ _ _ _

theorem enginesTake_changes (s : State) : State.ChangesOnly takeParts s s.enginesTake := by
  unfold State.enginesTake
  split
  · exact changes_refl _ _
  · exact changes_trans (engineTake_changes s .e1) (engineTake_changes _ .e2)

theorem afterJoins_changes (s : State) : State.ChangesOnly takeParts s s.afterJoins := by
  unfold State.afterJoins
  split
  · exact enginesTake_changes s
  · exact changes_refl _ _

theorem mismatch_changes (s : State) (res q v1 v2) :
    State.ChangesOnly (settleParts ++ [.audit]) s (s.mismatch res q v1 v2) := by
  unfold State.mismatch
  dsimp only
  refine changes_comp _ (settle_changes s res.channel res.join)
    (changes_comp [.audit, .ports] (with_audit _ _) (raise_changes _ _)
      (by decide) (by decide)) (by decide) (by decide)

theorem compare_changes (s : State) (k e res) :
    State.ChangesOnly (arriveParts ++ [.audit]) s (s.compare k e res) := by
  unfold State.compare
  dsimp only
  split
  · exact changes_mono (mismatch_changes _ _ _ _ _) (by decide)
  · exact changes_mono (arrive_changes _ _) (by decide)

theorem raiseEngine_changes (s : State) (e a b n) : State.ChangesOnly [.ports] s (s.raiseEngine e a b n) :=
  raise_changes s _

theorem routeResult_changes (s : State) (e role res) :
    State.ChangesOnly (arriveParts ++ [.audit]) s (s.routeResult e role res) := by
  unfold State.routeResult
  split
  · exact changes_mono (arrive_changes _ _) (by decide)
  · exact changes_mono (arrive_changes _ _) (by decide)
  · exact changes_mono (dropResult_changes _ _) (by decide)
  · split
    · exact changes_mono (setKept_changes _ _ _) (by decide)
    · exact changes_comp _ (setKept_changes s _ _) (compare_changes _ _ _ _) (by decide) (by decide)

theorem afterCompletion_changes (s : State) (e) :
    State.ChangesOnly (takeParts ++ [.ports]) s (s.afterCompletion e) := by
  unfold State.afterCompletion
  split
  · exact changes_comp _ (setEngine_changes s _ _) (raiseEngine_changes _ _ _ _ _) (by decide) (by decide)
  · exact changes_mono (enginesTake_changes s) (by decide)

/-- The parts a completed transform changes. -/
abbrev completionParts : List Part := arriveParts ++ [.audit, .engines]

theorem completeTransform_changes (s : State) (e h w) :
    State.ChangesOnly completionParts s (s.completeTransform e h w) :=
  changes_trans
    (changes_comp completionParts (setEngine_changes s e _) (routeResult_changes _ e h.role _) (by decide) (by decide))
    (changes_mono (afterCompletion_changes _ e) (by decide))

theorem setRole_changes (s : State) (e c r) : State.ChangesOnly [.engines] s (s.setRole e c r) := by
  unfold State.setRole
  dsimp only
  repeat' split
  all_goals first | exact changes_refl _ _ | exact setEngine_changes _ _ _

theorem abandonAudit_changes (s : State) (e c) : State.ChangesOnly completionParts s (s.abandonAudit e c) := by
  unfold State.abandonAudit
  dsimp only
  split
  · exact changes_trans
      (changes_comp completionParts (dequeue_changes s c) (setKept_changes _ c none) (by decide) (by decide))
      (changes_mono (arrive_changes _ _) (by decide))
  · exact changes_comp _ (dequeue_changes s c) (setRole_changes _ _ _ _) (by decide) (by decide)

theorem serviceOut_changes (s : State) (e) : State.ChangesOnly completionParts s (s.serviceOut e).1 := by
  unfold State.serviceOut
  dsimp only
  split
  · exact changes_refl _ _
  · split
    · exact changes_refl _ _
    · exact changes_trans
        (changes_comp completionParts (setEngine_changes s e _) (raiseEngine_changes _ _ _ _ _) (by decide) (by decide))
        (changes_foldl _ (fun s c => abandonAudit_changes s e c) _ _)

theorem serviceIn_changes (s : State) (e) :
    State.ChangesOnly (takeParts ++ [.ports]) s (s.serviceIn e) := by
  unfold State.serviceIn
  dsimp only
  have h := fun (x : EngineSlot) a b n =>
    changes_comp (takeParts ++ [.ports]) (setEngine_changes s e x) (raiseEngine_changes (s.setEngine e x) e a b n)
      (by decide) (by decide)
  split
  · exact changes_refl _ _
  · exact changes_trans (h _ _ _ _) (changes_mono (enginesTake_changes _) (by decide))
  · exact h _ _ _ _

theorem clearFaults_changes (s : State) : State.ChangesOnly [.audit] s s.clearFaults := by
  unfold State.clearFaults; exact with_audit s _

/-! ### Frames -/

theorem joinQueue_changes (s : State) (f) :
    State.ChangesOnly [.buffers, .queue, .lastJoin] s (s.joinQueue f) :=
  fun p hp => by cases p <;> first | exact (hp (by decide)).elim | exact rfl

/-- The parts the close of a frame changes. -/
abbrev closeParts : List Part := [.buffers, .queue, .lastJoin, .ports]

theorem closeFrame_changes (s : State) (f) : State.ChangesOnly closeParts s (s.closeFrame f) := by
  unfold State.closeFrame
  dsimp only
  split
  · exact changes_comp _ (setBuffers_changes s _ _) (joinQueue_changes _ _) (by decide) (by decide)
  · split
    · exact changes_mono (setBuffers_changes s _ _) (by decide)
    · exact changes_trans
        (changes_comp closeParts (setBuffers_changes s _ _)
          (changes_comp settleParts (dequeue_changes _ _) (settle_changes _ _ _) (by decide) (by decide))
          (by decide) (by decide))
        (changes_mono (joinQueue_changes _ _) (by decide))

theorem endFrame_changes (s : State) (r o c) : State.ChangesOnly closeParts s (s.endFrame r o c) := by
  unfold State.endFrame
  dsimp only
  have hb : ∀ b, State.ChangesOnly closeParts s (s.setBuffers c b) := fun b =>
    changes_mono (setBuffers_changes s c b) (by decide)
  repeat' split
  all_goals first
    | exact changes_refl _ _
    | exact changes_trans (hb _) (closeFrame_changes _ _)
    | exact hb _

theorem endCycleFrames_changes (s : State) (r o) : State.ChangesOnly closeParts s (s.endCycleFrames r o) :=
  changes_foldl _ (fun s c => endFrame_changes s r o c) _ s

theorem startFrames_changes (s : State) (r c) : State.ChangesOnly [.buffers] s (s.startFrames r c) := by
  unfold State.startFrames; exact with_buffers s _

theorem armConverters_changes (s : State) (r) : State.ChangesOnly [.converters] s (s.armConverters r) := by
  unfold State.armConverters; exact with_converters s _

theorem issueStrobe_changes (s : State) (r k) : State.ChangesOnly [.converters] s (s.issueStrobe r k) := by
  unfold State.issueStrobe; exact with_converters s _

theorem writeSample_changes (s : State) (c v x) : State.ChangesOnly closeParts s (s.writeSample c v x) := by
  unfold State.writeSample
  dsimp only
  have hb : ∀ b, State.ChangesOnly closeParts s (s.setBuffers c b) := fun b =>
    changes_mono (setBuffers_changes s c b) (by decide)
  repeat' split
  all_goals first
    | exact changes_refl _ _
    | exact changes_trans (hb _) (closeFrame_changes _ _)
    | exact hb _

theorem arriveSample_changes (s : State) (c v a) :
    State.ChangesOnly (closeParts ++ [.converters]) s (s.arriveSample c v a) := by
  unfold State.arriveSample
  dsimp only
  have h1 : ∀ x, State.ChangesOnly (closeParts ++ [.converters]) s (s.setConverter c x) := fun x =>
    changes_mono (setConverter_changes s c x) (by decide)
  split
  · exact changes_trans (h1 _) (changes_mono (writeSample_changes _ c v _) (by decide))
  · exact h1 _

theorem emptyGroupFills_changes (s : State) (g) : State.ChangesOnly [.buffers] s (s.emptyGroupFills g) := by
  unfold State.emptyGroupFills; exact with_buffers s _

/-- The parts the removal of a channel's frames changes. -/
abbrev removeParts : List Part := [.buffers, .queue, .ports, .audit, .engines]

theorem removeBuffered_changes (s : State) (c) : State.ChangesOnly removeParts s (s.removeBuffered c) := by
  unfold State.removeBuffered
  dsimp only
  have hb : ∀ b, State.ChangesOnly removeParts s (s.setBuffers c b) := fun b =>
    changes_mono (setBuffers_changes s c b) (by decide)
  have hq : ∀ s : State, State.ChangesOnly removeParts s (s.dequeue c) := fun s =>
    changes_mono (dequeue_changes s c) (by decide)
  have hs : ∀ (s : State) c j, State.ChangesOnly removeParts s (s.settle c j) := fun s c j =>
    changes_mono (settle_changes s c j) (by decide)
  have hk : ∀ (s : State) k, State.ChangesOnly removeParts s (s.setKept c k) := fun s k =>
    changes_mono (setKept_changes s c k) (by decide)
  have hr : ∀ (s : State) e r, State.ChangesOnly removeParts s (s.setRole e c r) := fun s e r =>
    changes_mono (setRole_changes s e c r) (by decide)
  repeat' split
  all_goals first
    | exact changes_refl _ _
    | exact changes_trans (changes_trans (hb _) (hq _)) (hs _ _ _)
    | exact changes_trans (changes_trans (changes_trans (hb _) (hq _)) (hk _ _)) (hs _ _ _)
    | exact changes_trans (changes_trans (changes_trans (hb _) (hq _)) (hr _ _ _)) (hr _ _ _)
    | exact hb _

theorem emptyChannel_changes (s : State) (c) :
    State.ChangesOnly (removeParts ++ [.converters, .records]) s (s.emptyChannel c) :=
  changes_trans
    (changes_trans
      (changes_comp (removeParts ++ [.converters, .records]) (setBuffers_changes s c _) (setConverter_changes _ c _)
        (by decide) (by decide))
      (changes_mono (removeBuffered_changes _ c) (by decide)))
    (changes_mono (setRecord_changes _ c none) (by decide))

/-! ### Trackers -/

theorem sampleInput_changes (s : State) (r b) : State.ChangesOnly [.trackers] s (s.sampleInput r b) :=
  setTracker_changes s _ _

/-- The parts the start of a cycle changes. -/
abbrev cycleStartParts : List Part := [.trackers, .buffers, .quiet, .quietEndDue, .converters]

theorem startCycle_changes (s : State) (r st) : State.ChangesOnly cycleStartParts s (s.startCycle r st) := by
  unfold State.startCycle
  dsimp only
  exact changes_trans (changes_trans (changes_trans
    (changes_comp cycleStartParts (setTracker_changes s r _) (startFrames_changes _ r _) (by decide) (by decide))
    (changes_mono (countQuiet_changes _ r) (by decide)))
    (changes_mono (armConverters_changes _ r) (by decide)))
    (changes_mono (issueStrobe_changes _ r 0) (by decide))

theorem raiseSync_changes (s : State) (r a b) : State.ChangesOnly [.ports] s (s.raiseSync r a b) :=
  raise_changes s _

theorem lockEvent_changes (s : State) (r) : State.ChangesOnly verdictParts s (s.lockEvent r) :=
  examineEvent_changes s _ _

theorem enterLocked_changes (s : State) (r e n) : State.ChangesOnly cycleStartParts s (s.enterLocked r e n) :=
  changes_comp _ (setTracker_changes s r _) (startCycle_changes _ r e) (by decide) (by decide)

/-- The parts an event of a tracker changes. -/
abbrev trackerParts : List Part := cycleStartParts ++ verdictParts ++ [.queue, .lastJoin]

theorem lock_changes (s : State) (r e n) : State.ChangesOnly trackerParts s (s.lock r e n) :=
  changes_trans
    (changes_comp trackerParts (enterLocked_changes s r e n) (raiseSync_changes _ r _ _) (by decide) (by decide))
    (changes_mono (lockEvent_changes _ r) (by decide))

theorem lockedEdge_changes (s : State) (r e n) : State.ChangesOnly trackerParts s (s.lockedEdge r e n) :=
  changes_trans
    (changes_comp trackerParts (endCycleFrames_changes s r _) (setTracker_changes _ r _) (by decide) (by decide))
    (changes_mono (startCycle_changes _ r e) (by decide))

theorem relock_changes (s : State) (r e n) : State.ChangesOnly trackerParts s (s.relock r e n) :=
  changes_trans
    (changes_comp trackerParts (endCycleFrames_changes s r _) (enterLocked_changes _ r e n) (by decide) (by decide))
    (changes_mono (raiseSync_changes _ r _ _) (by decide))

theorem acceptEdge_changes (s : State) (r e) : State.ChangesOnly trackerParts s (s.acceptEdge r e) := by
  unfold State.acceptEdge
  dsimp only
  have ht : ∀ x, State.ChangesOnly trackerParts s (s.setTracker r x) := fun x =>
    changes_mono (setTracker_changes s r x) (by decide)
  split
  · exact ht _
  · exact ht _
  · exact ht _
  · split
    · exact changes_trans (ht _) (lock_changes _ _ _ _)
    · exact changes_trans (ht _) (lockedEdge_changes _ _ _ _)
    · exact changes_trans (ht _) (relock_changes _ _ _ _)

theorem expireDeadline_changes (s : State) (r) : State.ChangesOnly trackerParts s (s.expireDeadline r) := by
  unfold State.expireDeadline
  dsimp only
  exact changes_trans (changes_trans
    (changes_comp trackerParts (endCycleFrames_changes s r _) (setTracker_changes _ r _) (by decide) (by decide))
    (changes_mono (startCycle_changes _ r _) (by decide)))
    (changes_mono (raiseSync_changes _ r _ _) (by decide))

theorem loseReference_changes (s : State) (r) : State.ChangesOnly trackerParts s (s.loseReference r) :=
  changes_trans
    (changes_comp trackerParts (setTracker_changes s r _) (raiseSync_changes _ r _ _) (by decide) (by decide))
    (changes_mono (lockEvent_changes _ r) (by decide))

theorem endHeldCycle_changes (s : State) (r) : State.ChangesOnly trackerParts s (s.endHeldCycle r) := by
  unfold State.endHeldCycle
  dsimp only
  have h : State.ChangesOnly trackerParts s (s.endCycleFrames r .held) :=
    changes_mono (endCycleFrames_changes s r _) (by decide)
  split
  · exact changes_trans h (loseReference_changes _ r)
  · exact changes_trans h
      (changes_comp _ (setTracker_changes _ r _) (startCycle_changes _ r _) (by decide) (by decide))

theorem nextStrobe_changes (s : State) (r) : State.ChangesOnly [.trackers, .converters] s (s.nextStrobe r) := by
  unfold State.nextStrobe
  dsimp only
  repeat' split
  all_goals first
    | exact changes_refl _ _
    | exact changes_comp _ (setTracker_changes s r _) (issueStrobe_changes _ r _) (by decide) (by decide)

/-! ### The test unit -/

theorem raiseTest_changes (s : State) (g a b d) : State.ChangesOnly [.ports] s (s.raiseTest g a b d) :=
  raise_changes s _

theorem endOffer_changes (s : State) (g c) : State.ChangesOnly [.tests, .ports] s (s.endOffer g c) :=
  changes_comp _ (setTest_changes s g _) (raiseTest_changes _ g _ _ _) (by decide) (by decide)

/-- The parts the start or the end of a test changes. -/
abbrev testParts : List Part := verdictParts ++ [.tests, .sources, .buffers]

theorem startTest_changes (s : State) (g n) : State.ChangesOnly testParts s (s.startTest g n) :=
  changes_trans
    (changes_comp testParts (setTest_changes s g _) (raiseTest_changes _ g _ _ _) (by decide) (by decide))
    (changes_mono (examineEvent_changes _ _ _) (by decide))

theorem grantTest_changes (s : State) (l g n) : State.ChangesOnly testParts s (s.grantTest l g n).1 := by
  unfold State.grantTest
  have ho : ∀ c, State.ChangesOnly testParts s (s.endOffer g c) := fun c =>
    changes_mono (endOffer_changes s g c) (by decide)
  repeat' split
  all_goals first
    | exact changes_refl _ _
    | exact ho _
    | exact startTest_changes _ _ _
    | exact changes_comp _ (setTest_changes s g _) (raiseTest_changes _ g _ _ _) (by decide) (by decide)

theorem closeTest_changes (s : State) (g c) :
    State.ChangesOnly [.sources, .tests, .ports, .buffers] s (s.closeTest g c) := by
  unfold State.closeTest
  have h0 : State.ChangesOnly [.sources] s
      { s with sources := Vector.ofFn (fun c : Channel => if s.plan.groupOf c = g then .live else s.sources[c]) } :=
    with_sources s _
  exact changes_trans (changes_trans
    (changes_comp [.sources, .tests, .ports, .buffers] h0 (setTest_changes _ g _) (by decide) (by decide))
    (changes_mono (raiseTest_changes _ g _ _ _) (by decide)))
    (changes_mono (emptyGroupFills_changes _ g) (by decide))

theorem endTest_changes (s : State) (g c) : State.ChangesOnly testParts s (s.endTest g c) :=
  changes_comp _ (closeTest_changes s g c) (causeEvent_changes _ _ _ _) (by decide) (by decide)

theorem breakerCloses_changes (s : State) (g) :
    State.ChangesOnly (testParts ++ [.inService, .quiet, .quietEndDue]) s (s.breakerCloses g) := by
  unfold State.breakerCloses
  dsimp only
  have h0 : State.ChangesOnly [.inService] s { s with inService := s.inService.set g true } := with_inService s _
  have h1 := changes_comp (testParts ++ [.inService, .quiet, .quietEndDue]) h0 (loadQuiet_changes _ g)
    (by decide) (by decide)
  split
  · exact changes_trans h1 (changes_mono (endTest_changes _ g _) (by decide))
  · exact changes_trans h1 (changes_mono (examineEvent_changes _ _ _) (by decide))

theorem stopTest_changes (s : State) (g) : State.ChangesOnly testParts s (s.stopTest g).1 := by
  unfold State.stopTest
  split
  · exact endTest_changes _ _ _
  · exact changes_mono (endOffer_changes _ _ _) (by decide)
  · exact changes_refl _ _

theorem switchSource_changes (s : State) (c x) : State.ChangesOnly [.sources] s (s.switchSource c x).1 := by
  unfold State.switchSource
  split
  · exact setSource_changes _ _ _
  · exact changes_refl _ _

theorem loadPattern_changes (s : State) (p n xs) : State.ChangesOnly [.patterns] s (s.loadPattern p n xs) := by
  unfold State.loadPattern; exact with_patterns s _

theorem returnSources_changes (s : State) : State.ChangesOnly [.sources] s s.returnSources := by
  unfold State.returnSources; exact with_sources s _

/-! ### The plan store -/

theorem raisePlan_changes (s : State) (l a b n) : State.ChangesOnly [.ports] s (s.raisePlan l a b n) :=
  raise_changes s _

/-- The parts that staging changes. -/
abbrev stagingParts : List Part := [.planStore, .ports]

theorem restage_changes (s : State) (x l a b n) :
    State.ChangesOnly stagingParts s ((s.setStaging x).raisePlan l a b n) :=
  changes_comp _ (setStaging_changes s x) (raisePlan_changes _ l a b n) (by decide) (by decide)

theorem openStaging_changes (s : State) (l) : State.ChangesOnly stagingParts s (s.openStaging l).1 := by
  unfold State.openStaging
  repeat' split
  all_goals first | exact changes_refl _ _ | exact restage_changes _ _ _ _ _ _

theorem writeEntry_changes (s : State) (l k n x) : State.ChangesOnly stagingParts s (s.writeEntry l k n x).1 := by
  unfold State.writeEntry
  repeat' split
  all_goals first
    | exact changes_refl _ _
    | exact changes_mono (setStaging_changes _ _) (by decide)

theorem sealStaging_changes (s : State) (l) : State.ChangesOnly stagingParts s (s.sealStaging l).1 := by
  unfold State.sealStaging
  dsimp only
  repeat' split
  all_goals first | exact changes_refl _ _ | exact restage_changes _ _ _ _ _ _

theorem discardStaging_changes (s : State) (l) : State.ChangesOnly stagingParts s (s.discardStaging l).1 := by
  unfold State.discardStaging
  repeat' split
  all_goals first | exact changes_refl _ _ | exact restage_changes _ _ _ _ _ _

theorem expireAccept_changes (s : State) : State.ChangesOnly stagingParts s s.expireAccept := by
  unfold State.expireAccept
  split
  · exact restage_changes _ _ _ _ _ _
  all_goals exact changes_refl _ _

theorem resetStaging_changes (s : State) (l) : State.ChangesOnly stagingParts s (s.resetStaging l) := by
  unfold State.resetStaging
  repeat' split
  all_goals first
    | exact changes_refl _ _
    | exact restage_changes _ _ _ _ _ _
    | exact changes_mono (setStaging_changes _ _) (by decide)

/-- The parts the blocks change at an activation. -/
abbrev blockParts : List Part :=
  removeParts ++ [.converters, .records, .checks, .verdicts, .alert, .tests, .sources]

theorem activateChannel_changes (old : Plan) (s : State) (c) :
    State.ChangesOnly blockParts s (State.activateChannel old s c) := by
  unfold State.activateChannel
  have he : State.ChangesOnly blockParts s (s.emptyChannel c) :=
    changes_mono (emptyChannel_changes s c) (by decide)
  have hd : ∀ s : State, State.ChangesOnly blockParts s (s.disarm c) := fun s =>
    changes_mono (setConverter_changes s c _) (by decide)
  repeat' split
  · exact changes_refl _ _
  · exact changes_trans (changes_mono (setBuffers_changes s c _) (by decide)) (hd _)
  · exact changes_trans he (hd _)
  · exact he
  · exact changes_trans he (hd _)

theorem closeTestByPlan_changes (s : State) (g) : State.ChangesOnly blockParts s (s.closeTestByPlan g) :=
  changes_comp _ (closeTest_changes s g _) (commitChecks_changes _ _ _) (by decide) (by decide)

theorem activateVerdicts_changes (s : State) (f) :
    State.ChangesOnly [.verdicts, .ports, .alert] s (s.activateVerdicts f) :=
  changes_comp _ (commitVerdicts_changes s _ _) (setAlert_changes _) (by decide) (by decide)

theorem activateBlocks_changes (s : State) (old) : State.ChangesOnly blockParts s (s.activateBlocks old) := by
  unfold State.activateBlocks
  dsimp only
  exact changes_trans (changes_trans (changes_trans (changes_trans
    (changes_foldl _ (activateChannel_changes old) _ s)
    (changes_mono (commitChecks_changes _ _ _) (by decide)))
    (changes_foldl _ closeTestByPlan_changes _ _))
    (changes_mono (returnSources_changes _) (by decide)))
    (changes_mono (activateVerdicts_changes _ _) (by decide))

theorem activate_changes (s : State) (l p n) :
    State.ChangesOnly (blockParts ++ [.planStore]) s (s.activate l p n) := by
  unfold State.activate
  have h0 : State.ChangesOnly [.planStore] s
      { s with planStore := { active := p, generation := n, staging := .empty } } := with_planStore s _
  exact changes_trans
    (changes_comp (blockParts ++ [.planStore]) h0 (raisePlan_changes _ _ _ _ _) (by decide) (by decide))
    (changes_mono (activateBlocks_changes _ _) (by decide))

theorem acceptPlan_changes (s : State) (l n) :
    State.ChangesOnly (blockParts ++ [.planStore]) s (s.acceptPlan l n).1 := by
  unfold State.acceptPlan
  split
  · exact changes_refl _ _
  · exact changes_refl _ _
  · split
    · exact changes_refl _ _
    · split
      · exact changes_mono (setStaging_changes _ _) (by decide)
      · split
        · exact changes_refl _ _
        · exact activate_changes _ _ _ _

/-! ### Ports -/

theorem reply_changes (s : State) (l f c b) : State.ChangesOnly [.ports] s (s.reply l f c b) :=
  setPort_changes s l _

theorem startDrain_changes (s : State) (l f) : State.ChangesOnly [.ports] s (s.startDrain l f) := by
  unfold State.startDrain
  split
  · exact reply_changes _ _ _ _ _
  · exact setPort_changes _ _ _

/-- The parts a command can change: all but the time, the pins, the wires, the waiting commands and the join counter. -/
abbrev commandParts : List Part :=
  blockParts ++ [.planStore, .trackers, .quiet, .quietEndDue, .patterns]

theorem runCommand_changes (s : State) (l) (c : Command) :
    State.ChangesOnly commandParts s (s.runCommand l c).state := by
  cases c <;> simp only [State.runCommand]
  case readStatus => exact changes_refl _ _
  case readStats =>
    unfold runReadStats
    repeat' split
    all_goals first
      | exact changes_refl _ _
      | exact changes_mono (setBuffers_changes _ _ _) (by decide)
      | exact changes_mono (setTracker_changes _ _ _) (by decide)
  case readNotices => exact changes_mono (setPort_changes _ _ _) (by decide)
  case setNoticeMask => exact changes_mono (setPort_changes _ _ _) (by decide)
  case clearOverflow => exact changes_mono (setPort_changes _ _ _) (by decide)
  case drainWait => exact changes_refl _ _
  case readResult => unfold runReadResult; repeat' split
                     all_goals exact changes_refl _ _
  case readChecks => unfold runReadChecks; repeat' split
                     all_goals exact changes_refl _ _
  case readGroup => unfold runReadGroup; repeat' split
                    all_goals exact changes_refl _ _
  case readEntry => exact changes_refl _ _
  case openStaging => exact changes_mono (openStaging_changes s l) (by decide)
  case writeEntry => exact changes_mono (writeEntry_changes s l _ _ _) (by decide)
  case discardStaging => exact changes_mono (discardStaging_changes s l) (by decide)
  case acceptPlan => exact changes_mono (acceptPlan_changes s l _) (by decide)
  case clearLatch =>
    unfold runClearLatch
    split
    · exact changes_refl _ _
    · exact changes_mono (clearLatch_changes s _) (by decide)
  case startQuiet =>
    unfold runStartQuiet
    split
    · exact changes_refl _ _
    · exact changes_mono (startQuiet_changes s _) (by decide)
  case restorePermit =>
    unfold runRestorePermit
    split
    · exact changes_refl _ _
    · exact changes_mono (restorePermit_changes s l _) (by decide)
  case clearFaults => exact changes_mono (clearFaults_changes s) (by decide)
  case engineService =>
    unfold runEngineService
    repeat' split
    all_goals first
      | exact changes_refl _ _
      | exact changes_mono (serviceOut_changes s _) (by decide)
      | exact changes_mono (serviceIn_changes s _) (by decide)
  case testGrant =>
    unfold runTestGrant
    split
    · exact changes_refl _ _
    · exact changes_mono (grantTest_changes s l _ _) (by decide)
  case testEnd =>
    unfold runTestEnd
    split
    · exact changes_refl _ _
    · exact changes_mono (stopTest_changes s _) (by decide)
  case loadPattern =>
    unfold runLoadPattern
    repeat' split
    all_goals first
      | exact changes_refl _ _
      | exact changes_mono (loadPattern_changes s _ _ _) (by decide)
  case testSource =>
    unfold runTestSource
    split
    · exact changes_mono (switchSource_changes s _ _) (by decide)
    · exact changes_refl _ _
  exact changes_mono (sealStaging_changes s l) (by decide)

theorem runFrame_changes (s : State) (l f) : State.ChangesOnly commandParts s (s.runFrame l f) := by
  unfold State.runFrame
  have hr : ∀ (s : State) c b, State.ChangesOnly commandParts s (s.reply l f c b) := fun s c b =>
    changes_mono (reply_changes s l f c b) (by decide)
  dsimp only
  repeat' split
  · exact hr _ _ _
  · exact hr _ _ _
  · exact changes_mono (startDrain_changes s l f) (by decide)
  · exact changes_trans (runCommand_changes s l _) (hr _ _ _)

theorem runHead_changes (s : State) (l) : State.ChangesOnly commandParts s (s.runHead l) := by
  unfold State.runHead
  dsimp only
  split
  · exact changes_refl _ _
  · exact changes_trans (changes_mono (setPort_changes _ _ _) (by decide)) (runFrame_changes _ _ _)

/-- The parts that change while the ports execute what they can. -/
abbrev runParts : List Part := commandParts ++ [.choices]

theorem runOne_changes (s : State) : State.ChangesOnly runParts s s.runOne := by
  unfold State.runOne
  have hh : ∀ (s : State) l, State.ChangesOnly runParts s (s.runHead l) := fun s l =>
    changes_mono (runHead_changes s l) (by decide)
  have hc : State.ChangesOnly runParts s { s with choices := s.choices + 1 } :=
    changes_mono (with_choices s _) (by decide)
  split
  · exact changes_refl _ _
  · exact hh _ _
  · exact changes_trans hc (hh _ _)

theorem runPorts_changes (n : Nat) (s : State) : State.ChangesOnly runParts s (State.runPorts n s) := by
  induction n generalizing s with
  | zero => exact changes_refl _ _
  | succ n ih => exact changes_trans (runOne_changes s) (ih _)

theorem runAll_changes (s : State) : State.ChangesOnly runParts s s.runAll := runPorts_changes _ s

theorem takeCommand_changes (s : State) (l f) : State.ChangesOnly runParts s (s.takeCommand l f) := by
  unfold State.takeCommand
  dsimp only
  split
  · exact changes_mono (setPort_changes _ _ _) (by decide)
  · exact changes_trans (changes_mono (setPort_changes _ _ _) (by decide)) (runAll_changes _)

theorem dropFrame_changes (s : State) (l) : State.ChangesOnly [.ports] s (s.dropFrame l) := by
  unfold State.dropFrame
  dsimp only
  split
  · exact setPort_changes _ _ _
  · exact changes_refl _ _

theorem transferOut_changes (s : State) (l) : State.ChangesOnly [.ports, .wires] s (s.transferOut l) :=
  fun p hp => by cases p <;> first | exact (hp (by decide)).elim | exact rfl

theorem readReply_changes (s : State) (l) : State.ChangesOnly [.ports, .wires] s (s.readReply l) := by
  unfold State.readReply
  dsimp only
  split
  all_goals exact fun p hp => by cases p <;> first | exact (hp (by decide)).elim | exact rfl

theorem resumeLink_changes (s : State) (l) : State.ChangesOnly runParts s (s.resumeLink l) := by
  unfold State.resumeLink
  dsimp only
  split
  · exact changes_trans (changes_mono (setPort_changes _ _ _) (by decide)) (runAll_changes _)
  · exact changes_refl _ _

theorem resetLink_changes (s : State) (l) :
    State.ChangesOnly [.ports, .planStore, .verdicts, .tests] s (s.resetLink l) := by
  unfold State.resetLink
  dsimp only
  exact changes_trans (changes_trans
    (changes_comp [.ports, .planStore, .verdicts, .tests] (setPort_changes s l _) (resetStaging_changes _ l)
      (by decide) (by decide))
    (changes_mono (reasonEvent_changes _ _) (by decide)))
    (changes_foldl _ (fun s g => changes_mono (endOffer_changes s g .linkReset) (by decide)) _ _)

theorem frameTaken_changes (s : State) (l f) : State.ChangesOnly runParts s (s.frameTaken l f) := by
  unfold State.frameTaken
  repeat' split
  · exact resumeLink_changes _ _
  · exact changes_mono (resetLink_changes _ _) (by decide)
  · exact takeCommand_changes _ _ _

theorem clockIn_changes (s : State) (l bytes) : State.ChangesOnly runParts s (s.clockIn l bytes) := by
  unfold State.clockIn
  split
  · exact frameTaken_changes _ _ _
  · exact changes_refl _ _

theorem endDrain_changes (s : State) (l) : State.ChangesOnly [.ports] s (s.endDrain l) := by
  unfold State.endDrain
  dsimp only
  split
  · exact changes_refl _ _
  · exact setPort_changes _ _ _

end Sys2Proof.Machine
end

