-- ==== Sys2Proof/Laws/Ports.lean ====
section
/-! SUPPORT. What the ports do with the commands they hold: a calm state stays as it is, and a frame taken at a port at
rest is executed at that instant and alone. -/

namespace Sys2Proof.Machine

/-! ### States in which no port executes -/

theorem mem_readyPorts (s : State) (l : Link) : l ∈ s.readyPorts ↔ (s.ports.get l).ready = true := by
  cases l <;> simp [State.readyPorts]

theorem calm_iff (s : State) : s.calm ↔ ∀ l, (s.ports.get l).ready = false := by
  constructor
  · intro h l
    cases hr : (s.ports.get l).ready
    · rfl
    · have := (mem_readyPorts s l).2 hr
      rw [h] at this
      cases this
  · intro h
    exact List.eq_nil_iff_forall_not_mem.2 fun l hl => by
      have := (mem_readyPorts s l).1 hl
      rw [h l] at this
      cases this

theorem calm_congr {s t : State} (h : t.ports = s.ports) : t.calm ↔ s.calm := by
  simp [calm_iff, h]

theorem runOne_of_calm {s : State} (h : s.calm) : s.runOne = s := by
  have h' : s.readyPorts = [] := h
  simp [State.runOne, h']

/-- With no port ready, the ports leave the state as it is. -/
theorem runPorts_of_calm {s : State} (h : s.calm) (n : Nat) : State.runPorts n s = s := by
  induction n with
  | zero => rfl
  | succ n ih => rw [State.runPorts, runOne_of_calm h, ih]

theorem runAll_of_calm {s : State} (h : s.calm) : s.runAll = s := runPorts_of_calm h _

/-- With nothing queued at any port, the ports leave the state as it is. -/
theorem runAll_of_queued_zero {s : State} (h : s.queued = 0) : s.runAll = s := by
  simp [State.runAll, h, State.runPorts]

theorem calm_of_queued_zero {s : State} (h : s.queued = 0) : s.calm := by
  unfold State.queued at h
  refine (calm_iff s).2 fun l => ?_
  have : (s.ports.get l).queue = [] := by
    cases l <;> exact List.length_eq_zero_iff.1 (by simp only [PerLink.get]; omega)
  simp [Port.ready, this]

/-! ### Replies -/

theorem reply_ports_get (s : State) (l : Link) (f : CmdFrame) (code : ReplyCode) (body : List Byte) :
    (s.reply l f code body).ports.get l =
      { s.ports.get l with
        replies := (s.ports.get l).replies ++ [{ command := f.code, tag := f.tag, code := code, body := body }]
        halted := (s.ports.get l).halted || code == .malformed } := by
  cases l <;> rfl

theorem reply_ports_get_ne (s : State) {l l' : Link} (h : l' ≠ l) (f : CmdFrame) (code : ReplyCode) (body : List Byte) :
    (s.reply l f code body).ports.get l' = s.ports.get l' := by
  cases l <;> cases l' <;> first | exact (h rfl).elim | rfl

/-- Posting a reply makes no port ready. -/
theorem reply_calm {s : State} (h : s.calm) (l : Link) (f : CmdFrame) (code : ReplyCode) (body : List Byte) :
    (s.reply l f code body).calm := by
  refine (calm_iff _).2 fun l' => ?_
  have hl := (calm_iff s).1 h l'
  by_cases e : l' = l
  · subst e
    rw [reply_ports_get]
    simp only [Port.ready] at hl ⊢
    cases hq : (s.ports.get l').queue.isEmpty <;> cases hh : (s.ports.get l').halted <;> simp_all
  · rw [reply_ports_get_ne s e]
    exact hl

/-! ### A frame taken at a port at rest -/

theorem ready_iff_of_atRest {p : Port} (h : p.AtRest) (f : CmdFrame) :
    ({ p with queue := p.queue ++ [f] } : Port).ready = true := by
  obtain ⟨_, h2, h3, _⟩ := h
  simp [Port.ready, h2, h3]

theorem outstanding_of_atRest {p : Port} (h : p.AtRest) : p.outstanding < 16 := by
  obtain ⟨h1, _, h3, h4⟩ := h
  simp [Port.outstanding, h1, h3, h4]

/-- The port that takes the frame is then the only one ready. -/
theorem readyPorts_of_ready {s : State} {l : Link} (h : s.Ready l) (f : CmdFrame) :
    (s.setPort l { s.ports.get l with queue := (s.ports.get l).queue ++ [f] }).readyPorts = [l] := by
  obtain ⟨hc, hp⟩ := h
  have hr := ready_iff_of_atRest hp f
  have hn := (calm_iff s).1 hc
  have ha := hn .a
  have hb := hn .b
  have hm := hn .m
  cases l <;> simp_all [State.readyPorts, State.setPort, PerLink.get, PerLink.set]

/-- At a port at rest a frame is executed at the instant it is taken, and then the ports go on with what is queued. -/
theorem takeCommand_ready {s : State} {l : Link} (h : s.Ready l) (f : CmdFrame) :
    s.takeCommand l f = State.runPorts s.queued (s.runFrame l f) := by
  have hq := h.2.1
  have ho := outstanding_of_atRest h.2
  have hr := readyPorts_of_ready h f
  have hcount : (s.setPort l { s.ports.get l with queue := (s.ports.get l).queue ++ [f] }).queued = s.queued + 1 := by
    cases l <;> simp only [State.queued, State.setPort, PerLink.set, PerLink.get, List.length_append,
      List.length_singleton] <;> omega
  have hself : (s.setPort l { s.ports.get l with queue := (s.ports.get l).queue ++ [f] }).setPort l
      { (s.setPort l { s.ports.get l with queue := (s.ports.get l).queue ++ [f] }).ports.get l with queue := [] } = s := by
    have : ({ (s.ports.get l) with queue := [] } : Port) = s.ports.get l := by
      cases hp : s.ports.get l
      simp_all
    cases l <;> simp_all [State.setPort, PerLink.get, PerLink.set]
  have hhead : (s.setPort l { s.ports.get l with queue := (s.ports.get l).queue ++ [f] }).runHead l = s.runFrame l f := by
    unfold State.runHead
    have : ((s.setPort l { s.ports.get l with queue := (s.ports.get l).queue ++ [f] }).ports.get l).queue = [f] := by
      cases l <;> simp_all [State.setPort, PerLink.get, PerLink.set]
    dsimp only
    rw [this]
    dsimp only
    rw [hself]
  unfold State.takeCommand
  dsimp only
  rw [if_neg (by simp only [outstandingRoom]; omega), State.runAll, hcount, State.runPorts, State.runOne, hr]
  dsimp only
  rw [hhead]

/-- With nothing queued at any port, a frame taken at a port at rest is executed and nothing else happens. -/
theorem takeCommand_alone {s : State} {l : Link} (h : s.Ready l) (hq : s.queued = 0) (f : CmdFrame) :
    s.takeCommand l f = s.runFrame l f := by
  rw [takeCommand_ready h, hq, State.runPorts]

/-- A frame whose execution leaves no port ready is executed and nothing else happens. -/
theorem takeCommand_calm {s : State} {l : Link} (h : s.Ready l) {f : CmdFrame} (hc : (s.runFrame l f).calm) :
    s.takeCommand l f = s.runFrame l f := by
  rw [takeCommand_ready h, runPorts_of_calm hc]

/-- A command that leaves the ports calm is answered, and nothing else happens. -/
theorem takeCommand_answered {s : State} {l : Link} (h : s.Ready l) {f : CmdFrame} {c : Command}
    (hp : parse f = some c) (hl : permitted l c = true) (hd : c ≠ .drainWait)
    (hc : (s.runCommand l c).state.calm) :
    s.takeCommand l f = (s.runCommand l c).state.reply l f (s.runCommand l c).code (s.runCommand l c).body := by
  have e : s.runFrame l f = (s.runCommand l c).state.reply l f (s.runCommand l c).code (s.runCommand l c).body := by
    simp [State.runFrame, hp, hl, hd]
  rw [← e]
  exact takeCommand_calm h (e ▸ reply_calm hc l f _ _)

/-- A frame that carries no command is answered MALFORMED. -/
theorem takeCommand_malformed {s : State} {l : Link} (h : s.Ready l) {f : CmdFrame} (hp : parse f = none) :
    s.takeCommand l f = s.reply l f .malformed [] := by
  have e : s.runFrame l f = s.reply l f .malformed [] := by simp [State.runFrame, hp]
  rw [← e]
  exact takeCommand_calm h (e ▸ reply_calm h.1 l f _ _)

/-- A command that the role table refuses to the link is answered NOT PERMITTED. -/
theorem takeCommand_notPermitted {s : State} {l : Link} (h : s.Ready l) {f : CmdFrame} {c : Command}
    (hp : parse f = some c) (hl : permitted l c = false) :
    s.takeCommand l f = s.reply l f .notPermitted [] := by
  have e : s.runFrame l f = s.reply l f .notPermitted [] := by simp [State.runFrame, hp, hl]
  rw [← e]
  exact takeCommand_calm h (e ▸ reply_calm h.1 l f _ _)

/-! ### Notices -/

theorem offer_queue (p : Port) (n : Notice) : (p.offer n).queue = p.queue := by
  unfold Port.offer; split <;> (try split) <;> rfl

theorem offer_replies (p : Port) (n : Notice) : (p.offer n).replies = p.replies := by
  unfold Port.offer; split <;> (try split) <;> rfl

theorem offer_drain (p : Port) (n : Notice) : (p.offer n).drain = p.drain := by
  unfold Port.offer; split <;> (try split) <;> rfl

theorem offer_halted (p : Port) (n : Notice) : (p.offer n).halted = p.halted := by
  unfold Port.offer; split <;> (try split) <;> rfl

theorem offer_dropped (p : Port) (n : Notice) : (p.offer n).dropped = p.dropped := by
  unfold Port.offer; split <;> (try split) <;> rfl

theorem offer_mask (p : Port) (n : Notice) : (p.offer n).mask = p.mask := by
  unfold Port.offer; split <;> (try split) <;> rfl

theorem offer_ready (p : Port) (n : Notice) : (p.offer n).ready = p.ready := by
  simp [Port.ready, offer_queue, offer_halted, offer_drain]

/-- Raising a notice makes no port ready and none unready. -/
theorem raise_calm (s : State) (b : NoticeBody) : (s.raise b).calm ↔ s.calm := by
  simp [calm_iff, raise_ports_get, offer_ready]

theorem raiseAll_calm (bs : List NoticeBody) (s : State) : (s.raiseAll bs).calm ↔ s.calm := by
  induction bs generalizing s with
  | nil => rfl
  | cons b bs ih => exact (ih (s.raise b)).trans (raise_calm s b)

theorem raise_queued (s : State) (b : NoticeBody) : (s.raise b).queued = s.queued := by
  simp [State.queued, State.raise, offer_queue]

theorem raiseAll_queued (bs : List NoticeBody) (s : State) : (s.raiseAll bs).queued = s.queued := by
  induction bs generalizing s with
  | nil => rfl
  | cons b bs ih => exact (ih (s.raise b)).trans (raise_queued s b)

/-! ### Settling -/

/-- Settling a frame touches a port's drain and its replies only. -/
theorem settled_queue (p : Port) (j : Nat) : (p.settled j).queue = p.queue := by
  unfold Port.settled
  split
  · rfl
  · dsimp only; split
    · split <;> rfl
    · rfl

theorem settled_halted (p : Port) (j : Nat) : (p.settled j).halted = p.halted := by
  unfold Port.settled
  split
  · rfl
  · dsimp only; split
    · split <;> rfl
    · rfl

theorem settled_mask (p : Port) (j : Nat) : (p.settled j).mask = p.mask := by
  unfold Port.settled
  split
  · rfl
  · dsimp only; split
    · split <;> rfl
    · rfl

theorem settled_log (p : Port) (j : Nat) : (p.settled j).log = p.log := by
  unfold Port.settled
  split
  · rfl
  · dsimp only; split
    · split <;> rfl
    · rfl

theorem release_ports (s : State) (c : Channel) (j : Nat) : (s.release c j).ports = s.ports := by
  unfold State.release
  dsimp only
  split
  · split <;> rfl
  · rfl

theorem settle_queued (s : State) (c : Channel) (j : Nat) : (s.settle c j).queued = s.queued := by
  simp [State.settle, State.queued, settled_queue, release_ports]

end Sys2Proof.Machine
end

