-- ==== Sys2Proof/Laws/Commands.lean ====
section
/-! SUPPORT. What `exec` does with the rows that are frames: each is the frame taken on its link (R162). -/

namespace Sys2Proof.Machine

/-- The frame of a command is no control frame. -/
theorem command_frame_not_control (c : Command) (tag : Byte) : isControl (c.frame tag) = false := by
  cases c <;> rfl

/-- The bytes of a frame bring that frame (R178). -/
theorem frameOfBytes_bytes {f : CmdFrame} (h : f.payload.length ≤ 255) : frameOfBytes f.bytes = some f := by
  have e : (byteOf f.payload.length).toNat = f.payload.length := by
    simp only [byteOf, BitVec.toNat_ofNat]; omega
  simp [frameOfBytes, CmdFrame.bytes, e]

/-- The payload of a command that fits fits a frame. -/
theorem payload_length_of_fits {c : Command} (h : c.fits = true) : c.payload.length ≤ 255 := by
  have e : ∀ xs : List Half, (bytesOfHalves xs).length = 2 * xs.length := fun xs => by
    induction xs with
    | nil => rfl
    | cons x xs ih => simp only [bytesOfHalves, List.flatMap_cons, List.length_append] at ih ⊢; simp [le16, ih]; omega
  cases c <;> simp [Command.fits, Command.payload, le16, e] at h ⊢ <;> try omega
  next k n item =>
    have : ∀ b : Byte, ∀ m, itemSize b = some m → m ≤ 16 := fun b m hm => by
      unfold itemSize at hm; split at hm <;> simp at hm <;> omega
    have := this _ _ h
    omega

/-- A row that is a command frame is that frame taken on its link. -/
theorem exec_frameTaken {i : Instr} {l : Link} {f : CmdFrame} (h : i.frame = some (l, f)) (hc : isControl f = false)
    (hl : f.payload.length ≤ 255) (s : State) : exec i s = .next (s.takeCommand l f) := by
  have e : s.clockIn l f.bytes = s.takeCommand l f := by
    simp [State.clockIn, frameOfBytes_bytes hl, State.frameTaken, hc]
  rw [← e]
  cases i <;> simp only [Instr.frame, Option.some.injEq, Prod.mk.injEq, reduceCtorEq] at h <;>
    (obtain ⟨rfl, rfl⟩ := h; rfl)

end Sys2Proof.Machine
end

