-- ==== Sys2Proof/Laws/Spectrum.lean ====
section
/-! SUPPORT. The integer root and the sums of the spectrum arithmetic. -/

namespace Sys2Proof.Machine

theorem isqrtFrom_spec (x : Nat) : ∀ k r, r * r ≤ x → x < (r + 2 ^ k) * (r + 2 ^ k) →
    isqrtFrom x k r * isqrtFrom x k r ≤ x ∧ x < (isqrtFrom x k r + 1) * (isqrtFrom x k r + 1)
  | 0, r, h1, h2 => ⟨h1, by simpa [isqrtFrom] using h2⟩
  | k + 1, r, h1, h2 => by
    have e : r + 2 ^ (k + 1) = r + 2 ^ k + 2 ^ k := by rw [pow_succ]; omega
    rw [e] at h2
    unfold isqrtFrom
    split
    · next h => exact isqrtFrom_spec x k _ h h2
    · next h => exact isqrtFrom_spec x k r h1 (Nat.lt_of_not_le h)

/-- isqrt is the largest integer whose square does not exceed its argument (Conventions). -/
theorem isqrt_spec (x : Nat) : isqrt x * isqrt x ≤ x ∧ x < (isqrt x + 1) * (isqrt x + 1) := by
  refine isqrtFrom_spec x _ 0 (Nat.zero_le x) ?_
  have h : x < 2 ^ (Nat.log2 x + 1) := Nat.lt_log2_self
  refine h.trans_le ?_
  rw [Nat.zero_add, ← pow_add]
  exact Nat.pow_le_pow_right (by decide) (by omega)

theorem foldl_add_eq_sum (xs : List Int) (a : Int) : xs.foldl (· + ·) a = a + xs.sum := by
  induction xs generalizing a with
  | nil => simp
  | cons x xs ih => simp [ih, add_assoc]

theorem total_eq_sum (xs : List Int) : total xs = xs.sum := by
  simp [total, foldl_add_eq_sum]

/-- The mean is the floor of the sum over 128 (R37). -/
theorem mean_bounds (xs : List Int) : 128 * mean xs ≤ xs.sum ∧ xs.sum < 128 * (mean xs + 1) := by
  unfold mean
  rw [total_eq_sum]
  have h : xs.sum.fdiv 128 = xs.sum / 128 := by simp [Int.fdiv_eq_ediv]
  rw [h]
  omega

end Sys2Proof.Machine
end

