-- ==== Sys2Proof/Laws/Verdicts.lean ====
section
/-! SUPPORT. What one event of the evaluator does to the verdicts: the one lemma that says it (`checkEvent_verdictsSet`), and
what a recomputation reads. -/

namespace Sys2Proof.Machine

/-- Raising notices touches the ports alone. -/
theorem raiseAll_ports (s : State) (bs : List NoticeBody) : ∃ p, s.raiseAll bs = { s with ports := p } := by
  induction bs generalizing s with
  | nil => exact ⟨_, rfl⟩
  | cons b bs ih =>
    obtain ⟨p, h⟩ := ih (s.raise b)
    exact ⟨p, by simpa [State.raiseAll, State.raise] using h⟩

theorem commitChecks_eq (s : State) (new : CheckIx → CheckStatus) (cycle : CheckIx → Word) :
    ∃ p, s.commitChecks new cycle = { s with checks := Vector.ofFn new, ports := p } :=
  raiseAll_ports { s with checks := Vector.ofFn new } _

/-- The verdicts after one event, each permit set once. -/
theorem commitVerdicts_eq (s : State) (new : Group → Verdict) (cycle : Group → Word) :
    ∃ p, s.commitVerdicts new cycle =
      { s with verdicts := Vector.ofFn (fun g : Group => Verdict.settlePermit s.verdicts[g] (new g)), ports := p } :=
  raiseAll_ports { s with verdicts := Vector.ofFn (fun g : Group => Verdict.settlePermit s.verdicts[g] (new g)) } _

/-- A recomputation reads the checks, the active plan and the tests alone. -/
theorem recompute_congr {s t : State} (hc : t.checks = s.checks) (hp : t.planStore = s.planStore)
    (ht : t.tests = s.tests) : t.recompute = s.recompute := by
  cases s
  cases t
  subst hc hp ht
  rfl

theorem settlePermit_eq (old new : Verdict) : old.settlePermit new = { new with
    given := if new.reasons = old.reasons then old.given
      else decide (new.reasons = ⟨false, false, false, false, false, false⟩) } := by
  have h : ∀ r : Reasons, r.isEmpty = decide (r = ⟨false, false, false, false, false, false⟩) := by
    rintro ⟨a, b, c, d, e, f⟩
    cases a <;> cases b <;> cases c <;> cases d <;> cases e <;> cases f <;> rfl
  rw [Verdict.settlePermit, h]

/-- Which groups an event of the evaluator recomputes. -/
theorem touches_iff (s : State) (new : CheckIx → CheckStatus) (g : Group) :
    s.touches new g = true ↔ ∃ i : CheckIx, s.plan.checkGroup i = g ∧ (new i).state ≠ s.checks[i].state := by
  simp only [State.touches, List.any_eq_true, List.mem_finRange, true_and, Bool.and_eq_true, beq_iff_eq, bne_iff_ne]
  exact exists_congr fun i => and_congr_right fun _ => ne_comm

theorem checkEvent_checks (s : State) (new : CheckIx → CheckStatus) (forced : Group → Bool)
    (change : Group → Verdict → Verdict) (checkCycle : CheckIx → Word) (groupCycle : Group → Word) :
    (s.checkEvent new forced change checkCycle groupCycle).checks = Vector.ofFn new := by
  obtain ⟨p, h⟩ := commitChecks_eq s new checkCycle
  obtain ⟨q, h'⟩ := commitVerdicts_eq (s.commitChecks new checkCycle) (fun g => change g
    (if forced g || s.touches new g then
      (s.commitChecks new checkCycle).recompute g (s.commitChecks new checkCycle).verdicts[g]
      else (s.commitChecks new checkCycle).verdicts[g])) groupCycle
  rw [State.checkEvent, h', h]
  split <;> rfl

/-- What one event of the evaluator does to the verdicts and the alert output. -/
theorem checkEvent_verdictsSet (s : State) (new : CheckIx → CheckStatus) (forced : Group → Bool)
    (change : Group → Verdict → Verdict) (checkCycle : CheckIx → Word) (groupCycle : Group → Word) :
    s.VerdictsSet (s.checkEvent new forced change checkCycle groupCycle) forced change := by
  obtain ⟨p, h⟩ := commitChecks_eq s new checkCycle
  obtain ⟨q, h'⟩ := commitVerdicts_eq (s.commitChecks new checkCycle) (fun g => change g
    (if forced g || s.touches new g then
      (s.commitChecks new checkCycle).recompute g (s.commitChecks new checkCycle).verdicts[g]
      else (s.commitChecks new checkCycle).verdicts[g])) groupCycle
  have hit : ∀ g, (forced g || decide (∃ i : CheckIx, s.plan.checkGroup i = g ∧
      (s.checkEvent new forced change checkCycle groupCycle).checks[i].state ≠ s.checks[i].state)) =
      (forced g || s.touches new g) := by
    intro g
    rw [Bool.eq_iff_iff, Bool.or_eq_true, Bool.or_eq_true, touches_iff, decide_eq_true_iff]
    simp [checkEvent_checks]
  have re : (s.checkEvent new forced change checkCycle groupCycle).recompute =
      (s.commitChecks new checkCycle).recompute := by
    apply recompute_congr <;> rw [State.checkEvent, h', h] <;> split <;> rfl
  have verdicts : ∀ g : Group, (s.checkEvent new forced change checkCycle groupCycle).verdicts[g] =
      Verdict.settlePermit s.verdicts[g] (change g (if forced g || s.touches new g then
        (s.commitChecks new checkCycle).recompute g s.verdicts[g] else s.verdicts[g])) := by
    intro g
    have hv : (s.commitChecks new checkCycle).verdicts = s.verdicts := by rw [h]
    rw [State.checkEvent, h']
    split <;> simp [State.setAlert, hv]
  refine ⟨fun g => ?_, ?_⟩
  · simp only [hit, re]
    rw [verdicts, settlePermit_eq]
  · simp only [hit]
    have any : (List.finRange 4).any (fun g => forced g || s.touches new g) = true ↔
        ∃ g, (forced g || s.touches new g) = true := by
      simp only [List.any_eq_true, List.mem_finRange, true_and]
    rw [State.checkEvent]
    by_cases ha : (List.finRange 4).any (fun g => forced g || s.touches new g) = true
    · rw [if_pos ha, if_pos (any.1 ha), h', Bool.eq_iff_iff, decide_eq_true_iff]
      simp only [State.setAlert, List.any_eq_true, List.mem_finRange, true_and, Bool.or_eq_true]
    · rw [if_neg ha, if_neg (fun hg => ha (any.2 hg)), h', h]

end Sys2Proof.Machine
end

