-- ==== Sys2Proof/Tests/Slice0.lean ====
section
/-! SUPPORT. Tests of the model against figures the manual gives, the ill-formed terms that `Instr.wf` refuses, and a
witness for the hypotheses of each statement of `Obligations`. -/

namespace Sys2Proof.Tests
open Sys2Proof Sys2Proof.Machine

-- one theorem after another: as many threads as there are tests do not fit in the memory a check may use
set_option Elab.async false

/-! ### Ill-formed terms (R178, R179) -/

theorem test_wf_orders : (Instr.readResult .a 0 1 (List.replicate 255 1)).wf = false := by decide +kernel
theorem test_wf_item : (Instr.writeEntry .a 0 5 0 [1, 2, 3]).wf = false := by decide
theorem test_wf_item_kind : (Instr.writeEntry .a 0 7 0 []).wf = false := by decide
theorem test_wf_samples : (Instr.loadPattern .m 0 1 0 (List.replicate 127 0)).wf = false := by decide +kernel
theorem test_wf_direction : (Instr.engineServiceIn .a 0 1 0).wf = false := by decide
theorem test_wf_payload : (Instr.unknownCommand .a 0 0x99 (List.replicate 256 0)).wf = false := by decide +kernel
theorem test_wf_control : (Instr.unknownCommand .a 0 0xF0 []).wf = false := by decide
theorem test_wf_known : (Instr.unknownCommand .a 0 0x33 []).wf = false := by decide
theorem test_wf_long_control : (Instr.unknownCommand .a 0 0xF1 [0]).wf = true := by decide

/-! ### Frames, byte for byte from 11.2 -/

theorem test_frame_read_stats : parse ⟨0x02, 9, [0, 16, 1]⟩ = some (.readStats 0 16 1) := by decide
theorem test_frame_accept_plan : parse ⟨0x24, 9, [0x34, 0x12]⟩ = some (.acceptPlan 0x1234) := by decide
theorem test_frame_test_grant : parse ⟨0x40, 9, [2, 0x84, 0x03]⟩ = some (.testGrant 2 900) := by decide
theorem test_frame_write_entry : parse ⟨0x21, 9, [5, 0, 16, 1]⟩ = some (.writeEntry 5 0 [16, 1]) := by decide
theorem test_frame_load_pattern :
    parse ⟨0x42, 9, [1, 112, 0x78, 0x05, 0xFF, 0xFF]⟩ = some (.loadPattern 1 112 [1400, 0xFFFF]) := by decide
theorem test_frame_load_pattern_odd : parse ⟨0x42, 9, [1, 112, 0x78]⟩ = none := by decide
theorem test_frame_engine_service : parse ⟨0x34, 9, [2, 1]⟩ = some (.engineService 2 1) := by decide
theorem test_frame_code_unknown : parse ⟨0x07, 9, []⟩ = none := by decide
/-- A frame is its header of code, tag and length with that many bytes of payload (R178). -/
theorem test_frame_bytes :
    ((Command.clearLatch 5).frame 9).bytes = [0x30, 9, 1, 5] ∧
    frameOfBytes [0x30, 9, 1, 5] = some ⟨0x30, 9, [5]⟩ ∧ frameOfBytes [0x30, 9, 2, 5] = none ∧
    frameOfBytes [0x30, 9] = none ∧ frameOfBytes [0x05, 9, 0] = some ⟨0x05, 9, []⟩ := by decide

theorem test_frame_length_wrong : parse ⟨0x30, 9, []⟩ = none := by decide

/-- The check entry of 11.3 with its flags and the clamps of R134: order 0 and persistence 0 become 1. -/
theorem test_check_item :
    checkItem [0x0F, 2, 1, 5, 0, 16, 0x90, 0x01, 0x58, 0x02, 0, 4, 2, 0xAA] =
      some ({ enabled := true, cls := .trip, term := .t2, channel := 0, quantity := .level, order := 1, second := 15,
              low := 400, high := 600, sense := .inside, persistence := 1, release := 4, tallyLimit := 2,
              observeQuiet := true }, 2) := by decide

/-- The same item as READ ENTRY sends it back: clamped, and its unused bits and byte 0 (R134, R148, 11.3). -/
theorem test_check_item_read_back :
    (readItem 1 3 [0xFF, 2, 1, 5, 0, 16, 0x90, 0x01, 0x58, 0x02, 0, 4, 2, 0xAA]).map (fun x => (x.1.bytes, x.2)) =
      some ([0x0F, 2, 1, 5, 1, 16, 0x90, 0x01, 0x58, 0x02, 1, 4, 2, 0], 2) := by decide

/-- A notice as it crosses the link (11.5): the PERMIT notice of cycle 4110. -/
theorem test_permit_notice_bytes :
    Notice.bytes ⟨1234567, .permit 1 4110 false true ⟨false, false, false, false, false, false⟩⟩ =
      [2, 1, 2, 0, 1, 0, 0x87, 0xD6, 0x12, 0x00, 0x0E, 0x10, 0x00, 0x00, 0, 0] := by decide

/-- The subject, states, cycle and detail of the SYNC notice of 11.5. -/
theorem test_sync_notice_bytes :
    (Notice.bytes ⟨0, .sync .r1 5004 .holding .locked (frequency 200000)⟩).drop 2 =
      [1, 2, 1, 0, 0, 0, 0, 0, 0x8C, 0x13, 0, 0, 0x88, 0x13] := by decide

/-! ### Figures -/

/-- The floors of R37. -/
theorem test_mean_floor : mean [-129] = -2 ∧ mean [-1] = -1 ∧ mean [127] = 0 ∧
    mean (List.replicate 128 (-32768)) = -32768 := by decide +kernel

/-- The order-32 frame: D = 1000, Rl = 282, L_32 = 400 and every other level 0. -/
def order32 : List Int := (List.range 128).map (fun k => [1400, 1000, 600, 1000].getD (k % 4) 0)

theorem test_order32 : mean order32 = 1000 ∧ ripple order32 = 282 ∧ level 32 order32 = 400 ∧ level 31 order32 = 0 ∧
    level 1 order32 = 0 ∧ level 63 order32 = 0 := by decide +kernel

def figuresOf (mean ripple : Half) (levels : List (Nat × Half)) : Figures :=
  { mean := mean, ripple := ripple
    levels := Vector.ofFn (fun i : OrderIx => ((levels.find? (fun p => p.1 == i.val + 1)).map Prod.snd).getD 0)
    saturated := false }

/-- The derived quantities of the order-32 frame (R46, R47, R48). -/
theorem test_derived_order32 :
    rippleFactor 100 (figuresOf 1000 282 [(32, 400)]) = some 282 ∧
    distortion 0 (figuresOf 1000 282 [(32, 400)]) = none ∧
    rippleFactor 0 (figuresOf 3 282 [(32, 400)]) = some 65535 ∧
    rippleFactor 100 (figuresOf 3 282 [(32, 400)]) = none := by decide +kernel

/-- The line current of chapter 3: T = 187 and W = 117. -/
def lineCurrent : Figures := figuresOf 0 0 [(1, 2000), (5, 300), (7, 200), (11, 100)]

theorem test_line_current :
    distortion 500 lineCurrent = some 187 ∧ distortion 2001 lineCurrent = none ∧
    weightedInterference (Vector.ofFn (fun i : OrderIx =>
      if i.val = 4 then 512 else if i.val = 6 then 1024 else if i.val = 10 then 4096 else 0)) lineCurrent = 117 := by
  decide +kernel

theorem test_spread : spread (figuresOf 12450 0 []) (figuresOf 11030 0 []) = 1420 ∧
    spread (figuresOf (-200) 0 []) (figuresOf 150 0 []) = 350 := by decide +kernel

/-- Strobes and deadlines at 50 Hz, and the cap (R5, R9). -/
theorem test_strobes : strobeTick 0 200000 1 = 1562 ∧ strobeTick 0 200000 127 = 198437 ∧
    deadlineOf 0 200000 = 212500 ∧ deadlineOf 0 214000 = 225000 := by decide

theorem test_frequency : frequency 200000 = 5000 ∧ frequency 225000 = 4444 ∧ frequency 150000 = 6666 ∧
    frequency 208330 = 4800 := by decide

/-- The classes of edges at the ends of the window (R2). -/
theorem test_classes : classify (some 0) 149999 = .spurious ∧ classify (some 0) 150000 = .inWindow 150000 ∧
    classify (some 0) 225000 = .inWindow 225000 ∧ classify (some 0) 225001 = .late ∧ classify none 5 = .first := by
  decide

theorem test_quiet_loads : quietLoad 127 = 127 ∧ quietLoad 150 = 172 ∧ quietLoad 200 = 320 ∧ quietLoad 255 = 1008 := by
  decide

theorem test_generation_wraps : nextGeneration 65535 = 1 ∧ nextGeneration 0 = 1 := by decide

/-- Check 4 of chapter 6 at cycles 9008 to 9014: persistence 3, release 4, tally limit 2. -/
def check4 : CheckEntry :=
  { CheckEntry.default with
    enabled := true, cls := .trip, quantity := .level, order := 1, low := 0, high := 500, persistence := 3,
    release := 4, tallyLimit := 2 }

theorem test_check4_clears :
    (evaluateCheck check4 70 9010 { state := .falling, run := 3, tally := 1, last := none }) =
      { state := .clear, run := 0, tally := 1, last := some (70, 9010) } := by decide

theorem test_check4_latches :
    (evaluateCheck check4 690 9014 { state := .rising, run := 2, tally := 1, last := none }) =
      { state := .latched, run := 0, tally := 2, last := some (690, 9014) } := by decide

/-- The triplen error example of R137: three records in the order of the kinds. -/
theorem test_seal_errors :
    (({ Plan.default with checks := Plan.default.checks.set 3 { CheckEntry.default with
        enabled := true, quantity := .spread, second := 1, low := 9, high := 4 } } : Plan).checkErrors
      { Plan.default with guardLevel := 2 } 3).map (fun e => (e.kind, e.number)) =
      [(.bandInverted, 3), (.channelDisabled, 3), (.guardFrozen, 3)] := by decide +kernel

/-! ### Small states

`live` is the part after power-on reset with one plan active: channel 1 of group 1 is enabled, and check 0 is a TRIP check
of its mean. `locked` is `live` with reference 1 locked in its first cycle and group 1 in service. -/

def check0 : CheckEntry :=
  { CheckEntry.default with enabled := true, cls := .trip, high := 100, release := 2, tallyLimit := 2 }

def plan1 : Plan :=
  { Plan.default with
    checks := Plan.default.checks.set 0 check0
    channels := Plan.default.channels.set 0
      { enabled := true, group := 0, basePriority := 1, meanFloor := 0, fundFloor := 0 }
    groups := Plan.default.groups.set 0
      { ref := .r1, combine := .or, repermit := .manual, blind := .withdraw, quietCode := 5, evaluateHeld := true } }

def suspended0 : CheckStatus := { state := .suspended, run := 0, tally := 0, last := none }

def live : State :=
  { State.reset with
    planStore := { active := plan1, generation := 1, staging := .empty }
    checks := State.reset.checks.set 0 suspended0
    verdicts := State.reset.verdicts.set 0 { Verdict.reset false with term1 := .notAsserting } }

def lockedTracker : Tracker :=
  { Tracker.reset with
    mode := .locked, previousEdge := some 0, start := some 0, deadline := some 212500, nextStrobe := some 1, cycle := 1 }

def frame1 : Frame :=
  { channel := 0, ref := .r1, cycle := 1, epoch := 0, source := .live, samples := Vector.replicate 128 (some 50),
    heldFlag := false, clipped := false, priority := 0, joinOrder := 0, audit := false, engines := ⟨false, false⟩ }

def emptyFrame1 : Frame := { frame1 with samples := Vector.replicate 128 none }

def locked : State :=
  { live with
    trackers := live.trackers.set .r1 lockedTracker
    converters := live.converters.set 0 { armed := true, latched := .live, inFlight := [] }
    buffers := live.buffers.set 0 { Buffers.reset with fill := .filling emptyFrame1 }
    checks := live.checks.set 0 { suspended0 with state := .clear }
    verdicts := live.verdicts.set 0
      { Verdict.reset false with
        term1 := .notAsserting
        reasons := { unplanned := true, trip := false, restore := false, stop := false, blind := false, test := false } }
    inService := live.inService.set 0 true }

/-- A state with the tracker of reference 1 changed. -/
def withTracker (s : State) (f : Tracker → Tracker) : State := s.setTracker .r1 (f (s.trackers.get .r1))

/-- A state with the verdict of group 1 changed. -/
def withVerdict (s : State) (f : Verdict → Verdict) : State := { s with verdicts := s.verdicts.set 0 (f s.verdicts[0]) }

def withTest (s : State) (x : TestState) : State := { s with tests := s.tests.set 0 x }

def withStaging (s : State) (x : Staging) : State := s.setStaging x

/-- `locked` with an edge of reference 1 at instant `e` accepted at tick `now`. -/
def edgeAt (e now : Tick) (f : Tracker → Tracker) : State :=
  { withTracker locked (fun t => f { t with accepting := some e, nextSample := now + 10, nextStrobe := some 128 }) with
    now := now }

/-- `locked` with the frame of cycle 1 in the hand of E1, taken at tick 198477. -/
def inHand (f : Frame) (role : AuditRole) : State :=
  { locked with
    now := 198500
    buffers := locked.buffers.set 0 { Buffers.reset with held := some f }
    engines := ⟨{ EngineSlot.reset with hand := some ⟨f, role, 198477⟩ }, EngineSlot.reset⟩ }

/-- The state that an answer leads to. -/
def after : Host.Outcome State Fault Refusal → State
  | .next s => s
  | .fault _ => State.reset
  | .refused _ => State.reset

/-- The last reply posted on a link. -/
def lastReply (s : State) (l : Link) : Option Reply := (s.ports.get l).replies.getLast?

/-! ### One step of each row -/

theorem test_power_on_reset : (after (exec .powerOnReset { locked with stopInput := true })).planStore.generation = 0 ∧
    (after (exec .powerOnReset { locked with stopInput := true })).verdicts[0].reasons.stop = true := by decide +kernel

/-- R6 and R9: the lock of chapter 1, with T = 200,000 and the deadline 212,500 ticks after the edge. -/
def seekingEdge (e now : Tick) : State :=
  { withTracker live (fun t => { t with previousEdge := some 100000, accepting := some e, nextSample := now + 10 }) with
    now := now }

theorem test_edge_accepted_locks :
    ((after (exec (.edgeAccepted .r1) (seekingEdge 300000 300030))).trackers.r1.period,
      (after (exec (.edgeAccepted .r1) (seekingEdge 300000 300030))).trackers.r1.deadline,
      (after (exec (.edgeAccepted .r1) (seekingEdge 300000 300030))).trackers.r1.cycle) =
      (200000, some 512500, 1) := by decide +kernel

theorem test_edge_accepted_spurious :
    (after (exec (.edgeAccepted .r1) (seekingEdge 249999 250030))).trackers.r1.counters.spurious = 1 ∧
    (after (exec (.edgeAccepted .r1) (seekingEdge 249999 250030))).trackers.r1.previousEdge = some 100000 := by
  decide +kernel

def atDeadline : State :=
  { withTracker locked (fun t => { t with nextStrobe := some 128, nextSample := 212510 }) with now := 212500 }

theorem test_deadline_expiry :
    ((after (exec (.deadlineExpiry .r1) atDeadline)).trackers.r1.mode,
      (after (exec (.deadlineExpiry .r1) atDeadline)).trackers.r1.start,
      (after (exec (.deadlineExpiry .r1) atDeadline)).trackers.r1.heldCount) = (.holding, some 212500, 1) := by
  decide +kernel

def holdingEnd (held : Nat) : State :=
  { withTracker locked (fun t => { t with mode := .holding, heldCount := held, deadline := none,
                                          nextStrobe := some 128, nextSample := 200010 }) with now := 200000 }

theorem test_held_cycle_end_goes_on :
    (after (exec (.heldCycleEnd .r1) (holdingEnd 9))).trackers.r1.heldCount = 10 ∧
    (after (exec (.heldCycleEnd .r1) (holdingEnd 9))).trackers.r1.cycle = 2 := by decide +kernel

theorem test_held_cycle_end_loses :
    (after (exec (.heldCycleEnd .r1) (holdingEnd 10))).trackers.r1.mode = .seeking ∧
    (after (exec (.heldCycleEnd .r1) (holdingEnd 10))).checks[0].state = .suspended ∧
    (after (exec (.heldCycleEnd .r1) (holdingEnd 10))).verdicts[0].reasons.blind = true := by decide +kernel

def atStrobe (k now : Nat) : State :=
  { withTracker locked (fun t => { t with nextStrobe := some k }) with now := now }

theorem test_strobe : ((after (exec (.strobe .r1) (atStrobe 1 1562))).converters[0]).inFlight =
    [⟨1, 1, .live, 1562, true⟩] := by decide +kernel

def arriving (source : Source) : State :=
  { locked with
    now := 1602
    converters := locked.converters.set 0 { armed := true, latched := source, inFlight := [⟨1, 1, source, 1562, true⟩] } }

theorem test_sample_arrival_clips :
    ((after (exec (.sampleArrival 0 1 1 40000) (arriving .live))).buffers[0]).fill =
      .filling { emptyFrame1 with samples := emptyFrame1.samples.set 1 (some 32767), clipped := true } := by decide +kernel

/-- `locked` with one conversion of channel 1 that ends at tick 1602, and a filling buffer. -/
def arrivingIn (fill : FillBuffer) (v : Conversion) : State :=
  { locked with
    now := 1602
    buffers := live.buffers.set 0 { Buffers.reset with fill := fill }
    converters := locked.converters.set 0 { armed := true, latched := .live, inFlight := [v] } }

theorem test_sample_arrival_closes :
    ((after (exec (.sampleArrival 0 1 127 50) (arrivingIn (.closing frame1 (some ⟨{ emptyFrame1 with cycle := 2 },
      some (0, 7)⟩)) ⟨1, 127, .live, 1562, true⟩))).buffers[0]).fill =
        .filling { emptyFrame1 with cycle := 2, samples := emptyFrame1.samples.set 0 (some 7) } ∧
    ((after (exec (.sampleArrival 0 1 127 50) (arrivingIn (.closing frame1 none)
      ⟨1, 127, .live, 1562, true⟩))).buffers[0]).held.map Frame.priority = some 1 := by decide +kernel

/-- Three frames of one level close at one tick by the arrivals of their slot 127 samples, on channels 2, 3 and 4. -/
def threeClosing : State :=
  { locked with
    now := 1602
    buffers := Vector.ofFn (fun c : Channel =>
      if 1 ≤ c.val ∧ c.val ≤ 3 then { Buffers.reset with fill := .closing { frame1 with channel := c } none }
      else Buffers.reset)
    converters := Vector.ofFn (fun c : Channel =>
      { armed := false, latched := .live
        inFlight := if 1 ≤ c.val ∧ c.val ≤ 3 then [⟨1, 127, .live, 1562, true⟩] else [] }) }

/-- They join in increasing channel number, whatever the order of the arrivals (R28), and the engines take after the last of
them, E1 the first and E2 the second (R52). -/
theorem test_joins_of_one_tick :
    let s1 := after (exec (.sampleArrival 2 1 127 50) threeClosing)
    let s2 := after (exec (.sampleArrival 1 1 127 50) s1)
    let s3 := after (exec (.sampleArrival 3 1 127 50) s2)
    s2.queue = [1, 2] ∧ s2.engines.e1.hand = none ∧ s3.queue = [3] ∧
    s3.engines.e1.hand.map (fun h => h.frame.channel) = some 1 ∧
    s3.engines.e2.hand.map (fun h => h.frame.channel) = some 2 := by decide +kernel

/-- A frame of 50 in every slot has D = 50, and check 0 judges it against 0 to 100. -/
theorem test_transform_complete :
    ((after (exec (.transformComplete .e1 none) (inHand frame1 .plain))).records[0]).map
      (fun r => (r.figures.mean, r.figures.ripple, r.cycle, r.generation)) = some (50, 0, 1, 1) ∧
    (after (exec (.transformComplete .e1 none) (inHand frame1 .plain))).checks[0].last = some (50, 1) := by
  decide +kernel

theorem test_stop_input_change :
    (after (exec (.stopInputChange true) live)).verdicts[3].reasons.stop = true := by decide +kernel

theorem test_in_service_rise : (after (exec (.inServiceRise 0) live)).quiet[0] = 5 := by decide +kernel

theorem test_in_service_fall : (after (exec (.inServiceFall 0) locked)).checks[0].state = .suspended := by decide +kernel

def quietEnding : State :=
  { locked with
    quiet := locked.quiet.set 0 1, quietEndDue := locked.quietEndDue.set 0 true
    checks := locked.checks.set 0 suspended0 }

theorem test_quiet_end : (after (exec (.quietEnd 0) quietEnding)).checks[0].state = .clear ∧
    (after (exec (.quietEnd 0) quietEnding)).quiet[0] = 0 := by decide +kernel

theorem test_read_status : (lastReply (after (exec (.readStatus .a 7) locked)) .a).map
    (fun r => (r.command, r.tag, r.code, r.body.length, r.body.take 4)) =
      some (0x01, 7, .ok, 56, [1, 0, 0x88, 0x13]) := by decide +kernel

theorem test_read_stats_clears :
    (after (exec (.readStats .m 7 1 1 1)
      (withTracker locked (fun t => { t with counters := { t.counters with locks := 3 } })))).trackers.r1.counters.locks = 0
    ∧ lastReply (after (exec (.readStats .m 7 1 1 1)
      (withTracker locked (fun t => { t with counters := { t.counters with locks := 3 } })))) .m =
      some ⟨0x02, 7, .ok, [1, 1, 0, 0, 3, 0, 0, 0, 0, 0]⟩ := by decide +kernel

def noticed : State := live.raise (.sync .r1 5004 .holding .locked 5000)

theorem test_read_notices : (lastReply (after (exec (.readNotices .a 7 255) noticed)) .a).map (fun r => r.body.take 5) =
    some [1, 0, 4, 1, 1] ∧ ((after (exec (.readNotices .a 7 255) noticed)).ports.get .a).log = [] := by decide +kernel

theorem test_set_notice_mask : ((after (exec (.setNoticeMask .b 7 0xC2) live)).ports.get .b).mask =
    { check := false, permit := true, plan := false, sync := false, engine := false, test := false } := by decide +kernel

theorem test_clear_overflow :
    ((after (exec (.clearOverflow .b 7) (live.setPort .b { Port.reset with overflow := true }))).ports.get .b).overflow =
      false := by decide +kernel

theorem test_drain_wait_empty : lastReply (after (exec (.drainWait .a 7) locked)) .a = some ⟨0x06, 7, .ok, [0]⟩ := by
  decide +kernel

theorem test_drain_wait_waits : ((after (exec (.drainWait .a 7) (inHand frame1 .plain))).ports.get .a).drain =
    some { tag := 7, awaiting := [0], count := 1, started := 0 } := by decide +kernel

def draining : State :=
  { (inHand frame1 .plain).setPort .a
      { Port.reset with drain := some { tag := 7, awaiting := [0], count := 1, started := 0 } } with clock := 1000 }

theorem test_drain_timeout : lastReply (after (exec (.drainTimeout .a) draining)) .a =
    some ⟨0x06, 7, .timeout, [1]⟩ := by decide +kernel

/-- A drain of Link A waits for the frame in E1's hand, with two CLEAR OVERFLOW behind it. -/
def behindDrain : State :=
  (inHand frame1 .plain).setPort .a { Port.reset with
    drain := some { tag := 7, awaiting := [0], count := 1, started := 0 }, queue := [⟨0x05, 8, []⟩, ⟨0x05, 9, []⟩] }

/-- The drain ends at the settling with OK, and the commands behind it run in their order (R169, R164). -/
theorem test_drain_ends :
    ((after (exec (.transformComplete .e1 (some lineCurrent)) behindDrain)).ports.a.replies.map
      (fun r => (r.command, r.tag, r.code))) = [(0x06, 7, .ok), (0x05, 8, .ok), (0x05, 9, .ok)] := by decide +kernel

def record1 : ResultRecord :=
  { ref := .r2, cycle := 2213, generation := 8, figures := figuresOf 9815 518 [(12, 302)], heldFlag := false,
    clipped := false, test := false, unaudited := false }

/-- The READ RESULT of chapter 5: orders 12, 70 and 12 (D = 9815, Rl = 518, cycle 2213, generation 8). -/
theorem test_read_result :
    lastReply (after (exec (.readResult .m 7 5 [12, 70, 12]) { live with records := live.records.set 4 (some record1) })) .m
      = some ⟨0x10, 7, .ok, [5, 2, 0xA5, 0x08, 0, 0, 8, 0, 0, 3, 0x57, 0x26, 0x06, 0x02,
          12, 1, 0x2E, 0x01, 70, 0, 0, 0, 12, 1, 0x2E, 0x01]⟩ := by decide +kernel

theorem test_read_result_empty : lastReply (after (exec (.readResult .m 7 6 []) live)) .m =
    some ⟨0x10, 7, .noResult, []⟩ := by decide +kernel

/-- First 60 with count 16 gives four records of twelve bytes (R107). -/
theorem test_read_checks : (lastReply (after (exec (.readChecks .a 7 60 16) live)) .a).map
    (fun r => (r.body.length, r.body.take 3)) = some (49, [4, 60, 0]) := by decide +kernel

theorem test_read_group : lastReply (after (exec (.readGroup .a 7 1) locked)) .a =
    some ⟨0x12, 7, .ok, [1, 1, 0, 1, 0, 0, 0, 0, 0, 0]⟩ := by decide +kernel

theorem test_read_entry : lastReply (after (exec (.readEntry .b 7 0 3 1) live)) .b =
    some ⟨0x13, 7, .ok, [1, 1, 0, 3, 1, 1, 10, 5]⟩ := by decide +kernel

theorem test_open_staging : (after (exec (.openStaging .m 7) live)).planStore.staging = .opened plan1 .m := by
  decide +kernel

theorem test_write_entry_clamps :
    lastReply (after (exec (.writeEntry .a 7 5 0 [16, 9]) (withStaging live (.opened plan1 .a)))) .a =
      some ⟨0x21, 7, .ok, [1]⟩ ∧
    (after (exec (.writeEntry .a 7 5 0 [16, 9]) (withStaging live (.opened plan1 .a)))).planStore.staging =
      .opened { plan1 with guardLevel := 3 } .a := by decide +kernel

theorem test_seal : lastReply (after (exec (.seal .a 7) (withStaging live (.opened plan1 .a)))) .a =
    some ⟨0x22, 7, .ok, [2, 0]⟩ := by decide +kernel

theorem test_discard_staging_not_owner :
    lastReply (after (exec (.discardStaging .b 7) (withStaging live (.opened plan1 .a)))) .b =
      some ⟨0x23, 7, .notOwner, []⟩ := by decide +kernel

theorem test_accept_plan_activates :
    (after (exec (.acceptPlan .b 7 2) (withStaging live (.sealed plan1 2 (some (.a, 0)))))).planStore =
      { active := plan1, generation := 2, staging := .empty } := by decide +kernel

theorem test_accept_window_expiry :
    (after (exec .acceptWindowExpiry { withStaging live (.sealed plan1 2 (some (.a, 0))) with clock := 5000 })).planStore.staging
      = .empty := by decide +kernel

def latched : State := { locked with checks := locked.checks.set 0 { suspended0 with state := .latched, tally := 2 } }

theorem test_clear_latch : (after (exec (.clearLatch .a 7 0) latched)).checks[0] =
    { state := .clear, run := 0, tally := 0, last := none } := by decide +kernel

theorem test_start_quiet : (after (exec (.startQuiet .b 7 1) locked)).quiet[0] = 5 ∧
    (after (exec (.startQuiet .b 7 1) locked)).checks[0].state = .suspended := by decide +kernel

def restorable (x : Option (Link × Word)) : State :=
  withVerdict locked (fun v => { v with reasons := { v.reasons with unplanned := false, restore := true }, restore := x })

theorem test_restore_permit_pairs :
    (after (exec (.restorePermit .b 7 1) (restorable (some (.a, 0))))).verdicts[0].given = true := by decide +kernel

/-- A recorded restore shows 5000 ms at its instant and, read ahead of its expiry, 1 (R126, R127). -/
theorem test_restore_window :
    (restorable (some (.a, 0))).restoreWindow 0 = 5000 ∧
    ({ restorable (some (.a, 0)) with clock := 5000 } : State).restoreWindow 0 = 1 ∧
    (restorable none).restoreWindow 0 = 0 := by decide +kernel

theorem test_restore_window_expiry :
    (after (exec (.restoreWindowExpiry 0) { restorable (some (.a, 0)) with clock := 5000 })).verdicts[0].restore = none := by
  decide +kernel

def faulty : State :=
  { locked with audit := { locked.audit with counter := 4, mismatches := 3, auditAll := true, skips := 2 } }

theorem test_clear_faults : ((after (exec (.clearFaults .a 7) faulty)).audit.mismatches,
    (after (exec (.clearFaults .a 7) faulty)).audit.auditAll, (after (exec (.clearFaults .a 7) faulty)).audit.counter,
    (after (exec (.clearFaults .a 7) faulty)).audit.skips) = (0, false, 4, 2) := by decide +kernel

def engineOut : State := locked.setEngine .e2 { EngineSlot.reset with service := .out }

theorem test_engine_service_in :
    ((after (exec (.engineServiceIn .m 7 2 1) engineOut)).engines.get .e2).service = .inService := by decide +kernel

/-- The audit frames of channels 1 and 2 wait in the queue for E2: E1 has completed the first, whose result is kept, and
still transforms the second; an ordinary frame of channel 3 stands behind them. -/
def waitingAudits : State :=
  let f : Channel → Frame := fun c =>
    { frame1 with channel := c, joinOrder := c.val, audit := c.val < 2, engines := ⟨c.val < 2, false⟩ }
  { locked with
    buffers := Vector.ofFn (fun c : Channel => { Buffers.reset with held := if c.val < 3 then some (f c) else none })
    queue := [0, 1, 2]
    engines := ⟨{ EngineSlot.reset with hand := some ⟨f 1, .pair, 0⟩, lastCycle := 1 },
      { EngineSlot.reset with lastCycle := 9 }⟩
    audit := { AuditUnit.reset with kept := AuditUnit.reset.kept.set 0 (some ⟨.e1, (f 0).result (figuresOf 50 0 [])⟩) } }

/-- Taking E2 out abandons both: the kept result is accepted as unaudited, the other is marked, and the notice counts them
(R63, R66, R68). -/
theorem test_engine_service_out_abandons :
    let t := after (exec (.engineServiceOut .a 7 2) waitingAudits)
    t.records[0].map (fun r => (r.unaudited, r.figures.mean)) = some (true, 50) ∧
    t.engines.e1.hand.map Hand.role = some .abandoned ∧ t.queue = [2] ∧ t.engines.e2.service = .out ∧
    t.audit.kept[0] = none ∧
    t.ports.b.log.head?.map Notice.body = some (.engine .e2 9 .inService .out 2) := by decide +kernel

theorem test_engine_service_out_last :
    lastReply (after (exec (.engineServiceOut .m 7 1) engineOut)) .m = some ⟨0x34, 7, .lastEngine, []⟩ := by
  decide +kernel

theorem test_test_grant_clamps : (after (exec (.testGrant .a 7 1 1000) live)).tests[0] = .offered .a 900 0 := by
  decide +kernel

theorem test_test_grant_starts :
    (after (exec (.testGrant .b 7 1 0) (withTest live (.offered .a 1 0)))).tests[0] = .running 1000 := by decide +kernel

theorem test_offer_window_expiry :
    (after (exec (.offerWindowExpiry 0) { withTest live (.offered .a 1 0) with clock := 5000 })).tests[0] = .idle := by
  decide +kernel

def testing : State :=
  { withTest live (.running 0) with
    sources := live.sources.set 0 (.pattern 1)
    verdicts := live.verdicts.set 0 { live.verdicts[0] with
      reasons := { live.verdicts[0].reasons with test := true, restore := true }, restoreDuringTest := true } }

theorem test_test_end : (after (exec (.testEnd .m 7 1) testing)).sources[0] = .live ∧
    (after (exec (.testEnd .m 7 1) testing)).verdicts[0].reasons =
      { unplanned := true, trip := false, restore := false, stop := false, blind := true, test := false } := by
  decide +kernel

theorem test_test_run_expiry : (after (exec (.testRunExpiry 0) testing)).tests[0] = .idle := by decide +kernel

theorem test_load_pattern :
    ((after (exec (.loadPattern .m 7 4 126 [5, 6]) live)).patterns[3])[127] = 6 := by decide +kernel

theorem test_test_source : (after (exec (.testSource .m 7 1 4) testing)).sources[0] = .pattern 3 := by decide +kernel

theorem test_unknown_command : ((after (exec (.unknownCommand .b 7 0x99 [1]) live)).ports.get .b).halted = true ∧
    lastReply (after (exec (.unknownCommand .b 7 0x99 [1]) live)) .b = some ⟨0x99, 7, .malformed, []⟩ := by decide +kernel

def full : State :=
  live.setPort .a { Port.reset with replies := List.replicate 16 ⟨0x05, 0, .ok, []⟩ }

theorem test_dropped_frame : ((after (exec (.droppedFrame .a) full)).ports.get .a).dropped = true := by decide +kernel

theorem test_transfer_out :
    ((after (exec (.transferOut .a) (full.setPort .a { full.ports.a with dropped := true, halted := true }))).wires.get
      .a).status = 0x0E := by decide +kernel

theorem test_reply_read : ((after (exec (.replyRead .a) full)).wires.get .a).bytes = [0x05, 0, 0, 0, 0] ∧
    ((after (exec (.replyRead .a) full)).ports.get .a).outstanding = 15 := by decide +kernel

def halted (q : List CmdFrame) : State := live.setPort .a { Port.reset with halted := true, queue := q }

theorem test_resume : lastReply (after (exec (.resume .a) (halted [⟨0x05, 3, []⟩]))) .a = some ⟨0x05, 3, .ok, []⟩ := by
  decide +kernel

theorem test_link_reset : (after (exec (.linkReset .a) (withStaging full (.opened plan1 .a)))).planStore.staging = .empty ∧
    ((after (exec (.linkReset .a) (withStaging full (.opened plan1 .a)))).ports.get .a).log.length = 1 := by
  decide +kernel

theorem test_sync_input_sample :
    ((after (exec (.syncInputSample .r1 true) { live with now := 10 })).trackers.get .r1).candidate = some 10 := by
  decide +kernel

theorem test_tick : (after (step { live with now := 9999, trackers := ⟨{ Tracker.reset with nextSample := 10000 },
    { Tracker.reset with nextSample := 10000 }⟩ })).clock = 1 := by decide +kernel

/-! ### Witnesses: states and operands that meet the hypotheses of each statement -/

theorem ready_of {s : State} {l : Link} (h1 : s.readyPorts = [])
    (h2 : ((s.ports.get l).queue, (s.ports.get l).halted, (s.ports.get l).drain) = ([], false, none))
    (h3 : (s.ports.get l).replies.length < 16) : s.Ready l :=
  ⟨h1, by injection h2, by injection h2 with _ h; injection h, by injection h2 with _ h; injection h, h3⟩

theorem live_ready (l : Link) : live.Ready l := by
  cases l <;> exact ready_of (by decide +kernel) (by decide +kernel) (by decide +kernel)

theorem locked_ready (l : Link) : locked.Ready l := by
  cases l <;> exact ready_of (by decide +kernel) (by decide +kernel) (by decide +kernel)

/-- `live` and `locked` with something of another block changed keep their ports. -/
theorem ready_congr {s t : State} {l : Link} (h : t.ports = s.ports) (hs : s.Ready l) : t.Ready l := by
  unfold State.Ready State.calm State.readyPorts at *
  rw [h]
  exact hs

theorem witness_StepRunsTheFrontCommand : ∃ s : State, s.pending = .resume .a :: [.linkReset .b] :=
  ⟨{ live with pending := [.resume .a, .linkReset .b] }, rfl⟩

theorem witness_IdleStepPassesOneTick :
    live.pending = [] ∧ live.anyDue = false ∧ ({ live with now := 10 } : State).pending = [] ∧
    ({ live with now := 10 } : State).anyDue = true := by decide +kernel

theorem witness_ParseReadsEveryCommand :
    (Command.readResult 1 (List.replicate 254 0)).fits = true ∧ (Command.writeEntry 6 1 (List.replicate 16 0)).fits = true ∧
    (Command.loadPattern 1 0 (List.replicate 126 0)).fits = true ∧ Command.clearFaults.fits = true := by decide +kernel

theorem witness_ParsedFrameIsTheCommands :
    parse ⟨0x03, 9, [8]⟩ = some (.readNotices 8) ∧ frameOfBytes [0x03, 9, 1, 8] = some ⟨0x03, 9, [8]⟩ := by decide

theorem witness_SyncInputSampleFilters : ({ live with now := 10 } : State).sampleDue .r1 = true := by decide +kernel

theorem witness_EdgesOutsideTheWindow :
    (seekingEdge 249999 250030).readyPorts = [] ∧ (seekingEdge 249999 250030).edgeDue .r1 = true ∧
    (seekingEdge 249999 250030).trackers.r1.accepting = some 249999 ∧
    (seekingEdge 249999 250030).trackers.r1.previousEdge = some 100000 ∧ 249999 - 100000 < 150000 ∧
    (seekingEdge 325001 325030).edgeDue .r1 = true ∧ 225000 < 325001 - 100000 ∧
    (withTracker (seekingEdge 5 40) (fun t => { t with previousEdge := none })).edgeDue .r1 = true := by decide +kernel

theorem witness_LockFromSeeking :
    (∀ e ∈ [250000, 325000], (seekingEdge e (e + 30)).readyPorts = [] ∧ (seekingEdge e (e + 30)).edgeDue .r1 = true ∧
      (seekingEdge e (e + 30)).trackers.r1.accepting = some e ∧
      (seekingEdge e (e + 30)).trackers.r1.previousEdge = some 100000 ∧ 150000 ≤ e - 100000 ∧ e - 100000 ≤ 225000 ∧
      (seekingEdge e (e + 30)).trackers.r1.mode = .seeking) ∧
    (seekingEdge 300000 300030).usesRef .r1 0 = true ∧ ((seekingEdge 300000 300030).buffers[0]).fill = .idle ∧
    (seekingEdge 300000 300030).plan.checks[0].enabled = true ∧ (seekingEdge 300000 300030).checks[0].state = .suspended ∧
    (after (exec (.edgeAccepted .r1) { seekingEdge 300000 300030 with inService := locked.inService })).suspends 0 =
      false ∧
    (seekingEdge 300000 300030).lastJoin ≠ some (seekingEdge 300000 300030).now := by decide +kernel

/-- A state in which only channel 1 has anything in its buffers, and that is sound. -/
theorem buffers_of {s : State} (b : Buffers) (h : s.buffers = live.buffers.set 0 b) (h0 : b.fill.Sound 0)
    (h1 : ∀ f, b.held = some f → f.channel = 0 ∧ f.priority ≤ 3 ∧ f.joinOrder % 16 = 0 ∧ f.joinOrder / 16 ≤ s.now) :
    s.BuffersSound := by
  intro c
  rw [h]
  by_cases hc : c = 0
  · subst hc
    exact ⟨by simpa using h0, by simpa using h1⟩
  · have hb : (live.buffers.set 0 b)[c] = Buffers.reset := by
      have hv : (0 : Nat) ≠ c.val := fun hv => hc (Fin.ext hv.symm)
      simp [live, State.reset, State.powerOn, Vector.getElem_set_ne, hv]
    rw [hb]
    exact ⟨trivial, fun _ hf => (by cases hf)⟩

/-- A frame of channel 1 fills. -/
theorem filling_sound {s : State} (f : Frame) (hf : f.Unclosed 0)
    (h : s.buffers = live.buffers.set 0 { Buffers.reset with fill := .filling f }) : s.BuffersSound :=
  buffers_of _ h hf (fun _ hf => (by cases hf))

/-- A complete end, a short end (strobe 127 not issued) and a re-lock; a frame that closes, one that is left closing and one
that is discarded. -/
theorem witness_EdgeEndsTheCycle :
    (∀ s ∈ [edgeAt 200000 200030 id, edgeAt 150000 150030 (fun t => { t with nextStrobe := some 97 }),
        edgeAt 225000 225030 (fun t => { t with mode := .holding, heldCount := 1, deadline := none })],
      s.edgeDue .r1 = true ∧ s.trackers.r1.previousEdge = some 0 ∧ s.trackers.r1.mode ≠ .seeking) ∧
    (edgeAt 150000 150030 (fun t => { t with nextStrobe := some 97 })).trackers.r1.nextStrobe ≠ some 128 ∧
    (∀ e now f, (edgeAt e now f).BuffersSound) ∧
    (FillBuffer.filling frame1).closedAt .r1 .complete = some frame1 ∧
    (FillBuffer.filling emptyFrame1).ended .r1 .complete = .closing emptyFrame1 none ∧
    (FillBuffer.filling emptyFrame1).shortAt .r1 .short = true :=
  ⟨by decide +kernel, by decide +kernel, fun _ _ _ => filling_sound emptyFrame1 ⟨rfl, rfl, rfl⟩ rfl, by decide +kernel,
    by decide +kernel, by decide +kernel⟩

theorem witness_HeldCycles :
    (atDeadline.deadlineDue .r1 = true ∧
      (holdingEnd 9).heldEndDue .r1 = true ∧
      (holdingEnd 9).trackers.r1.heldCount < ((holdingEnd 9).plan.refs.get .r1).holdLimit ∧
      (holdingEnd 10).heldEndDue .r1 = true ∧
      ((holdingEnd 10).plan.refs.get .r1).holdLimit ≤ (holdingEnd 10).trackers.r1.heldCount ∧
      (holdingEnd 10).plan.checks[0].enabled = true ∧ (holdingEnd 10).plan.groups[0].ref = .r1 ∧
      (holdingEnd 10).checks[0].state = .clear) ∧
    atDeadline.BuffersSound ∧ (∀ n, (holdingEnd n).BuffersSound) :=
  ⟨by decide +kernel, filling_sound emptyFrame1 ⟨rfl, rfl, rfl⟩ rfl,
    fun _ => filling_sound emptyFrame1 ⟨rfl, rfl, rfl⟩ rfl⟩

theorem witness_StrobeStartsConversions :
    (atStrobe 1 1562).strobeDue .r1 = true ∧ (atStrobe 127 198437).strobeDue .r1 = true ∧
    (atStrobe 1 1562).usesRef .r1 0 = true ∧ ((atStrobe 1 1562).converters[0]).armed = true := by decide +kernel

/-- A filling frame, a closing one that closes and one that does not, a kept sample, and samples that go nowhere. -/
theorem witness_SampleFillsItsSlot :
    let p : PendingStart := ⟨{ emptyFrame1 with cycle := 2 }, none⟩
    (∀ x ∈ [Source.live, .pattern 2],
      (arriving x).arriving 0 1 1 = some ⟨1, 1, x, 1562, true⟩ ∧
      ((arriving x).buffers[0]).fill = .filling emptyFrame1 ∧ emptyFrame1.cycle = 1) ∧
    (∀ x, (arriving x).BuffersSound) ∧
    (∀ fill ∈ [FillBuffer.closing emptyFrame1 none, .closing emptyFrame1 (some p)],
      ∀ v ∈ [(⟨1, 127, .live, 1562, true⟩ : Conversion), ⟨1, 5, .live, 1562, true⟩, ⟨2, 0, .live, 1562, true⟩,
          ⟨3, 0, .live, 1562, true⟩, ⟨1, 5, .live, 1562, false⟩],
        (arrivingIn fill v).arriving 0 v.cycle v.slot = some v ∧
        ((arrivingIn fill v).buffers[0]).fill = fill ∧ (arrivingIn fill v).lastJoin ≠ some (arrivingIn fill v).now) ∧
    (∀ v, (arrivingIn (.closing emptyFrame1 (some p)) v).BuffersSound) ∧
    (emptyFrame1.samples.set 127 (some 50))[127].isSome = true ∧ emptyFrame1.samples[127].isSome = false :=
  ⟨by decide +kernel, fun _ => filling_sound emptyFrame1 ⟨rfl, rfl, rfl⟩ rfl, by decide +kernel,
    fun _ => buffers_of _ rfl ⟨⟨rfl, rfl, rfl⟩, ⟨rfl, rfl, rfl⟩⟩ (fun _ hf => (by cases hf)), by decide +kernel,
    by decide +kernel⟩

def withHeld (s : State) (f : Frame) (queue : List Channel) : State :=
  { s with buffers := s.buffers.set 0 { Buffers.reset with held := some f }, queue := queue }

theorem witness_FrameClose :
    ((withHeld locked { frame1 with engines := ⟨true, false⟩ } []).buffers[frame1.channel]).held =
      some { frame1 with engines := ⟨true, false⟩ } ∧
    (locked.buffers[frame1.channel]).held = none ∧ frame1.channel ∉ locked.queue ∧
    ((withHeld locked frame1 [0]).buffers[frame1.channel]).held = some frame1 ∧
    (frame1.engines.e1 || frame1.engines.e2) = false ∧
    (∀ s ∈ [locked, withHeld locked frame1 [0], { threeClosing with
        buffers := Vector.ofFn (fun c : Channel => { Buffers.reset with held := some { frame1 with
          channel := c, joinOrder := c.val } })
        queue := [4, 5, 7] }],
      s.queue.Pairwise (fun a b => s.heldPriority b < s.heldPriority a ∨
        s.heldPriority a = s.heldPriority b ∧ s.heldJoin a < s.heldJoin b) ∧
      ∀ d ∈ s.queue, s.heldJoin d < 16 * 1602) := by decide +kernel

/-- A first take that is no marking decision, one that is, and a second take; and an engine that takes nothing. -/
theorem witness_EngineTakesTheFirstEligible :
    (∀ s ∈ [withHeld locked frame1 [0],
        { withHeld locked frame1 [0] with audit := { AuditUnit.reset with counter := 15 } },
        withHeld locked { frame1 with audit := true, engines := ⟨false, true⟩ } [0]],
      (s.engines.get .e1).service = .inService ∧ (s.engines.get .e1).hand = none ∧ s.queue = [] ++ 0 :: [] ∧
      s.eligible .e1 0 = true ∧ (s.buffers[0]).held.isSome = true) ∧
    (withHeld locked frame1 [0]).plan.auditInterval = 16 ∧
    (∀ x ∈ [Service.inService, .stopping, .out],
      (((withHeld locked frame1 [0]).setEngine .e2 { EngineSlot.reset with service := x }).engines.get .e2).service = x) ∧
    (engineOut.engines.get .e2).service ≠ .inService ∧
    ({ threeClosing with lastJoin := some 1602 } : State).closesAhead = true ∧
    ({ locked with lastJoin := some 0 } : State).closesAhead = false ∧ locked.lastJoin ≠ some locked.now := by
  decide +kernel

/-- A frame accepted live, held and not evaluated, of a test; one dropped by its epoch and one by its source; the roles of an
audit; and an engine that stops. -/
theorem witness_TransformResults :
    (∀ f ∈ [frame1, { frame1 with heldFlag := true }], 
      ((inHand f .plain).engines.get .e1).hand = some ⟨f, .plain, 198477⟩ ∧
      f.epoch = ((inHand f .plain).buffers[f.channel]).epoch ∧ f.source = .live) ∧
    (inHand frame1 .plain).plan.checks[0].channel = frame1.channel ∧
    (inHand frame1 .plain).plan.checks[0].quantity = .mean ∧ (inHand frame1 .plain).checks[0].state ≠ .suspended ∧
    (inHand frame1 .plain).plan.protects ((inHand frame1 .plain).plan.groupOf frame1.channel) = true ∧
    ({ frame1 with epoch := 3 } : Frame).epoch ≠
      ((inHand { frame1 with epoch := 3 } .plain).buffers[frame1.channel]).epoch ∧
    ({ frame1 with source := .pattern 0 } : Frame).source ≠ .live ∧
    (inHand frame1 .plain).tests[0].isRunning = false ∧
    ({ plan1.groups[0] with evaluateHeld := false } : GroupSettings).evaluateHeld = false ∧
    (withTest (inHand { frame1 with source := .pattern 0 } .plain) (.running 5)).tests[0].isRunning = true ∧
    (∀ role ∈ [AuditRole.abandoned, .removed, .pair],
      ((inHand frame1 role).engines.get .e1).hand = some ⟨frame1, role, 198477⟩ ∧
      (inHand frame1 role).audit.kept[0] = none) ∧
    ((inHand frame1 .pair).setKept 0 (some ⟨.e2, frame1.result lineCurrent⟩)).audit.kept[0] =
      some ⟨.e2, frame1.result lineCurrent⟩ ∧
    (frame1.result lineCurrent).figures = (some lineCurrent).getD (transform frame1.values) ∧
    ((inHand frame1 .plain).buffers[0]).held = some frame1 := by decide +kernel

/-- The kept result of E2 with another mean: 51 against the 50 that E1 computes. -/
def auditing : State :=
  { inHand { frame1 with audit := true, engines := ⟨true, true⟩ } .pair with
    audit := { AuditUnit.reset with kept := AuditUnit.reset.kept.set 0 (some ⟨.e2, Frame.result frame1 (figuresOf 51 0 [])⟩) } }

theorem witness_TransformMismatch :
    ((auditing.engines.get .e1).hand).map Hand.role = some .pair ∧
    (auditing.audit.kept[0]).map (fun k => k.result.figures.mean) = some 51 ∧
    ((auditing.engines.get .e1).hand).map (fun h => (transform h.frame.values).mean) = some 50 ∧
    (figuresOf 51 1 []).mean = (figuresOf 51 0 []).mean ∧ (figuresOf 51 1 []).ripple ≠ (figuresOf 51 0 []).ripple ∧
    (figuresOf 51 0 [(3, 4)]).ripple = (figuresOf 51 0 []).ripple ∧
    (figuresOf 51 0 [(3, 4)]).levels ≠ (figuresOf 51 0 []).levels := by decide +kernel

theorem witness_MeanAndRipple :
    (order32.length = 128 ∧ ∀ x ∈ order32, -32768 ≤ x ∧ x ≤ 32767) ∧
    (figuresOf 3 0 []).mean.toInt.natAbs < max 4 1 ∧ max 3 1 ≤ (figuresOf 3 0 []).mean.toInt.natAbs ∧
    (lineCurrent.levels[0]).toNat < max 2001 1 ∧ max 2000 1 ≤ (lineCurrent.levels[0]).toNat := by decide +kernel

theorem witness_ConstantOffsetDropsOut : order32.length = 128 ∧ 1 ≤ 63 ∧ 63 ≤ 63 := by decide +kernel

theorem witness_BandJudgement :
    check0.quantity = .mean ∧ check0.sense = .outside ∧ check4.quantity ≠ .mean ∧
    ({ check4 with sense := .inside } : CheckEntry).sense = .inside := by decide

theorem witness_CheckTransitions :
    check0.persistence = 1 ∧ check4.persistence ≠ 1 ∧ check4.release ≠ 1 ∧
    ({ check4 with release := 1 } : CheckEntry).release = 1 ∧ check4.present 501 = true ∧ check4.present 500 = false ∧
    (2 + 1 = check4.persistence) ∧ (1 + 1 ≠ check4.persistence) ∧ (3 + 1 = check4.release) ∧ (2 + 1 ≠ check4.release) := by
  decide

theorem witness_ClearLatchActs : latched.Ready .a ∧ Link.a ≠ .m ∧ indexFrom0 64 0 = some 0 ∧ indexFrom0 64 63 = some 63 ∧
    latched.checks[0].state = .latched ∧ latched.checks[63].state ≠ .latched :=
  ⟨ready_congr rfl (locked_ready .a), by decide, by decide, by decide, by decide +kernel, by decide +kernel⟩

theorem witness_QuietCounters :
    locked.Ready .b ∧ Link.b ≠ .m ∧ indexFrom1 4 4 = some 3 ∧ quietEnding.quietEndDue[0] = true ∧
    quietEnding.quiet[0] = 1 :=
  ⟨locked_ready .b, by decide, by decide, by decide +kernel, by decide +kernel⟩

theorem witness_InServiceInputs :
    live.inService[0] = false ∧ live.tests[0].isRunning = false ∧ locked.inService[0] = true := by decide +kernel

theorem live_permits : live.PermitsSound := by
  intro g
  revert g
  decide +kernel

theorem witness_StopInputChanges : live.PermitsSound ∧ true ≠ live.stopInput := ⟨live_permits, by decide +kernel⟩

theorem witness_RestorePermitPairs :
    (∀ x, (restorable x).Ready .b) ∧ Link.b ≠ .m ∧ indexFrom1 4 1 = some 0 ∧
    (restorable none).verdicts[0].reasons.trip = false ∧ (restorable none).verdicts[0].reasons.restore = true ∧
    (restorable none).verdicts[0].restore = none ∧ (restorable (some (.b, 3))).verdicts[0].restore = some (.b, 3) ∧
    (restorable (some (.a, 3))).verdicts[0].restore = some (.a, 3) ∧ live.verdicts[0].reasons.restore = false ∧
    (withVerdict live (fun v => { v with reasons := { v.reasons with trip := true } })).verdicts[0].reasons.trip = true :=
  ⟨fun _ => ready_congr rfl (locked_ready .b), by decide, by decide, by decide +kernel, by decide +kernel,
    by decide +kernel, by decide +kernel, by decide +kernel, by decide +kernel, by decide +kernel⟩

theorem witness_PairingWindowsExpire :
    ({ restorable (some (.a, 0)) with clock := 5000 } : State).verdicts[0].restore = some (.a, 0) ∧
    ({ withStaging live (.sealed plan1 2 (some (.a, 4294962301))) with clock := 5 } : State).planStore.staging =
      .sealed plan1 2 (some (.a, 4294962301)) ∧ (5 : Word) = 4294962301 + 5000 ∧
    (withTest live (.offered .a 1 0)).tests[0] = .offered .a 1 0 ∧ (5000 : Word) = 0 + 5000 := by decide +kernel

/-- Check 0 of group 1 is ACTIVE, under MANUAL or AUTO. -/
def asserting (x : Repermit) : State :=
  { live with
    checks := live.checks.set 0 { live.checks[0] with state := .active }
    planStore := { live.planStore with active := { plan1 with
      groups := plan1.groups.set 0 { plan1.groups[0] with repermit := x } } } }

theorem witness_TermsTripAndWarn :
    live.plan.groups[0].combine = .or ∧
    ({ plan1.groups[0] with combine := .and } : GroupSettings).combine = .and ∧
    (∀ x ∈ [Repermit.manual, .auto], (asserting x).tripCondition 0 = true ∧ live.verdicts[0].reasons.trip = false ∧
      (asserting x).plan.groups[0].repermit = x) ∧ live.tripCondition 0 = false := by decide +kernel

/-- RESTORE is added with TRIP in MANUAL, and stays out in AUTO (R117); an addition of TRIP withdraws a restore (R119). -/
theorem test_recompute :
    ((asserting .manual).recompute 0 { live.verdicts[0] with restore := some (.a, 5) }).reasons.restore = true ∧
    ((asserting .manual).recompute 0 { live.verdicts[0] with restore := some (.a, 5) }).restore = none ∧
    ((asserting .auto).recompute 0 live.verdicts[0]).reasons.restore = false ∧
    ((withTest (asserting .manual) (.running 5)).recompute 0 live.verdicts[0]).restoreDuringTest = true := by decide +kernel

theorem witness_OpenStagingTests :
    (∀ l, live.Ready l) ∧ live.plan.guardLevel = 0 ∧ live.planStore.staging = .empty ∧
    (∀ x, (withStaging live x).Ready .a) ∧ (withStaging live (.opened plan1 .b)).planStore.staging = .opened plan1 .b ∧
    (withStaging live (.opened plan1 .a)).planStore.staging = .opened plan1 .a ∧
    (withStaging live (.sealed plan1 2 none)).planStore.staging = .sealed plan1 2 none ∧
    ({ live with planStore := { live.planStore with active := { plan1 with guardLevel := 3 } } } : State).plan.guardLevel =
      3 :=
  ⟨live_ready, by decide +kernel, rfl, fun _ => ready_congr rfl (live_ready .a), rfl, rfl, rfl, by decide +kernel⟩

theorem witness_WriteEntryActs :
    (withStaging live (.opened plan1 .a)).Ready .a ∧ itemSize 5 = some [16, 9].length ∧
    (withStaging live (.opened plan1 .a)).planStore.staging = .opened plan1 .a ∧
    (∀ p, live.planStore.staging ≠ .opened p .a) ∧ ¬itemNames 5 1 [16, 9] ∧ itemNames 5 0 [16, 9] ∧
    itemStored 5 0 [16, 9] = [16, 3] ∧ itemClamps 5 0 [16, 9] = 1 ∧ itemNames 4 2 [0, 0] ∧ ¬itemNames 4 3 [0, 0] ∧
    itemNames 2 16 [1, 4, 9, 0, 0, 0, 0] ∧ ¬itemNames 2 17 [1, 4, 9, 0, 0, 0, 0] ∧ itemNames 3 4 [2, 0, 0] ∧
    ¬itemNames 3 4 [3, 0, 0] ∧ itemNames 6 8 (List.replicate 16 0) ∧ ¬itemNames 6 9 (List.replicate 16 0) ∧
    itemNames 1 63 [0, 2, 16, 6, 0, 16, 0, 0, 0, 0, 0, 0, 0, 0] ∧
    ¬itemNames 1 63 [0, 2, 16, 7, 0, 16, 0, 0, 0, 0, 0, 0, 0, 0] :=
  ⟨ready_congr rfl (live_ready .a), by decide, rfl, fun _ h => (by cases h), by simp [itemNames], by simp [itemNames],
    by decide, by decide, by simp [itemNames], by simp [itemNames], by simp [itemNames], by simp [itemNames],
    by simp [itemNames], by simp [itemNames], by simp [itemNames], by simp [itemNames], by simp [itemNames],
    by simp [itemNames]⟩

def badPlan : Plan := { plan1 with channels := Plan.default.channels }

theorem witness_SealActs :
    (withStaging live (.opened plan1 .a)).Ready .a ∧ plan1.errors live.plan = [] ∧ badPlan.errors live.plan ≠ [] ∧
    (withStaging live (.opened badPlan .a)).planStore.staging = .opened badPlan .a ∧
    (∀ p, live.planStore.staging ≠ .opened p .a) :=
  ⟨ready_congr rfl (live_ready .a), by decide +kernel, by decide +kernel, rfl, fun _ h => (by cases h)⟩

theorem witness_DiscardStagingActs :
    (∀ l x, (withStaging live x).Ready l) ∧ live.planStore.staging = .empty ∧
    (withStaging live (.opened plan1 .a)).planStore.staging = .opened plan1 .a ∧
    (withStaging live (.sealed plan1 2 none)).planStore.staging = .sealed plan1 2 none :=
  ⟨fun l _ => ready_congr rfl (live_ready l), rfl, rfl, rfl⟩

theorem witness_AcceptPlanFirst :
    (∀ l x, (withStaging live x).Ready l) ∧ Link.b ≠ .m ∧ (∀ p n a, live.planStore.staging ≠ .sealed p n a) ∧
    (withStaging live (.sealed plan1 2 none)).planStore.staging = .sealed plan1 2 none ∧ (3 : Half) ≠ 2 ∧
    (withStaging live (.sealed plan1 2 (some (.b, 7)))).planStore.staging = .sealed plan1 2 (some (.b, 7)) :=
  ⟨fun l _ => ready_congr rfl (live_ready l), by decide, fun _ _ _ h => (by cases h), rfl, by decide, rfl⟩

theorem waitingAudits_kept : waitingAudits.KeptSound := by
  intro c k hk
  have h : ∀ d : Channel, (waitingAudits.audit.kept[d]).map (fun k => k.result.channel) =
      if d = 0 then some d else none := by decide +kernel
  have := h c
  rw [hk] at this
  by_cases hc : c = 0 <;> simp [hc] at this ⊢
  exact this

theorem waitingAudits_queue : waitingAudits.QueueSound where
  nodup := by decide
  ordered := by decide +kernel
  queued := by
    have h : ∀ c : Channel, c ∈ waitingAudits.queue →
        ((waitingAudits.buffers[c]).held.map (fun f => (f.audit, f.engines))).any
          (fun x => x == (false, ⟨false, false⟩) || x == (true, ⟨true, false⟩)) = true := by
      decide +kernel
    intro c hc
    have := h c hc
    generalize (waitingAudits.buffers[c]).held = x at this ⊢
    cases x with
    | none => cases this
    | some f =>
      simp only [Option.map_some, Option.any_some, Bool.or_eq_true, beq_iff_eq, Prod.mk.injEq] at this
      exact ⟨f, rfl, this.imp id (fun h => ⟨h.1, by simp [h.2]⟩)⟩
  unqueued c f hf hc := by
    have h : ∀ d : Channel, d ∉ waitingAudits.queue → (waitingAudits.buffers[d]).held = none := by decide +kernel
    rw [h c hc] at hf
    cases hf

/-- Staged plans that disable channel 1, enable channel 2 and change channel 1; one whose enabled checks are on enabled
channels, and one that leaves a group under test with no enabled channel. -/
theorem witness_SecondAcceptActivates :
    (withStaging live (.sealed badPlan 2 (some (.a, 0)))).Ready .b ∧ Link.b ≠ .m ∧ Link.a ≠ .b ∧
    plan1.channelCase badPlan 0 = .disabled ∧ plan1.channelCase plan1 0 = .unchanged ∧
    plan1.channelCase { plan1 with channels := plan1.channels.set 1 plan1.channels[0] } 1 = .enabled ∧
    plan1.channelCase { plan1 with channels := plan1.channels.set 0 { plan1.channels[0] with basePriority := 0 } } 0 =
      .changed ∧
    (∀ i : CheckIx, plan1.checks[i].enabled = true → plan1.channels[plan1.checks[i].channel].enabled = true) ∧
    (∀ i : CheckIx, Plan.default.checks[i].enabled = false) ∧ testing.tests[0].isRunning = true ∧
    (¬∃ c : Channel, Plan.default.channels[c].enabled = true ∧ Plan.default.channels[c].group = 0) ∧
    (withStaging waitingAudits (.sealed badPlan 2 (some (.a, 0)))).Ready .b ∧
    (withStaging waitingAudits (.sealed badPlan 2 (some (.a, 0)))).KeptSound ∧
    (withStaging waitingAudits (.sealed badPlan 2 (some (.a, 0)))).QueueSound ∧
    waitingAudits.plan.channelCase badPlan 0 = .disabled ∧ 0 ∈ waitingAudits.queue ∧
    waitingAudits.plan.channelCase badPlan 1 = .unchanged ∧ 1 ∈ waitingAudits.queue :=
  ⟨ready_congr rfl (live_ready .b), by decide, by decide, by decide +kernel, by decide +kernel,
    by decide +kernel, by decide +kernel, by decide +kernel, by decide +kernel, by decide +kernel, by decide +kernel,
    ready_congr rfl (locked_ready .b), waitingAudits_kept, ⟨waitingAudits_queue.nodup, waitingAudits_queue.ordered,
      waitingAudits_queue.queued, waitingAudits_queue.unqueued⟩, by decide +kernel, by decide +kernel,
    by decide +kernel, by decide +kernel⟩

theorem live_checks : live.ChecksSound := by
  intro i
  exact ⟨by revert i; decide +kernel, by revert i; decide +kernel, by revert i; decide +kernel,
    by revert i; decide +kernel, by revert i; decide +kernel, by revert i; decide +kernel, by revert i; decide +kernel,
    by revert i; decide +kernel, by revert i; decide +kernel⟩

/-- Group 1 is under test with its only channel disabled, and the same plan is sealed again: no check restarts and the test
ends. -/
def endingTest : State :=
  { withTest live (.running 5) with
    planStore := { active := badPlan, generation := 1, staging := .sealed badPlan 2 (some (.a, 0)) } }

theorem endingTest_checks : endingTest.ChecksSound := by
  intro i
  exact ⟨by revert i; decide +kernel, by revert i; decide +kernel, by revert i; decide +kernel,
    by revert i; decide +kernel, by revert i; decide +kernel, by revert i; decide +kernel, by revert i; decide +kernel,
    by revert i; decide +kernel, by revert i; decide +kernel⟩

theorem witness_ActivationRestartsChecks :
    (withStaging live (.sealed badPlan 2 (some (.a, 0)))).Ready .b ∧
    (withStaging live (.sealed badPlan 2 (some (.a, 0)))).ChecksSound ∧
    live.plan.channels[0] ≠ badPlan.channels[0] ∧ badPlan.checks[0].enabled = true ∧
    live.plan.restarts plan1 0 = false ∧
    endingTest.Ready .b ∧ endingTest.ChecksSound ∧ endingTest.plan.restarts badPlan 0 = false ∧
    endingTest.tests[0].isRunning = true ∧
    ¬∃ c : Channel, badPlan.channels[c].enabled = true ∧ badPlan.channels[c].group = 0 :=
  ⟨ready_congr rfl (live_ready .b), live_checks, by decide +kernel, by decide +kernel,
    by decide +kernel, ready_congr rfl (live_ready .b), endingTest_checks, by decide +kernel,
    by decide +kernel, by decide +kernel⟩

theorem witness_TestGrantActs :
    (∀ x, (withTest live x).Ready .b) ∧ Link.b ≠ .m ∧ indexFrom1 4 1 = some 0 ∧ (∀ x, (withTest live x).PermitsSound) ∧
    locked.inService[0] = true ∧ live.inService[0] = false ∧ live.tests[0] = .idle ∧
    (withTest live (.offered .a 900 0)).tests[0] = .offered .a 900 0 ∧ max 1 (min (900 : Half).toNat 900) = 900 ∧
    max 1 (min (0 : Half).toNat 900) = 1 ∧ (withTest live (.offered .b 1 0)).tests[0] = .offered .b 1 0 ∧
    (withTest live (.running 5)).tests[0] = .running 5 :=
  ⟨fun _ => ready_congr rfl (live_ready .b), by decide, by decide, fun _ => live_permits, by decide +kernel,
    by decide +kernel, by decide +kernel, by decide +kernel, by decide, by decide, by decide +kernel, by decide +kernel⟩

theorem witness_TestsEnd :
    testing.Ready .m ∧ indexFrom1 4 1 = some 0 ∧ testing.tests[0] = .running testing.clock ∧ testing.inService[0] = false ∧
    testing.tests[0].isRunning = true ∧ (withTest live (.offered .a 1 0)).tests[0] = .offered .a 1 0 ∧
    (withTest live (.offered .a 1 0)).Ready .m ∧ live.tests[0] = .idle :=
  ⟨ready_congr rfl (live_ready .m), by decide, by decide +kernel, by decide +kernel, by decide +kernel, by decide +kernel,
    ready_congr rfl (live_ready .m), by decide +kernel⟩

theorem witness_PatternsAndSources :
    live.Ready .m ∧ indexFrom1 4 4 = some 3 ∧ (100 : Byte).toNat + (List.replicate 28 (0 : Half)).length ≤ 128 ∧
    live.patternInUse 3 = false ∧ testing.patternInUse 1 = true ∧ testing.sources[0] = .pattern 1 ∧ testing.Ready .m ∧ indexFrom1 16 16 = some 15 ∧
    sourceOf 4 = some (.pattern 3) ∧ testing.tests[testing.plan.groupOf 0].isRunning = true ∧
    live.tests[live.plan.groupOf 0].isRunning = false :=
  ⟨live_ready .m, by decide, by decide, by decide +kernel, by decide +kernel, by decide +kernel,
    ready_congr rfl (live_ready .m), by decide,
    by decide, by decide +kernel, by decide +kernel⟩

theorem witness_ReadCommandsReply :
    (∀ x, (withStaging live x).Ready .a) ∧ indexFrom1 16 5 = some 4 ∧ live.records[4] = none ∧
    ({ live with records := live.records.set 4 (some record1) } : State).records[4] = some record1 ∧
    indexFrom0 64 60 = some 60 ∧ indexFrom1 4 1 = some 0 ∧ plan1.item 5 0 = some (.global 16 0) ∧
    (withStaging live (.opened plan1 .b)).planStore.staging = .opened plan1 .b ∧
    (withStaging live (.sealed plan1 2 none)).planStore.staging = .sealed plan1 2 none ∧ live.planStore.staging = .empty :=
  ⟨fun _ => ready_congr rfl (live_ready .a), by decide, by decide +kernel, by decide +kernel, by decide, by decide,
    by decide +kernel, rfl, rfl, rfl⟩

theorem witness_ReadStatsReply :
    live.Ready .a ∧ indexFrom1 16 1 = some 0 ∧ refOfByte 2 = some .r2 ∧
    ((0 : Byte) = 0 → indexFrom1 16 17 = none) ∧ ((0 : Byte) = 1 → refOfByte 17 = none) :=
  ⟨live_ready .a, by decide, by decide, by decide, by decide⟩

theorem witness_NoticeLogs :
    live.Ready .a ∧ (live.ports.a).mask.keeps (.sync .r1 1 .seeking .locked 5000) = true ∧
    live.ports.a.overflow = false ∧ live.ports.a.log.length < 32 ∧
    ({ Port.reset with log := List.replicate 32 ⟨0, .sync .r1 1 .seeking .locked 5000⟩ } : Port).log.length = 32 :=
  ⟨live_ready .a, by decide +kernel, by decide +kernel, by decide +kernel, by decide +kernel⟩

theorem witness_Drains :
    (behindDrain.engines.get .e1).hand = some ⟨frame1, .plain, 198477⟩ ∧
    ((inHand frame1 .plain).engines.get .e1).hand = some ⟨frame1, .plain, 198477⟩ ∧
    (inHand frame1 .plain).unsettled = [0] ∧ waitingAudits.unsettled = [0, 1, 2] ∧
    live.Ready .a ∧ live.unsettled = [] ∧ (inHand frame1 .plain).Ready .a ∧ (inHand frame1 .plain).unsettled ≠ [] ∧
    (draining.ports.get .a).drain = some { tag := 7, awaiting := [0], count := 1, started := 0 } ∧
    draining.clock = 0 + 1000 ∧ 0 ∈ [0] ∧ (∀ k ∈ [0], k = 0) ∧ (∃ k ∈ [0, 1], k ≠ 0) ∧ 2 ∉ [0] :=
  ⟨by decide +kernel, by decide +kernel, by decide +kernel, by decide +kernel, live_ready .a, by decide +kernel,
    ready_congr rfl (locked_ready .a), by decide +kernel, by decide +kernel, by decide +kernel,
    by decide, by decide, by decide, by decide⟩

theorem witness_FramesTaken :
    (full.ports.get .a).outstanding = 16 ∧ isControl (Command.clearOverflow.frame 0) = false ∧
    (Instr.clearOverflow .a 0).frame = some (.a, Command.clearOverflow.frame 0) ∧
    (halted []).readyPorts = [] ∧ ((halted []).ports.get .a).outstanding < 16 ∧ ((halted []).ports.get .a).halted = true ∧
    draining.readyPorts = [] ∧ (draining.ports.get .a).drain.isSome = true := by decide +kernel

theorem witness_Transfers :
    (live.ports.get .a).replies = [] ∧ (full.ports.get .a).replies = ⟨0x05, 0, .ok, []⟩ :: List.replicate 15 ⟨0x05, 0, .ok, []⟩ := by
  decide +kernel

theorem witness_ResumeActs :
    (live.ports.get .a).halted = false ∧ (halted []).readyPorts = [] ∧ ((halted []).ports.get .a).halted = true ∧
    ((halted []).ports.get .a).queue = [] ∧ ((halted [⟨0x05, 3, []⟩]).ports.get .a).halted = true ∧
    ((halted [⟨0x05, 3, []⟩]).ports.get .a).drain = none ∧
    ((halted [⟨0x05, 3, []⟩]).ports.get .a).queue = [⟨0x05, 3, []⟩] ∧
    (∀ s ∈ [behindDrain, halted [⟨0x05, 3, []⟩, ⟨0x05, 4, []⟩]], s.readyPorts = []) ∧
    (let s := live.setPort .a { Port.reset with queue := [⟨0x05, 3, []⟩, ⟨0x05, 4, []⟩] };
      s.readyPorts = [.a] ∧ (s.ports.get .a).queue = ⟨0x05, 3, []⟩ :: [⟨0x05, 4, []⟩] ∧
      2 ≤ (s.setPort .b { Port.reset with queue := [⟨0x05, 3, []⟩] }).readyPorts.length) ∧
    (live.ports.get .a).drain = none ∧ parse ⟨0x05, 3, []⟩ ≠ some .drainWait ∧
    parse ⟨0x06, 3, []⟩ = some .drainWait ∧ live.unsettled = [] ∧ (inHand frame1 .plain).unsettled ≠ [] ∧
    ((inHand frame1 .plain).ports.get .a).drain = none := by
  decide +kernel

theorem witness_LinkResetActs :
    (withStaging live (.opened plan1 .a)).planStore.staging = .opened plan1 .a ∧
    (withStaging live (.sealed plan1 2 (some (.a, 0)))).planStore.staging = .sealed plan1 2 (some (.a, 0)) ∧
    (∀ p, live.planStore.staging ≠ .opened p .a) ∧ (∀ p n w, live.planStore.staging ≠ .sealed p n (some (.a, w))) ∧
    (∃ t, exec (.linkReset .a) (withTest (withStaging full (.opened plan1 .a)) (.offered .a 1 0)) = .next t ∧
      (t.ports.get .a).log.map Notice.body = [.plan (some .a) .opened .empty 1,
        .test 0 .offered .idle (.cause .linkReset)]) :=
  ⟨rfl, rfl, fun _ h => (by cases h), fun _ _ _ h => (by cases h), _, rfl, by decide +kernel⟩

theorem witness_MalformedHalts :
    live.Ready .a ∧ live.Ready .m ∧ parse ⟨0x99, 7, [1]⟩ = none ∧ isControl ⟨0x99, 7, [1]⟩ = false ∧
    indexFrom1 16 0 = none ∧ indexFrom1 16 17 = none ∧ indexFrom0 64 64 = none ∧ indexFrom1 4 5 = none ∧
    indexFrom1 4 0 = none ∧ engineOfByte 3 = none ∧ 1 < (2 : Byte).toNat ∧ 127 < (128 : Byte).toNat ∧
    28 < (List.replicate 29 (0 : Half)).length ∧ 128 < (101 : Byte).toNat + (List.replicate 28 (0 : Half)).length ∧
    4 < (5 : Byte).toNat ∧ live.plan.item 7 0 = none :=
  ⟨live_ready .a, live_ready .m, by decide, by decide, by decide, by decide, by decide, by decide, by decide, by decide,
    by decide, by decide, by decide, by decide, by decide, by decide +kernel⟩

theorem witness_RefusedCommandsChangeNothing :
    live.Ready .m ∧ (Instr.clearFaults .m 7).frame = some (.m, Command.clearFaults.frame 7) ∧
    parse (Command.clearFaults.frame 7) = some .clearFaults ∧
    live.Ready .a ∧ (Instr.testSource .a 7 1 0).frame = some (.a, (Command.testSource 1 0).frame 7) ∧
    parse ((Command.testSource 1 0).frame 7) = some (.testSource 1 0) ∧
    (live.runCommand .a (.acceptPlan 2)).code ≠ .ok ∧ (live.runCommand .a (.acceptPlan 2)).code ≠ .notOutOfService :=
  ⟨live_ready .m, by decide, by decide, live_ready .a, by decide, by decide, by decide +kernel, by decide +kernel⟩

def engineStopping : State :=
  (inHand frame1 .plain).setEngine .e1
    { service := .stopping, hand := some ⟨frame1, .plain, 198477⟩, lastCycle := 1 }

theorem witness_EngineServiceActs :
    live.Ready .a ∧ engineOfByte 1 = some .e1 ∧ (live.engines.get .e1).service = .inService ∧
    waitingAudits.Ready .a ∧ waitingAudits.KeptSound ∧ waitingAudits.QueueSound ∧
    waitingAudits.waitingFor .e2 = [0, 1] ∧ (waitingAudits.audit.kept[0]).isSome = true ∧
    waitingAudits.audit.kept[1] = none ∧
    (let s := waitingAudits.setEngine .e2 { EngineSlot.reset with service := .out };
      s.queue = [] ++ 0 :: [1, 2] ∧ s.eligible .e2 0 = true ∧ (s.engines.get .e2).hand = none ∧
      (s.engines.get .e1).hand ≠ none ∧ s.lastJoin ≠ some s.now) ∧
    (live.engines.get (Engine.e1.other)).service = .inService ∧ engineStopping.Ready .a ∧
    (engineStopping.engines.get .e1).service = .stopping ∧ engineOut.Ready .a ∧ engineOfByte 2 = some .e2 ∧
    (engineOut.engines.get .e2).service = .out ∧ (engineOut.engines.get .e1).service = .inService ∧
    (engineOut.engines.get (Engine.e1.other)).service ≠ .inService :=
  ⟨live_ready .a, by decide, by decide +kernel,
    ready_congr rfl (locked_ready .a), waitingAudits_kept, waitingAudits_queue, by decide +kernel,
    by decide +kernel, by decide +kernel, by decide +kernel, by decide +kernel,
    ready_congr rfl (locked_ready .a), by decide +kernel, ready_congr rfl (locked_ready .a), by decide,
    by decide +kernel, by decide +kernel, by decide +kernel⟩

theorem witness_ClearFaultsActs : faulty.Ready .a ∧ Link.a ≠ .m ∧ faulty.Ready .m :=
  ⟨ready_congr rfl (locked_ready .a), by decide, ready_congr rfl (locked_ready .m)⟩

/-! The invariants are witnessed by `live` with a command waiting, whose step answers a next state. -/

def waiting : State := { live with pending := [.openStaging .a 7] }

theorem waiting_steps : ∃ t, step waiting = .next t := ⟨_, rfl⟩

theorem witness_PortsStaySound : waiting.PortsSound ∧ waiting.calm ∧ ∃ t, step waiting = .next t :=
  ⟨fun l => by cases l <;> exact ⟨by decide +kernel, by decide +kernel, fun _ => rfl, fun _ h => (by cases h)⟩,
    (by decide +kernel : waiting.readyPorts = []), waiting_steps⟩

theorem plan1_inRange : plan1.InRange :=
  ⟨by decide +kernel, by decide +kernel, by decide +kernel, fun r => by cases r <;> decide +kernel, by decide +kernel,
    by decide +kernel⟩

theorem waiting_plans : waiting.PlansInRange := ⟨plan1_inRange, fun _ h => (by cases h)⟩

theorem witness_PlansStayInRange : waiting.PlansInRange ∧ waiting.SealSound ∧
    waiting.pending.head? ≠ some .powerOnReset ∧ ∃ t, step waiting = .next t :=
  ⟨waiting_plans, fun _ _ _ h => (by cases h), by decide, waiting_steps⟩

theorem waiting_trackers : waiting.TrackersSound := fun r => by
  cases r <;> exact ⟨by decide, by decide, by decide, fun _ h => (by cases h), by decide, by decide⟩

theorem witness_TrackersStaySound : waiting.TrackersSound ∧ ∃ t, step waiting = .next t :=
  ⟨waiting_trackers, waiting_steps⟩

/-- Channel 1 has a frame in the queue and a conversion in progress, and a command waits. -/
def queued : State :=
  { withHeld (arriving .live) frame1 [0] with pending := [.openStaging .a 7] }

theorem queued_queue : queued.QueueSound where
  nodup := by decide
  ordered := by decide
  queued c hc := by
    have : c = 0 := by simpa [queued, withHeld] using hc
    subst this
    exact ⟨frame1, rfl, .inl ⟨rfl, rfl⟩⟩
  unqueued c f hf hc := by
    have hc0 : c ≠ 0 := by simpa [queued, withHeld] using hc
    have h0 : ∀ d : Channel, d ≠ 0 → (queued.buffers[d]).held = none := by decide +kernel
    have := h0 c hc0
    rw [this] at hf
    cases hf

/-- E1 has taken an audit frame that E2, which is busy, has still to take. -/
def taken : State :=
  { withHeld live { frame1 with audit := true, engines := ⟨true, false⟩ } [0] with
    engines := ⟨EngineSlot.reset, { EngineSlot.reset with hand := some ⟨{ frame1 with channel := 1 }, .plain, 0⟩ }⟩
    pending := [.openStaging .a 7] }

theorem witness_EnginesStaySound :
    (waiting.EnginesSound ∧ waiting.AuditSound ∧ waiting.TransformsInTime ∧ ∃ t, step waiting = .next t) ∧
    (queued.BuffersSound ∧ queued.QueueSound ∧ queued.ConversionsInTime ∧ ∃ t, step queued = .next t) ∧
    (waitingAudits.KeptSound ∧ ∃ t, step { waitingAudits with pending := [.engineServiceOut .a 7 2] } = .next t) ∧
    (taken.EnginesSound ∧ taken.TakesDone ∧ taken.queue = [0] ∧ taken.joining = false ∧ ∃ t, step taken = .next t) :=
  ⟨⟨⟨fun e => by cases e <;> exact ⟨by decide, by decide⟩, .inl rfl⟩,
      ⟨by decide, by decide, by decide, by decide, by decide⟩, fun e h he => (by cases e <;> cases he), waiting_steps⟩,
    ⟨buffers_of { Buffers.reset with held := some frame1 } (by decide +kernel) trivial
      (fun f hf => (by cases hf; exact ⟨rfl, by decide, rfl, by decide⟩)),
    queued_queue, (by unfold State.ConversionsInTime; decide +kernel), _, rfl⟩, ⟨waitingAudits_kept, _, rfl⟩,
    ⟨fun e => by cases e <;> exact ⟨by decide +kernel, by decide +kernel⟩, .inl rfl⟩,
    fun _ e => (by cases e <;> decide +kernel), rfl, by decide +kernel, _, rfl⟩

theorem witness_ChecksStaySound : waiting.PlansInRange ∧ waiting.ChecksSound ∧ ∃ t, step waiting = .next t :=
  ⟨waiting_plans, live_checks, waiting_steps⟩

theorem witness_PermitsFollowTheReasons : waiting.PermitsSound ∧ ∃ t, step waiting = .next t :=
  ⟨live_permits, waiting_steps⟩

theorem witness_VerdictsStayCurrent : waiting.VerdictsCurrent ∧ waiting.ReasonsCurrent ∧ ∃ t, step waiting = .next t :=
  ⟨⟨by decide +kernel, by decide +kernel⟩, by unfold State.ReasonsCurrent; decide +kernel, waiting_steps⟩

theorem witness_TestsStaySound : waiting.SourcesSound ∧ waiting.PairingsSound ∧ ∃ t, step waiting = .next t :=
  ⟨by unfold State.SourcesSound; decide +kernel,
    fun g => ⟨fun _ _ _ h => (by revert h; fin_cases g <;> simp [waiting, live, State.reset, State.powerOn]),
      fun _ h => (by revert h; fin_cases g <;> simp [waiting, live, State.reset, State.powerOn, Verdict.reset])⟩,
    waiting_steps⟩

end Sys2Proof.Tests
end

section
/-! SUPPORT. The held buffers and the frame queue: what a write at one channel leaves of the others, where a frame
that joins stands (R28), and what each way to close a frame is (R25). -/

namespace Sys2Proof.Machine

/-! ### One value for each channel, check or group -/

theorem vector_getElem_set {α : Type} {n : Nat} (v : Vector α n) (c d : Fin n) (x : α) :
    (v.set c x)[d] = if d = c then x else v[d] := by
  simp [Vector.getElem_set, Fin.val_inj, eq_comm]

theorem vector_getElem_set_self {α : Type} {n : Nat} (v : Vector α n) (c : Fin n) (x : α) : (v.set c x)[c] = x := by
  rw [vector_getElem_set, if_pos rfl]

theorem vector_getElem_set_ne {α : Type} {n : Nat} (v : Vector α n) {c d : Fin n} (h : d ≠ c) (x : α) :
    (v.set c x)[d] = v[d] := by
  rw [vector_getElem_set, if_neg h]

/-- What a setter of a channel's buffers leaves under that channel. -/
theorem setBuffers_at (s : State) (c : Channel) (b : Buffers) : (s.setBuffers c b).buffers[c] = b :=
  vector_getElem_set_self _ _ _

theorem setBuffers_at_ne (s : State) {c d : Channel} (h : d ≠ c) (b : Buffers) :
    (s.setBuffers c b).buffers[d] = s.buffers[d] :=
  vector_getElem_set_ne _ h _

/-! ### Sorted lists -/

/-- What stands in a sorted list behind its leading elements of `p` holds none of `p`, when `p` passes from an element
to those before it. -/
theorem dropWhile_false_of_pairwise {α : Type} {r : α → α → Prop} {p : α → Bool} {l : List α}
    (down : ∀ a ∈ l, ∀ b ∈ l, r a b → p b = true → p a = true) (sorted : l.Pairwise r) :
    ∀ b ∈ l.dropWhile p, p b = false := by
  induction l with
  | nil => simp
  | cons a l ih =>
    have tail := ih (fun x hx y hy => down x (.tail a hx) y (.tail a hy)) (List.pairwise_cons.1 sorted).2
    cases ha : p a with
    | true => simpa [ha] using tail
    | false =>
      have after : ∀ b ∈ l, p b = false := fun b hb => by
        by_contra hp
        rw [Bool.not_eq_false] at hp
        have := down a (.head l) b (.tail a hb) ((List.pairwise_cons.1 sorted).1 b hb) hp
        simp [ha] at this
      simpa [ha] using after

/-! ### The priority of a frame (R27) -/

theorem boosts_iff (x : CheckState) : x.boosts = true ↔ x ∈ [CheckState.rising, .active, .falling, .latched] := by
  cases x <;> decide

theorem priorityOf_eq (s : State) (c : Channel) :
    s.priorityOf c = min 3 (s.plan.channels[c].basePriority +
      if (∃ i : CheckIx, s.plan.channels[s.plan.checks[i].channel].group = s.plan.channels[c].group ∧
        s.checks[i].state ∈ [CheckState.rising, .active, .falling, .latched]) then 1 else 0) := by
  have boosted : ((List.finRange 64).any
      (fun i => s.plan.checkGroup i == s.plan.groupOf c && s.checks[i].state.boosts) = true) ↔
      ∃ i : CheckIx, s.plan.channels[s.plan.checks[i].channel].group = s.plan.channels[c].group ∧
        s.checks[i].state ∈ [CheckState.rising, .active, .falling, .latched] := by
    simp only [List.any_eq_true, List.mem_finRange, true_and, Bool.and_eq_true, beq_iff_eq, boosts_iff,
      Plan.checkGroup, Plan.groupOf]
  simp only [State.priorityOf, boosted]

/-! ### The place in the queue (R28) -/

/-- The queued frame of channel `a` stands before that of `b`: by level, and within a level by join order (R28). -/
def State.queueOrder (s : State) (a b : Channel) : Prop :=
  s.heldPriority b < s.heldPriority a ∨ s.heldPriority a = s.heldPriority b ∧ s.heldJoin a < s.heldJoin b

theorem standsBefore_iff (s : State) (priority j : Nat) (d : Channel) : s.standsBefore priority j d = true ↔
    priority < s.heldPriority d ∨ s.heldPriority d = priority ∧ s.heldJoin d < j := by
  simp [State.standsBefore]

theorem standsBefore_eq_false_iff (s : State) (priority j : Nat) (d : Channel) : s.standsBefore priority j d = false ↔
    s.heldPriority d < priority ∨ s.heldPriority d = priority ∧ j ≤ s.heldJoin d := by
  rw [← Bool.not_eq_true, standsBefore_iff]
  omega

/-- What stands before a frame in the queue order has the frames ordered ahead of it there as well. -/
theorem standsBefore_of_queueOrder {s : State} {a b : Channel} {priority j : Nat} (h : s.queueOrder a b)
    (hb : s.standsBefore priority j b = true) : s.standsBefore priority j a = true := by
  rw [standsBefore_iff] at hb ⊢
  unfold State.queueOrder at h
  omega

theorem standsBefore_congr {s t : State} {d : Channel} (h : (t.buffers[d]).held = (s.buffers[d]).held)
    (priority j : Nat) : t.standsBefore priority j d = s.standsBefore priority j d := by
  unfold State.standsBefore State.heldPriority State.heldJoin
  rw [h]

/-- Frame `f` has come from `s` into the held buffer of its channel in `t`, with the priority of its close, and stands
in `queue` at its own place (R25, R27, R28). -/
def State.JoinsAt (s t : State) (f : Frame) (queue : List Channel) : Prop :=
  ∃ ahead behind, queue = ahead ++ behind ∧ t.queue = ahead ++ f.channel :: behind ∧
    (∀ d ∈ ahead, s.priorityOf f.channel < s.heldPriority d ∨
      s.heldPriority d = s.priorityOf f.channel ∧ s.heldJoin d < 16 * s.now + f.channel.val) ∧
    (∀ d ∈ behind, s.heldPriority d < s.priorityOf f.channel ∨
      s.heldPriority d = s.priorityOf f.channel ∧ 16 * s.now + f.channel.val ≤ s.heldJoin d) ∧
    ((∀ d ∈ queue, s.heldJoin d < 16 * s.now) →
      (∀ d ∈ ahead, s.priorityOf f.channel ≤ s.heldPriority d) ∧
      (∀ d ∈ behind, s.heldPriority d < s.priorityOf f.channel)) ∧
    (t.buffers[f.channel]).held =
      some { f with priority := s.priorityOf f.channel, joinOrder := 16 * s.now + f.channel.val }

/-- A frame that joins in `u`, which has of `s` the clock and the held buffers of the queue, stands at its own place. -/
theorem joinQueue_joinsAt {s u : State} {f : Frame} (now : u.now = s.now) (fresh : f.channel ∉ u.queue)
    (held : ∀ d ∈ u.queue, (u.buffers[d]).held = (s.buffers[d]).held) (sorted : u.queue.Pairwise s.queueOrder) :
    s.JoinsAt (u.joinQueue { f with priority := s.priorityOf f.channel }) f u.queue := by
  let f1 : Frame := { f with priority := s.priorityOf f.channel, joinOrder := joinOrderAt u.now f.channel }
  let before := (u.setBuffers f.channel { u.buffers[f.channel] with held := some f1 }).standsBefore
    (s.priorityOf f.channel) (joinOrderAt u.now f.channel)
  have key : ∀ d ∈ u.queue, before d = s.standsBefore (s.priorityOf f.channel) (16 * s.now + f.channel.val) d := by
    intro d hd
    have ne : d ≠ f.channel := fun e => fresh (e ▸ hd)
    simp only [before, joinOrderAt, now]
    exact standsBefore_congr (by rw [setBuffers_at_ne _ ne, held d hd]) _ _
  have ahead : ∀ d ∈ u.queue.takeWhile before,
      s.standsBefore (s.priorityOf f.channel) (16 * s.now + f.channel.val) d = true := fun d hd => by
    rw [← key d ((List.takeWhile_prefix _).subset hd)]
    exact List.mem_takeWhile_imp hd
  have behind : ∀ d ∈ u.queue.dropWhile before,
      s.standsBefore (s.priorityOf f.channel) (16 * s.now + f.channel.val) d = false := fun d hd => by
    rw [← key d ((List.dropWhile_suffix _).subset hd)]
    refine dropWhile_false_of_pairwise (fun a ha b hb hab hp => ?_) sorted d hd
    rw [key a ha]
    exact standsBefore_of_queueOrder hab (key b hb ▸ hp)
  simp only [standsBefore_iff] at ahead
  simp only [standsBefore_eq_false_iff] at behind
  refine ⟨_, _, List.takeWhile_append_dropWhile.symm, rfl, ahead, behind,
    fun earlier => ⟨fun d hd => ?_, fun d hd => ?_⟩, ?_⟩
  · have := ahead d hd
    omega
  · have := behind d hd
    have := earlier d ((List.dropWhile_suffix _).subset hd)
    omega
  · simp only [State.joinQueue]
    rw [setBuffers_at]
    simp only [joinOrderAt, now]

/-- A join touches no counter. -/
theorem joinQueue_counters (s : State) (f : Frame) (c : Channel) :
    ((s.joinQueue f).buffers[c]).counters = (s.buffers[c]).counters := by
  simp only [State.joinQueue, setBuffers_buffers, vector_getElem_set]
  split
  · next h => rw [h]
  · rfl

/-! ### Settling (R30, R31) -/

theorem release_of_join {s : State} {c : Channel} {f : Frame} (h : (s.buffers[c]).held = some f) :
    s.release c f.joinOrder = (s.setBuffers c { s.buffers[c] with held := none }).dequeue c := by
  unfold State.release
  dsimp only
  rw [h]
  exact if_pos rfl

theorem release_of_ne {s : State} {c : Channel} {j : Nat} (h : ∀ f, (s.buffers[c]).held = some f → f.joinOrder ≠ j) :
    s.release c j = s := by
  unfold State.release
  dsimp only
  split
  · next f hf => exact if_neg (h f hf)
  · rfl

theorem heldAfter_of_ne {j : Nat} {o : Option Frame} (h : ∀ f, o = some f → f.joinOrder ≠ j) : heldAfter j o = o := by
  cases o with
  | none => rfl
  | some f => exact if_neg (h f rfl)

theorem settle_buffers (s : State) (c : Channel) (j : Nat) : (s.settle c j).buffers = (s.release c j).buffers := rfl

theorem settle_queue (s : State) (c : Channel) (j : Nat) : (s.settle c j).queue = (s.release c j).queue := rfl

/-- A settling as the buffers and the queue show it. -/
theorem settle_settles (s : State) (c : Channel) (j : Nat) : s.Settles (s.settle c j) c j := by
  unfold State.Settles
  rw [settle_buffers, settle_queue]
  by_cases h : ∃ f, (s.buffers[c]).held = some f ∧ f.joinOrder = j
  · obtain ⟨f, hf, rfl⟩ := h
    rw [release_of_join hf, hf, dequeue_buffers, setBuffers_buffers, heldAfter, if_pos rfl]
    exact ⟨fun d => vector_getElem_set _ _ _ _, by simp⟩
  · have ne : ∀ f, (s.buffers[c]).held = some f → f.joinOrder ≠ j := fun f hf e => h ⟨f, hf, e⟩
    rw [release_of_ne ne, heldAfter_of_ne ne]
    refine ⟨fun d => ?_, (if_neg ?_).symm⟩
    · split
      · next e => rw [e]
      · rfl
    · cases hb : (s.buffers[c]).held with
      | none => simp
      | some f => simpa using ne f hb

theorem settle_held (s : State) (c : Channel) (j : Nat) :
    ((s.settle c j).buffers[c]).held = heldAfter j (s.buffers[c]).held := by
  rw [(settle_settles s c j).1 c, if_pos rfl]

theorem settle_ports_get (s : State) (c : Channel) (j : Nat) (l : Link) :
    (s.settle c j).ports.get l = (s.ports.get l).settled j := by
  rw [← release_ports s c j]
  cases l <;> rfl

/-! ### The close of a frame (R25) -/

theorem closeFrame_of_held_none {s : State} {f : Frame} (h : (s.buffers[f.channel]).held = none) :
    s.closeFrame f = (s.setBuffers f.channel { s.buffers[f.channel] with
      counters := (s.buffers[f.channel]).counters.countClose f.clipped }).joinQueue
        { f with priority := s.priorityOf f.channel } := by
  simp only [State.closeFrame, h]

theorem closeFrame_of_taken {s : State} {f old : Frame} (h : (s.buffers[f.channel]).held = some old)
    (taken : (old.engines.e1 || old.engines.e2) = true) :
    s.closeFrame f = s.setBuffers f.channel { s.buffers[f.channel] with
      counters := { (s.buffers[f.channel]).counters.countClose f.clipped with
        lost := min ((s.buffers[f.channel]).counters.lost + 1) 65535 } } := by
  simp only [State.closeFrame, h, taken, if_true]
  rfl

/-- The state in which a frame of channel `c` supersedes the buffered frame of join order `j`, ahead of its own join. -/
def State.superseded (s : State) (c : Channel) (clipped : Bool) (j : Nat) : State :=
  ((s.setBuffers c { s.buffers[c] with
      counters := { (s.buffers[c]).counters.countClose clipped with
        superseded := min ((s.buffers[c]).counters.superseded + 1) 65535 } }).dequeue c).settle c j

theorem closeFrame_of_untaken {s : State} {f old : Frame} (h : (s.buffers[f.channel]).held = some old)
    (untaken : (old.engines.e1 || old.engines.e2) = false) :
    s.closeFrame f = (s.superseded f.channel f.clipped old.joinOrder).joinQueue
      { f with priority := s.priorityOf f.channel } := by
  unfold State.closeFrame
  dsimp only
  split
  · next isNone => exact absurd (isNone.symm.trans h) nofun
  · next old' isSome =>
    obtain rfl : old' = old := Option.some.inj (isSome.symm.trans h)
    rw [if_neg (by simp [untaken])]
    rfl

/-! ### A frame that supersedes -/

theorem superseded_buffers (s : State) (c d : Channel) {clipped : Bool} {j : Nat} :
    (s.superseded c clipped j).buffers[d] = if d = c then { s.buffers[c] with
        held := heldAfter j (s.buffers[c]).held
        counters := { (s.buffers[c]).counters.countClose clipped with
          superseded := min ((s.buffers[c]).counters.superseded + 1) 65535 } }
      else s.buffers[d] := by
  unfold State.superseded
  rw [(settle_settles _ c j).1 d, dequeue_buffers, setBuffers_at]
  split
  · rfl
  · next h => exact setBuffers_at_ne s h _

/-- The superseded frame has left the queue, whether its settling found a place or not. -/
theorem superseded_queue (s : State) (c : Channel) (clipped : Bool) (j : Nat) :
    (s.superseded c clipped j).queue = s.queue.filter (fun d => d != c) := by
  unfold State.superseded
  rw [(settle_settles _ c j).2]
  split <;> simp

theorem closeFrame_joins_of_untaken {s : State} {f old : Frame} (h : (s.buffers[f.channel]).held = some old)
    (untaken : (old.engines.e1 || old.engines.e2) = false) (sorted : s.queue.Pairwise s.queueOrder) :
    s.JoinsAt (s.closeFrame f) f (s.queue.filter (fun d => d != f.channel)) := by
  have queue := superseded_queue s f.channel f.clipped old.joinOrder
  have now : (s.superseded f.channel f.clipped old.joinOrder).now = s.now := settle_changes _ _ _ .now (by decide)
  rw [closeFrame_of_untaken h untaken, ← queue]
  refine joinQueue_joinsAt now ?_ (fun d hd => ?_) ?_
  · simp [queue]
  · rw [queue, List.mem_filter] at hd
    have ne : d ≠ f.channel := bne_iff_ne.1 hd.2
    rw [superseded_buffers, if_neg ne]
  · rw [queue]
    exact sorted.filter _

theorem closeFrame_joins_of_held_none {s : State} {f : Frame} (h : (s.buffers[f.channel]).held = none)
    (fresh : f.channel ∉ s.queue) (sorted : s.queue.Pairwise s.queueOrder) :
    s.JoinsAt (s.closeFrame f) f s.queue := by
  rw [closeFrame_of_held_none h]
  refine joinQueue_joinsAt (by rfl) fresh (fun d hd => ?_) sorted
  have ne : d ≠ f.channel := fun e => fresh (e ▸ hd)
  rw [setBuffers_at_ne s ne]

theorem count_eq_one_of_joinsAt {s t : State} {f : Frame} {queue : List Channel} (h : s.JoinsAt t f queue)
    (fresh : f.channel ∉ queue) : t.queue.count f.channel = 1 := by
  obtain ⟨ahead, behind, rfl, ht, -⟩ := h
  rw [List.mem_append, not_or] at fresh
  rw [ht, List.count_append, List.count_cons_self, List.count_eq_zero_of_not_mem fresh.1,
    List.count_eq_zero_of_not_mem fresh.2]

/-- Settles O14: the place in the queue is `joinQueue_joinsAt`, for the state in which the frame joins. -/
theorem frameClose : Obligations.FrameClose := by
  refine ⟨priorityOf_eq, fun s f old => closeFrame_of_taken, fun s f h fresh sorted => ?_,
    fun s f old h untaken sorted => ?_, fun _ _ => rfl⟩
  · refine ⟨closeFrame_joins_of_held_none h fresh sorted, ?_⟩
    rw [closeFrame_of_held_none h, joinQueue_counters, setBuffers_at]
  · have joins := closeFrame_joins_of_untaken h untaken sorted
    refine ⟨joins, ?_, count_eq_one_of_joinsAt joins (by simp)⟩
    rw [closeFrame_of_untaken h untaken, joinQueue_counters, superseded_buffers, if_pos rfl]

end Sys2Proof.Machine
end

section
/-! SUPPORT. The takes of the engines: the frame an idle engine takes (R52, R53), what a take decides about its audit
(R56 to R58), and when the engines take at all. -/

namespace Sys2Proof.Machine

theorem other_ne (e : Engine) : e.other ≠ e := by cases e <;> decide

/-! ### The audit decision (R56 to R58) -/

theorem decides_iff (a : AuditUnit) (k : Nat) :
    a.decides k = true ↔ a.auditAll = true ∨ k ≠ 0 ∧ k ≤ a.counter + 1 := by simp [AuditUnit.decides]

theorem auditTake_of_decides {a : AuditUnit} {k : Nat} (h : a.decides k = true) (other : Service) :
    (a.take k other).counter = 0 ∧
      (a.take k other).skips = if other = .out then min (a.skips + 1) 65535 else a.skips := by
  simp [AuditUnit.take, AuditUnit.countTake, h, bump16]

theorem auditTake_of_not_decides {a : AuditUnit} {k : Nat} (h : a.decides k = false) (other : Service) :
    (a.take k other).counter = (if k = 0 then a.counter else a.counter + 1) ∧ (a.take k other).skips = a.skips := by
  simp [AuditUnit.take, AuditUnit.countTake, h]

theorem mark_of_decides {a : AuditUnit} {k : Nat} (h : a.decides k = true) (other : Service) :
    a.mark k other = match other with
      | .inService => .marked
      | .stopping => .abandoned
      | .out => .unmarked := if_pos h

theorem mark_of_not_decides {a : AuditUnit} {k : Nat} (h : a.decides k = false) (other : Service) :
    a.mark k other = .unmarked := by simp [AuditUnit.mark, h]

/-- What completing the transform does with the result, by what the first take has decided (R54). -/
def Mark.role : Mark → AuditRole
  | .unmarked => .plain
  | .marked => .pair
  | .abandoned => .abandoned

/-! ### One take (R53) -/

/-- The state after engine `e` has taken frame `f` of channel `c`: the engine is named in the frame, in its hand as in
the held buffer, and the frame's audit mark, its role, the queue and the audit unit are as given. -/
def State.taken (s : State) (e : Engine) (c : Channel) (f : Frame) (marked : Bool) (role : AuditRole)
    (queue : List Channel) (audit : AuditUnit) : State :=
  let f1 : Frame := { f with audit := marked, engines := f.engines.set e true }
  { s with
    buffers := s.buffers.set c { s.buffers[c] with held := some f1 }
    queue := queue
    audit := audit
    engines := s.engines.set e { s.engines.get e with hand := some ⟨f1, role, s.now⟩, lastCycle := f.cycle } }

/-- A take, whatever it decides: a second one leaves the audit unit and takes the frame from the queue, a first one
decides on the mark, and a frame marked audit stays in the queue. -/
theorem takeFrame_taken (s : State) (e : Engine) (c : Channel) (f : Frame) : ∃ marked role queue audit,
    s.takeFrame e c f = s.taken e c f marked role queue audit ∧
    (f.audit = true → marked = true ∧ role = .pair ∧ queue = s.queue.filter (fun d => d != c) ∧ audit = s.audit) ∧
    (f.audit = false →
      let other := (s.engines.get e.other).service
      let mark := s.audit.mark s.plan.auditInterval other
      marked = (mark != .unmarked) ∧ role = mark.role ∧
      queue = (if mark = .marked then s.queue else s.queue.filter (fun d => d != c)) ∧
      audit = s.audit.take s.plan.auditInterval other) := by
  cases ha : f.audit with
  | true =>
    refine ⟨f.audit, .pair, _, _, ?_, fun _ => ⟨ha, rfl, rfl, rfl⟩, nofun⟩
    unfold State.takeFrame
    exact if_pos ha
  | false =>
    refine ⟨_, _, _, _, ?_, nofun, fun _ => ⟨rfl, rfl, rfl, rfl⟩⟩
    unfold State.takeFrame
    rw [ha, if_neg Bool.false_ne_true]
    dsimp only
    cases s.audit.mark s.plan.auditInterval (s.engines.get e.other).service <;> rfl

/-- An engine that can take takes the first frame in queue order that is eligible for it. -/
theorem engineTake_of_first {s : State} {e : Engine} {c : Channel} {ahead behind : List Channel} {f : Frame}
    (inService : (s.engines.get e).service = .inService) (idle : (s.engines.get e).hand = none)
    (queue : s.queue = ahead ++ c :: behind) (passed : ∀ d ∈ ahead, s.eligible e d = false)
    (eligible : s.eligible e c = true) (held : (s.buffers[c]).held = some f) :
    s.engineTake e = s.takeFrame e c f := by
  have first : s.queue.find? (s.eligible e) = some c :=
    List.find?_eq_some_iff_append.2 ⟨eligible, ahead, behind, queue, fun d hd => by simp [passed d hd]⟩
  unfold State.engineTake
  dsimp only
  rw [if_pos ⟨inService, idle⟩, first]
  dsimp only
  rw [held]

/-- An engine takes nothing, or the buffered frame of a channel that is eligible for it, being IN SERVICE and idle. -/
theorem engineTake_cases (s : State) (e : Engine) : s.engineTake e = s ∨
    ∃ c f, (s.engines.get e).service = .inService ∧ (s.engines.get e).hand = none ∧ c ∈ s.queue ∧
      s.eligible e c = true ∧ (s.buffers[c]).held = some f ∧ s.engineTake e = s.takeFrame e c f := by
  unfold State.engineTake
  dsimp only
  split
  · next can =>
    split
    · next c hc =>
      split
      · next f hf => exact .inr ⟨c, f, can.1, can.2, List.mem_of_find?_eq_some hc, List.find?_some hc, hf, rfl⟩
      · exact .inl rfl
    · exact .inl rfl
  · exact .inl rfl

theorem engineTake_of_nothing {s : State} {e : Engine} (h : (s.engines.get e).service ≠ .inService ∨
    (s.engines.get e).hand ≠ none ∨ ∀ c ∈ s.queue, s.eligible e c = false) : s.engineTake e = s := by
  refine (engineTake_cases s e).resolve_right ?_
  rintro ⟨c, f, inService, idle, queued, eligible, -⟩
  rcases h with h | h | h
  · exact h inService
  · exact h idle
  · exact absurd eligible (by simp [h c queued])

/-! ### When the engines take (R52) -/

theorem deadlineTick_iff (s : State) (r : Ref) : s.deadlineTick r = true ↔
    (s.trackers.get r).mode = .locked ∧ (s.trackers.get r).deadline = some s.now := by
  simp [State.deadlineTick]

theorem heldEndTick_iff (s : State) (r : Ref) : s.heldEndTick r = true ↔
    (s.trackers.get r).mode = .holding ∧ ∃ st, (s.trackers.get r).start = some st ∧
      s.now = st + (s.trackers.get r).period := by
  unfold State.heldEndTick
  dsimp only
  split
  · next st mode start => simp [mode, start]
  · next other =>
    refine ⟨nofun, ?_⟩
    rintro ⟨mode, st, start, -⟩
    exact (other st mode start).elim

theorem exists_ref (p : Ref → Prop) : (∃ r, p r) ↔ p .r1 ∨ p .r2 :=
  ⟨fun ⟨r, h⟩ => by cases r <;> simp [h], fun h => h.elim (⟨_, ·⟩) (⟨_, ·⟩)⟩

theorem closesAhead_iff (s : State) : s.closesAhead = true ↔
    (∃ r : Ref, s.sampleDue r = true ∨ (s.trackers.get r).accepting.isSome = true ∨
      (s.trackers.get r).mode = .locked ∧ (s.trackers.get r).deadline = some s.now ∨
      (s.trackers.get r).mode = .holding ∧ ∃ st, (s.trackers.get r).start = some st ∧
        s.now = st + (s.trackers.get r).period) ∨
    ∃ c : Channel, s.arrivalDue c = true := by
  simp only [State.closesAhead, exists_ref, Bool.or_eq_true, List.any_cons, List.any_nil, Bool.or_false,
    List.any_eq_true, List.mem_finRange, true_and, deadlineTick_iff, heldEndTick_iff, or_assoc]

theorem joining_iff (s : State) : s.joining = true ↔ s.lastJoin = some s.now ∧ s.closesAhead = true := by
  simp [State.joining]

theorem enginesTake_of_joining {s : State} (h : s.joining = true) : s.enginesTake = s := if_pos h

theorem enginesTake_of_not_joining {s : State} (h : ¬s.joining = true) :
    s.enginesTake = (s.engineTake .e1).engineTake .e2 := if_neg h

/-- Settles O15: the take is `takeFrame_taken` for the first eligible frame. -/
theorem engineTakesTheFirstEligible : Obligations.EngineTakesTheFirstEligible := by
  refine ⟨fun s e c ahead behind f inService idle queue passed eligible held => ?_,
    fun s e => engineTake_of_nothing, fun s => ⟨closesAhead_iff s, fun joined ahead => ?_, fun joined clear => ?_,
      fun h => ?_, fun h => if_neg h⟩⟩
  · obtain ⟨marked, role, q, audit, take, second, first⟩ := takeFrame_taken s e c f
    rw [engineTake_of_first inService idle queue passed eligible held]
    have shape : audit = { s.audit with counter := audit.counter, skips := audit.skips } := by
      cases ha : f.audit with
      | true => rw [(second ha).2.2.2]
      | false => rw [(first ha).2.2.2]; rfl
    have changes := takeFrame_changes s e c f
    rw [take] at changes ⊢
    refine ⟨⟨{ f with audit := marked, engines := f.engines.set e true }, role, s.now⟩, ?_, rfl, rfl,
      perEngine_get_set_self _ _ _, perEngine_get_set_ne _ _ (other_ne e), rfl, perEngine_get_set_ne _ _ (other_ne e),
      changes_mono changes (by decide), ?_, shape, ?_⟩
    · exact (perEngine_get_set_self _ _ _).trans (by simp only [inService])
    · intro ha
      obtain ⟨rfl, rfl, rfl, rfl⟩ := second ha
      exact ⟨rfl, rfl, rfl, rfl, fun other => by cases e <;> simp_all [PerEngine.set, PerEngine.get, Engine.other]⟩
    · intro ha
      obtain ⟨rfl, rfl, rfl, rfl⟩ := first ha
      refine ⟨fun decides => ?_, fun idles => ?_⟩
      · have decides := (decides_iff _ _).2 decides
        obtain ⟨counter, skips⟩ := auditTake_of_decides decides (s.engines.get e.other).service
        have mark := mark_of_decides decides (s.engines.get e.other).service
        refine ⟨counter, fun other => ?_, fun other => ?_, fun other => ?_⟩ <;>
        · rw [other] at mark skips ⊢
          simp [State.taken, mark, skips, Mark.role]
      · have idles : s.audit.decides s.plan.auditInterval = false := by
          rw [← Bool.not_eq_true, decides_iff]
          exact idles
        obtain ⟨counter, skips⟩ := auditTake_of_not_decides idles (s.engines.get e.other).service
        have mark := mark_of_not_decides idles (s.engines.get e.other).service
        refine ⟨counter, ?_⟩
        simp [State.taken, mark, skips, Mark.role]
  · have joining := (joining_iff s).2 ⟨joined, ahead⟩
    exact ⟨enginesTake_of_joining joining, (if_pos joined).trans (enginesTake_of_joining joining)⟩
  · exact (if_pos joined).trans (enginesTake_of_not_joining (by simp [joining_iff, clear]))
  · refine enginesTake_of_not_joining ?_
    rw [joining_iff]
    rcases h with h | h <;> simp [h]

end Sys2Proof.Machine
end

section
/-! SUPPORT. The notices an event raises as each port shows them, beside the settlings of the same event (10.6, R169,
R171). -/

namespace Sys2Proof.Machine

/-! ### Several notices offered to one port -/

/-- The port once the notices `bs`, stamped with `clock`, have been offered to it in order. -/
def Port.offerAll (p : Port) (clock : Word) (bs : List NoticeBody) : Port :=
  bs.foldl (fun p b => p.offer { stamp := clock, body := b }) p

theorem offerAll_append (p : Port) (clock : Word) (xs ys : List NoticeBody) :
    p.offerAll clock (xs ++ ys) = (p.offerAll clock xs).offerAll clock ys := List.foldl_append

/-- Raising notices is offering them to each port. -/
theorem raiseAll_ports_get (s : State) (bs : List NoticeBody) (l : Link) :
    (s.raiseAll bs).ports.get l = (s.ports.get l).offerAll s.clock bs := by
  induction bs generalizing s with
  | nil => rfl
  | cons b bs ih => exact (ih (s.raise b)).trans (by rw [raise_ports_get]; rfl)

/-- An offer reads neither the drain nor the replies, and leaves both. -/
theorem offer_with (p : Port) (d : Option Drain) (r : List Reply) (n : Notice) :
    ({ p with drain := d, replies := r } : Port).offer n = { p.offer n with drain := d, replies := r } := by
  unfold Port.offer
  dsimp only
  split
  · rfl
  · split <;> rfl

theorem offerAll_with (p : Port) (d : Option Drain) (r : List Reply) (clock : Word) (bs : List NoticeBody) :
    ({ p with drain := d, replies := r } : Port).offerAll clock bs =
      { p.offerAll clock bs with drain := d, replies := r } := by
  induction bs generalizing p with
  | nil => rfl
  | cons b bs ih => exact (congrArg (Port.offerAll · clock bs) (offer_with p d r _)).trans (ih _)

/-- Offers touch the log of a port and its overflow flag alone. -/
theorem offerAll_keeps (p : Port) (clock : Word) (bs : List NoticeBody) :
    (p.offerAll clock bs).queue = p.queue ∧ (p.offerAll clock bs).replies = p.replies ∧
    (p.offerAll clock bs).drain = p.drain ∧ (p.offerAll clock bs).mask = p.mask ∧
    (p.offerAll clock bs).halted = p.halted ∧ (p.offerAll clock bs).dropped = p.dropped := by
  induction bs generalizing p with
  | nil => exact ⟨rfl, rfl, rfl, rfl, rfl, rfl⟩
  | cons b bs ih =>
    obtain ⟨queue, replies, drain, mask, halted, dropped⟩ := ih (p.offer ⟨clock, b⟩)
    exact ⟨queue.trans (offer_queue _ _), replies.trans (offer_replies _ _), drain.trans (offer_drain _ _),
      mask.trans (offer_mask _ _), halted.trans (offer_halted _ _), dropped.trans (offer_dropped _ _)⟩

/-! ### A settling at one port -/

/-- A settling touches the drain and the replies of a port alone. -/
theorem settled_keeps (p : Port) (j : Nat) :
    p.settled j = { p with drain := (p.settled j).drain, replies := (p.settled j).replies } := by
  unfold Port.settled
  split
  · rfl
  · dsimp only
    split
    · split <;> rfl
    · rfl

/-- Where each port has had the notices `bs`, and beside them perhaps a change of its drain and its replies, `bs` have
been raised and no others. -/
theorem raised_of_ports {s t : State} {bs : List NoticeBody} {q : Link → Port}
    (keeps : ∀ l, q l = { s.ports.get l with drain := (q l).drain, replies := (q l).replies })
    (ports : ∀ l, t.ports.get l = (q l).offerAll s.clock bs) : s.Raised t bs := by
  intro l
  rw [raiseAll_ports_get, ports, keeps, offerAll_with]
  obtain ⟨queue, -, -, mask, halted, dropped⟩ := offerAll_keeps (s.ports.get l) s.clock bs
  exact ⟨rfl, rfl, queue, mask, halted, dropped⟩

theorem raised_of_offerAll {s t : State} {bs : List NoticeBody}
    (ports : ∀ l, t.ports.get l = (s.ports.get l).offerAll s.clock bs) : s.Raised t bs :=
  raised_of_ports (fun _ => rfl) ports

/-! ### The notices between two states -/

/-- The CHECK notices between two states are read from their check tables and the plan. -/
theorem checkNotices_congr {s s' t t' : State} (hs : s'.checks = s.checks) (ht : t'.checks = t.checks)
    (hp : t'.plan = t.plan) (cycle : Group → Word) : s'.checkNotices t' cycle = s.checkNotices t cycle := by
  simp only [State.checkNotices, hs, ht, hp]

theorem permitNotices_congr {s s' t t' : State} (hs : s'.verdicts = s.verdicts) (ht : t'.verdicts = t.verdicts)
    (cycle : Group → Word) : s'.permitNotices t' cycle = s.permitNotices t cycle := by
  simp only [State.permitNotices, hs, ht]

theorem checkNotices_eq_nil {s t : State} (h : t.checks = s.checks) (cycle : Group → Word) :
    s.checkNotices t cycle = [] := by simp [State.checkNotices, h]

theorem permitNotices_eq_nil {s t : State} (h : t.verdicts = s.verdicts) (cycle : Group → Word) :
    s.permitNotices t cycle = [] := by simp [State.permitNotices, h]

/-! ### The notices of one event of the evaluator -/

theorem commitChecks_ports_get (s : State) (new : CheckIx → CheckStatus) (cycle : CheckIx → Word) (l : Link) :
    (s.commitChecks new cycle).ports.get l = (s.ports.get l).offerAll s.clock
      ((List.finRange 64).filterMap (fun i => checkNotice i (cycle i) s.checks[i] (new i))) :=
  raiseAll_ports_get _ _ l

theorem commitVerdicts_ports_get (s : State) (new : Group → Verdict) (cycle : Group → Word) (l : Link) :
    (s.commitVerdicts new cycle).ports.get l = (s.ports.get l).offerAll s.clock
      (s.permitNotices (s.commitVerdicts new cycle) cycle) := by
  obtain ⟨p, h⟩ := commitVerdicts_eq s new cycle
  have notices : s.permitNotices (s.commitVerdicts new cycle) cycle = (List.finRange 4).filterMap (fun g =>
      permitNotice g (cycle g) s.verdicts[g] (Verdict.settlePermit s.verdicts[g] (new g))) := by
    rw [h]
    simp [State.permitNotices, permitNotice]
  rw [notices]
  exact raiseAll_ports_get _ _ l

/-- The notices of one event of the evaluator: CHECK, then PERMIT (10.6; log entry 15). -/
theorem checkEvent_ports_get (s : State) (new : CheckIx → CheckStatus) (forced : Group → Bool)
    (change : Group → Verdict → Verdict) (checkCycle groupCycle : Group → Word) (l : Link) :
    let t := s.checkEvent new forced change (fun i => checkCycle (s.plan.checkGroup i)) groupCycle
    t.ports.get l = (s.ports.get l).offerAll s.clock (s.checkNotices t checkCycle ++ s.permitNotices t groupCycle) := by
  intro t
  let u := s.commitChecks new (fun i => checkCycle (s.plan.checkGroup i))
  let v := u.commitVerdicts (fun g => change g
    (if forced g || s.touches new g then u.recompute g u.verdicts[g] else u.verdicts[g])) groupCycle
  have keeps : t.ports = v.ports ∧ t.verdicts = v.verdicts := by
    show (if _ then v.setAlert else v).ports = _ ∧ (if _ then v.setAlert else v).verdicts = _
    split <;> exact ⟨rfl, rfl⟩
  have checks : s.checkNotices t checkCycle = (List.finRange 64).filterMap (fun i =>
      checkNotice i (checkCycle (s.plan.checkGroup i)) s.checks[i] (new i)) := by
    have plan : t.plan = s.plan := congrArg PlanStore.active (checkEvent_changes s _ _ _ _ _ .planStore (by decide))
    have table : t.checks = Vector.ofFn new := checkEvent_checks s _ _ _ _ _
    simp [State.checkNotices, checkNotice, plan, table]
  have before := commitChecks_changes s new (fun i => checkCycle (s.plan.checkGroup i))
  have clock : u.clock = s.clock := before .clock (by decide)
  have verdicts : u.verdicts = s.verdicts := before .verdicts (by decide)
  have permits : u.permitNotices v groupCycle = s.permitNotices t groupCycle :=
    permitNotices_congr verdicts keeps.2.symm groupCycle
  rw [keeps.1, commitVerdicts_ports_get, permits, clock, commitChecks_ports_get, ← checks, offerAll_append]

end Sys2Proof.Machine
end

section
/-! SUPPORT. The end of a test (R122, R157, R158): the checks it resets, the verdict it leaves its group, and its
notices. -/

namespace Sys2Proof.Machine

/-! ### Commands answered at the instant they are taken -/

/-- Notices alone make no port ready. -/
theorem calm_of_offerAll {s t : State} {bs : List NoticeBody} (h : s.calm)
    (ports : ∀ l, t.ports.get l = (s.ports.get l).offerAll s.clock bs) : t.calm := by
  refine (calm_iff t).2 fun l => ?_
  obtain ⟨queue, -, drain, -, halted, -⟩ := offerAll_keeps (s.ports.get l) s.clock bs
  have ready := (calm_iff s).1 h l
  rw [Port.ready] at ready ⊢
  rw [ports, queue, drain, halted, ready]

/-- A row that is a command frame, at a port at rest: the command's answer is posted, when it leaves the ports calm. -/
theorem exec_answered {i : Instr} {l : Link} {tag : Byte} {c : Command} {s : State} {a : Answer} (hs : s.Ready l)
    (frame : i.frame = some (l, c.frame tag)) (fits : c.fits = true) (parses : parse (c.frame tag) = some c)
    (allowed : permitted l c = true) (notDrain : c ≠ .drainWait) (answer : s.runCommand l c = a) (calm : a.state.calm) :
    exec i s = .next (a.state.reply l (c.frame tag) a.code a.body) := by
  subst answer
  rw [exec_frameTaken frame (command_frame_not_control c tag) (payload_length_of_fits fits),
    takeCommand_answered hs parses allowed notDrain calm]

theorem exec_testEnd {l : Link} {tag group : Byte} {g : Group} {s : State} (hs : s.Ready l)
    (hg : indexFrom1 4 group = some g) (calm : (s.stopTest g).1.calm) : exec (.testEnd l tag group) s =
      .next ((s.stopTest g).1.reply l ((Command.testEnd group).frame tag) (s.stopTest g).2 []) := by
  refine exec_answered (a := .plain (s.stopTest g)) hs rfl rfl rfl rfl nofun ?_ calm
  simp only [State.runCommand, runTestEnd, hg]

/-! ### What the causes and the cycle of a check are read from -/

theorem suspends_congr {s t : State} (inService : t.inService = s.inService) (tests : t.tests = s.tests)
    (trackers : t.trackers = s.trackers) (plan : t.planStore = s.planStore) (quiet : t.quiet = s.quiet) (i : CheckIx) :
    t.suspends i = s.suspends i := by
  cases s
  cases t
  subst inService tests trackers plan quiet
  rfl

theorem groupCycle_congr {s t : State} (trackers : t.trackers = s.trackers) (plan : t.planStore = s.planStore) :
    t.groupCycle = s.groupCycle := by
  funext g
  simp only [State.groupCycle, State.plan, trackers, plan]

/-! ### A group without an asserting check (R110, R111, R116) -/

theorem tripCheck_iff (p : Plan) (g : Group) (i : CheckIx) :
    p.tripCheck g i = true ↔ p.checks[i].enabled = true ∧ p.checks[i].cls = .trip ∧ p.checkGroup i = g := by
  simp [Plan.tripCheck, and_assoc]

theorem termState_ne_asserting {s : State} {g : Group}
    (h : ∀ i, s.plan.tripCheck g i = true → s.checks[i].state.asserting = false) (t : Term) :
    s.termState g t ≠ .asserting := by
  have quiet : ¬((List.finRange 64).any (fun i =>
      s.plan.tripCheck g i && s.plan.checks[i].term == t && s.checks[i].state.asserting) = true) := by
    simp only [List.any_eq_true, Bool.and_eq_true]
    rintro ⟨i, -, ⟨trip, -⟩, asserts⟩
    exact Bool.false_ne_true ((h i trip).symm.trans asserts)
  unfold State.termState
  rw [if_neg quiet]
  split <;> nofun

theorem tripCondition_eq_false {s : State} {g : Group}
    (h : ∀ i, s.plan.tripCheck g i = true → s.checks[i].state.asserting = false) : s.tripCondition g = false := by
  have clear : ∀ t, (s.termState g t == .asserting) = false := fun t => by simpa using termState_ne_asserting h t
  unfold State.tripCondition
  simp only [clear]
  split <;> rfl

/-- Without a trip condition a recomputation adds no reason and withdraws no recorded restore (R116, R117, R119). -/
theorem recompute_of_no_trip {s : State} {g : Group} (h : s.tripCondition g = false) (v : Verdict) :
    s.recompute g v = { v with
      term1 := s.termState g .t1
      term2 := s.termState g .t2
      trip := false
      warn := s.warns g
      reasons := { v.reasons with trip := false } } := by
  simp [State.recompute, h]

/-- What an event does to the verdicts is read from the plan, the checks, the verdicts, the alert output and the
tests. -/
theorem verdictsSet_congr {s s' t t' : State} {forced : Group → Bool} {change : Group → Verdict → Verdict}
    (h : s.VerdictsSet t forced change) (plan : s'.plan = s.plan) (checks : s'.checks = s.checks)
    (verdicts : s'.verdicts = s.verdicts) (alert : s'.alert = s.alert) (plan' : t'.planStore = t.planStore)
    (tests' : t'.tests = t.tests) (checks' : t'.checks = t.checks) (verdicts' : t'.verdicts = t.verdicts)
    (alert' : t'.alert = t.alert) : s'.VerdictsSet t' forced change := by
  unfold State.VerdictsSet at h ⊢
  rw [recompute_congr checks' plan' tests', plan, checks, verdicts, alert, checks', verdicts', alert']
  exact h

/-- The verdict of a group that an event neither touches nor changes. -/
theorem verdictsSet_unchanged {s t : State} {forced : Group → Bool} {change : Group → Verdict → Verdict} {g : Group}
    (h : s.VerdictsSet t forced change) (unforced : forced g = false) (unchanged : ∀ v, change g v = v)
    (untouched : ∀ i, s.plan.checkGroup i = g → t.checks[i].state = s.checks[i].state) :
    t.verdicts[g] = s.verdicts[g] := by
  have hit : ¬((forced g || decide (∃ i : CheckIx, s.plan.checkGroup i = g ∧ t.checks[i].state ≠ s.checks[i].state))
      = true) := by
    rw [unforced, Bool.false_or, decide_eq_true_iff]
    rintro ⟨i, hi, ne⟩
    exact ne (untouched i hi)
  have v := h.1 g
  simp only [hit, unchanged] at v
  rw [v]
  simp

/-- The verdict of a group that an event recomputes. -/
theorem verdictsSet_forced {s t : State} {forced : Group → Bool} {change : Group → Verdict → Verdict} {g : Group}
    (h : s.VerdictsSet t forced change) (hit : forced g = true) : ∃ given,
      t.verdicts[g] = { change g (t.recompute g s.verdicts[g]) with given := given } := by
  have v := h.1 g
  simp only [hit, Bool.true_or, if_true] at v
  exact ⟨_, v⟩

/-! ### The end of a test -/

theorem endTest_eq_afterTest (v : Verdict) : v.endTest = v.afterTest := by
  unfold Verdict.endTest Verdict.afterTest
  cases v.restoreDuringTest <;> simp

theorem closeTest_ports_get (s : State) (g : Group) (cause : TestCause) (l : Link) :
    (s.closeTest g cause).ports.get l = (s.ports.get l).offerAll s.clock [.test g .running .idle (.cause cause)] :=
  raise_ports_get _ _ l

/-- The causes of a check at the end of a test are those that hold once the group is idle. -/
theorem endTest_suspends (s : State) (g : Group) (cause : TestCause) (i : CheckIx) :
    (s.endTest g cause).suspends i = (s.closeTest g cause).suspends i := by
  have h : State.ChangesOnly verdictParts (s.closeTest g cause) (s.endTest g cause) := causeEvent_changes _ _ _ _
  exact suspends_congr (h .inService (by decide)) (h .tests (by decide)) (h .trackers (by decide))
    (h .planStore (by decide)) (h .quiet (by decide)) i

theorem endTest_checks (s : State) (g : Group) (cause : TestCause) (i : CheckIx) :
    (s.endTest g cause).checks[i] =
      if s.plan.checks[i].enabled = true ∧ s.plan.checkGroup i = g then
        { state := if (s.endTest g cause).suspends i then .suspended else .clear, run := 0, tally := 0,
          last := s.checks[i].last }
      else s.checks[i] := by
  have table : (s.endTest g cause).checks =
      Vector.ofFn ((s.closeTest g cause).resetChecks (fun g' => g' == g)) := checkEvent_checks _ _ _ _ _ _
  have entry : (s.endTest g cause).checks[i] = (s.closeTest g cause).resetChecks (fun g' => g' == g) i := by
    simp [table]
  have before := closeTest_changes s g cause
  have plan : (s.closeTest g cause).plan = s.plan := congrArg PlanStore.active (before .planStore (by decide))
  have checks : (s.closeTest g cause).checks = s.checks := before .checks (by decide)
  rw [entry, endTest_suspends]
  simp only [State.resetChecks, plan, checks, CheckStatus.cleared, Bool.and_eq_true, beq_iff_eq]

/-- The checks of the group are reset, so no term of it asserts. -/
theorem endTest_tripCondition (s : State) (g : Group) (cause : TestCause) :
    (s.endTest g cause).tripCondition g = false := by
  have plan : (s.endTest g cause).plan = s.plan :=
    congrArg PlanStore.active (endTest_changes s g cause .planStore (by decide))
  refine tripCondition_eq_false fun i trip => ?_
  rw [plan, tripCheck_iff] at trip
  obtain ⟨enabled, -, group⟩ := trip
  rw [endTest_checks, if_pos ⟨enabled, group⟩]
  dsimp only
  split <;> rfl

theorem endTest_verdictsSet (s : State) (g : Group) (cause : TestCause) :
    s.VerdictsSet (s.endTest g cause) (fun g' => g' == g) (fun g' v => if g' = g then v.afterTest else v) := by
  have change : onGroup g Verdict.endTest = fun g' v => if g' = g then v.afterTest else v := by
    funext g' v
    rw [← endTest_eq_afterTest]
    rfl
  rw [← change]
  have set : (s.closeTest g cause).VerdictsSet (s.endTest g cause) (fun g' => g' == g) (onGroup g Verdict.endTest) :=
    checkEvent_verdictsSet _ _ _ _ _ _
  have before := closeTest_changes s g cause
  exact verdictsSet_congr set (congrArg PlanStore.active (before .planStore (by decide)).symm)
    (before .checks (by decide)).symm (before .verdicts (by decide)).symm (before .alert (by decide)).symm
    rfl rfl rfl rfl rfl

theorem endTest_testEnded (s : State) (g : Group) (cause : TestCause) : s.TestEnded (s.endTest g cause) g := by
  have later : State.ChangesOnly verdictParts (s.closeTest g cause) (s.endTest g cause) := causeEvent_changes _ _ _ _
  have set := endTest_verdictsSet s g cause
  obtain ⟨given, verdict⟩ := verdictsSet_forced set (beq_self_eq_true g)
  rw [if_pos rfl, recompute_of_no_trip (endTest_tripCondition s g cause)] at verdict
  exact {
    idle := later .tests (by decide)
    sources := fun c => by
      rw [show (s.endTest g cause).sources = _ from later .sources (by decide)]
      exact Vector.getElem_ofFn _
    buffers := fun c => by
      rw [show (s.endTest g cause).buffers = _ from later .buffers (by decide)]
      exact Vector.getElem_ofFn _
    checks := endTest_checks s g cause
    test := by rw [verdict]; rfl
    trip := by rw [verdict]; rfl
    restore := by
      rw [verdict]
      simp only [Verdict.afterTest]
      cases s.verdicts[g].restoreDuringTest <;> simp
    recorded := by rw [verdict]; rfl
    duringTest := by rw [verdict]; rfl
    verdicts := set
    others := fun g' ne => verdictsSet_unchanged set (by simpa using ne) (fun v => if_neg ne) fun i hi => by
      rw [endTest_checks, if_neg fun h => ne (hi.symm.trans h.2)] }

/-- The notices of the end of a test: TEST, then CHECK, then PERMIT (R158). -/
theorem endTest_ports_get (s : State) (g : Group) (cause : TestCause) (l : Link) :
    let t := s.endTest g cause
    t.ports.get l = (s.ports.get l).offerAll s.clock ([.test g .running .idle (.cause cause)]
      ++ s.checkNotices t t.groupCycle ++ s.permitNotices t t.groupCycle) := by
  intro t
  have later : State.ChangesOnly verdictParts (s.closeTest g cause) t := causeEvent_changes _ _ _ _
  have cycle : t.groupCycle = (s.closeTest g cause).groupCycle :=
    groupCycle_congr (later .trackers (by decide)) (later .planStore (by decide))
  have before := closeTest_changes s g cause
  have clock : (s.closeTest g cause).clock = s.clock := before .clock (by decide)
  have checks := checkNotices_congr (before .checks (by decide)) rfl (t := t) rfl (s.closeTest g cause).groupCycle
  have permits := permitNotices_congr (before .verdicts (by decide)) rfl (t := t) (s.closeTest g cause).groupCycle
  rw [cycle, List.append_assoc, offerAll_append, ← closeTest_ports_get, ← clock, ← checks, ← permits]
  exact checkEvent_ports_get (s.closeTest g cause) _ _ _ _ _ l

theorem endTest_raised (s : State) (g : Group) (cause : TestCause) :
    s.Raised (s.endTest g cause) ([.test g .running .idle (.cause cause)]
      ++ s.checkNotices (s.endTest g cause) (s.endTest g cause).groupCycle
      ++ s.permitNotices (s.endTest g cause) (s.endTest g cause).groupCycle) :=
  raised_of_offerAll (endTest_ports_get s g cause)

/-- The state in which a rising in-service input ends a test: the input is high and the quiet counter loaded (R97). -/
def State.breakerClosed (s : State) (g : Group) : State :=
  { s with inService := s.inService.set g true }.loadQuiet g

theorem breakerCloses_of_running {s : State} {g : Group} (h : s.tests[g].isRunning = true) :
    s.breakerCloses g = (s.breakerClosed g).endTest g .breakerClosed := if_pos h

theorem breakerClosed_testEnded {s t : State} {g : Group} (h : (s.breakerClosed g).TestEnded t g) : s.TestEnded t g :=
  { idle := h.idle, sources := h.sources, buffers := h.buffers, checks := h.checks, test := h.test, trip := h.trip,
    restore := h.restore, recorded := h.recorded, duringTest := h.duringTest, verdicts := h.verdicts,
    others := h.others }

/-- Settles O38: every end of a RUNNING test is `State.endTest`, in the state the event has brought about before it. -/
theorem testsEnd : Obligations.TestsEnd := by
  refine ⟨fun l tag group g w s ready hg running => ?_, fun g s running => ?_, fun g s low running => ?_,
    fun l tag group g s ready hg => ⟨fun l' n w offered => ?_, fun idle => ?_⟩⟩
  · have stop : s.stopTest g = (s.endTest g .testEnd, .ok) := by simp only [State.stopTest, running]
    refine ⟨s.endTest g .testEnd, ?_, endTest_testEnded s g _, endTest_raised s g _,
      changes_mono (endTest_changes s g _) (by decide)⟩
    rw [exec_testEnd ready hg (stop ▸ calm_of_offerAll ready.1 (endTest_ports_get s g _)), stop]
  · have due : s.runDue g = true := by simp [State.runDue, running]
    exact ⟨s.endTest g .expired, congrArg Host.Outcome.next (if_pos due), endTest_testEnded s g _, endTest_raised s g _,
      changes_mono (endTest_changes s g _) (by decide)⟩
  · have exec : exec (.inServiceRise g) s = .next ((s.breakerClosed g).endTest g .breakerClosed) := by
      rw [← breakerCloses_of_running running]
      exact congrArg Host.Outcome.next (if_pos (by simp [low]))
    have changes := breakerCloses_changes s g
    rw [breakerCloses_of_running running] at changes
    have later := endTest_changes (s.breakerClosed g) g .breakerClosed
    exact ⟨_, exec, breakerClosed_testEnded (endTest_testEnded _ g _), later .inService (by decide),
      raised_of_offerAll (endTest_ports_get (s.breakerClosed g) g .breakerClosed), later .quiet (by decide),
      changes_mono changes (by decide)⟩
  · have stop : s.stopTest g = (s.endOffer g .testEnd, .ok) := by simp only [State.stopTest, offered]
    rw [exec_testEnd ready hg (stop ▸ (raise_calm _ _).2 ready.1), stop]
    rfl
  · have stop : s.stopTest g = (s, .wrongState) := by simp only [State.stopTest, idle]
    rw [exec_testEnd ready hg (stop ▸ ready.1), stop]

end Sys2Proof.Machine
end

section
/-! SUPPORT. The result table: what becomes of a result that arrives there (R69 to R74), and the checks it evaluates
(R84 to R94). -/

namespace Sys2Proof.Machine

/-! ### The evaluation of one check (R84, R94) -/

theorem concerns_iff (x : CheckEntry) (c : Channel) :
    x.concerns c = true ↔ x.enabled = true ∧ (x.channel = c ∨ x.quantity = .spread ∧ x.second = c) := by
  simp [CheckEntry.concerns]

theorem spread_self (f : Figures) : spread f f = 0 := by simp [spread]

/-- The status `st` of a check `x` that is evaluated at the event of channel `c` with its new record `rec`, or passed
over where its quantity is not formed (R50), the records of the other channels being those of `old` (R94). -/
def State.judge (s : State) (old : Vector (Option ResultRecord) 16) (c : Channel) (rec : ResultRecord) (x : CheckEntry)
    (st : CheckStatus) : CheckStatus :=
  let other := if x.channel = c then x.second else x.channel
  let judged := fun v : Int => evaluateCheck x v rec.cycle st
  let formed := fun v : Option Nat => match v with
    | some n => judged n
    | none => st
  match x.quantity with
  | .mean => judged rec.figures.mean.toInt
  | .ripple => judged rec.figures.ripple.toNat
  | .level => judged (levelOf rec.figures x.order)
  | .factor => formed (rippleFactor s.plan.channels[c].meanFloor rec.figures)
  | .distortion => formed (distortion s.plan.channels[c].fundFloor rec.figures)
  | .weighted => judged (weightedInterference s.plan.weights rec.figures)
  | .spread => if other = c then judged 0 else
    match old[other] with
    | some r => if r.ref = rec.ref ∧ r.cycle = rec.cycle then judged (spread rec.figures r.figures) else st
    | none => st

theorem judge_eq {s : State} {c : Channel} {rec : ResultRecord} {old : Vector (Option ResultRecord) 16}
    (records : s.records = old.set c (some rec)) (x : CheckEntry) (st : CheckStatus) :
    s.judge old c rec x st = match s.checkValue x c rec with
      | some v => evaluateCheck x v rec.cycle st
      | none => st := by
  unfold State.checkValue State.judge
  dsimp only
  cases x.quantity with
  | mean => rfl
  | ripple => rfl
  | level => rfl
  | factor => cases rippleFactor s.plan.channels[c].meanFloor rec.figures <;> rfl
  | distortion => cases distortion s.plan.channels[c].fundFloor rec.figures <;> rfl
  | weighted => rfl
  | spread =>
    dsimp only
    unfold State.joinSpread
    dsimp only
    rw [records, vector_getElem_set]
    by_cases same : (if x.channel = c then x.second else x.channel) = c
    · rw [if_pos same, if_pos same]
      simp [spread_self]
    · rw [if_neg same, if_neg same]
      cases old[if x.channel = c then x.second else x.channel] with
      | none => rfl
      | some r =>
        dsimp only
        split <;> rfl

theorem evaluated_eq {s : State} {c : Channel} {rec : ResultRecord} {old : Vector (Option ResultRecord) 16}
    (records : s.records = old.set c (some rec)) (i : CheckIx) : s.evaluated c rec i =
      if s.plan.checks[i].enabled = true ∧ (s.plan.checks[i].channel = c ∨
          s.plan.checks[i].quantity = .spread ∧ s.plan.checks[i].second = c) ∧ s.checks[i].state ≠ .suspended then
        s.judge old c rec s.plan.checks[i] s.checks[i]
      else s.checks[i] := by
  have cond : (s.plan.checks[i].concerns c && s.checks[i].state != .suspended) = true ↔
      s.plan.checks[i].enabled = true ∧ (s.plan.checks[i].channel = c ∨
        s.plan.checks[i].quantity = .spread ∧ s.plan.checks[i].second = c) ∧ s.checks[i].state ≠ .suspended := by
    rw [Bool.and_eq_true, concerns_iff, bne_iff_ne, and_assoc]
  unfold State.evaluated
  split
  · next h =>
    rw [judge_eq records]
    exact if_pos (cond.2 h)
  · next h => exact if_neg (mt cond.1 h)

/-! ### What arrives at the result table (R71 to R74) -/

/-- The result of frame `f` is dropped: it is of another plan epoch (R71), or of a test and not admitted (R72). -/
def State.Drops (s : State) (f : Frame) : Prop :=
  f.epoch ≠ (s.buffers[f.channel]).epoch ∨ f.source ≠ .live ∧
    (s.tests[s.plan.groupOf f.channel].isRunning = false ∨ s.sources[f.channel] = .live)

/-- The result of frame `f` with the figures and the unaudited flag given. -/
def Frame.resultWith (f : Frame) (figures : Figures) (unaudited : Bool) : TransformResult :=
  { f.result figures with unaudited := unaudited }

theorem admitsTest_eq_false_iff (s : State) (c : Channel) : s.admitsTest c = false ↔
    s.tests[s.plan.groupOf c].isRunning = false ∨ s.sources[c] = .live := by
  rw [State.admitsTest, Bool.and_eq_false_iff, bne_eq_false_iff_eq]

/-- The decisions at the door, in their order. -/
theorem arrive_resultWith (s : State) (f : Frame) (figures : Figures) (unaudited : Bool) :
    s.arrive (f.resultWith figures unaudited) =
      if f.epoch ≠ (s.buffers[f.channel]).epoch then s.settle f.channel f.joinOrder
      else if (f.source != .live && !s.admitsTest f.channel) = true then s.settle f.channel f.joinOrder
      else if (f.heldFlag && !s.plan.groups[s.plan.groupOf f.channel].evaluateHeld) = true then
        s.storeResult (f.resultWith figures unaudited)
      else (s.storeResult (f.resultWith figures unaudited)).evaluationEvent f.channel
        (s.recordOf (f.resultWith figures unaudited)) := rfl

theorem arrive_of_drops {s : State} {f : Frame} (h : s.Drops f) (figures : Figures) (unaudited : Bool) :
    s.arrive (f.resultWith figures unaudited) = s.settle f.channel f.joinOrder := by
  rw [arrive_resultWith]
  by_cases epoch : f.epoch = (s.buffers[f.channel]).epoch
  · obtain ⟨test, refused⟩ := h.resolve_left (not_not_intro epoch)
    have refused := (admitsTest_eq_false_iff _ _).2 refused
    rw [if_neg (not_not_intro epoch), if_pos (by simp [test, refused])]
  · exact if_pos epoch

theorem arrive_of_admitted {s : State} {f : Frame} (h : ¬s.Drops f) (figures : Figures) (unaudited : Bool) :
    s.arrive (f.resultWith figures unaudited) =
      if f.heldFlag = true ∧ s.plan.groups[s.plan.groupOf f.channel].evaluateHeld = false then
        s.storeResult (f.resultWith figures unaudited)
      else (s.storeResult (f.resultWith figures unaudited)).evaluationEvent f.channel
        (s.recordOf (f.resultWith figures unaudited)) := by
  have epoch : f.epoch = (s.buffers[f.channel]).epoch := by
    by_contra ne
    exact h (.inl ne)
  have admitted : ¬(f.source != .live && !s.admitsTest f.channel) = true := by
    rw [Bool.and_eq_true, bne_iff_ne, Bool.not_eq_true', admitsTest_eq_false_iff]
    exact fun refused => h (.inr refused)
  rw [arrive_resultWith, if_neg (not_not_intro epoch), if_neg admitted]
  simp only [Bool.and_eq_true, Bool.not_eq_true']

/-! ### What an arrival leaves (R71 to R74, R115) -/

theorem storeResult_records (s : State) (res : TransformResult) :
    (s.storeResult res).records = s.records.set res.channel (some (s.recordOf res)) :=
  settle_changes (s.setRecord res.channel _) res.channel res.join .records (by decide)

theorem storeResult_settles (s : State) (f : Frame) (figures : Figures) (unaudited : Bool) :
    s.Settles (s.storeResult (f.resultWith figures unaudited)) f.channel f.joinOrder :=
  settle_settles (s.setRecord f.channel _) f.channel f.joinOrder

theorem storeResult_ports_get (s : State) (f : Frame) (figures : Figures) (unaudited : Bool) (l : Link) :
    (s.storeResult (f.resultWith figures unaudited)).ports.get l = (s.ports.get l).settled f.joinOrder :=
  settle_ports_get (s.setRecord f.channel _) f.channel f.joinOrder l

/-- The record of an accepted result of frame `f` (R69, R74). -/
def State.recordFor (s : State) (f : Frame) (figures : Figures) (unaudited : Bool) : ResultRecord :=
  { ref := f.ref, cycle := f.cycle, generation := s.planStore.generation, figures := figures,
    heldFlag := f.heldFlag, clipped := f.clipped, test := f.source != .live, unaudited := unaudited }

/-- The result of a held frame of a group whose held frames are not evaluated (R73). -/
def State.unevaluated (s : State) (f : Frame) : Prop :=
  f.heldFlag = true ∧ s.plan.groups[s.plan.groupOf f.channel].evaluateHeld = false

/-- `u` is what the result of frame `f`, with the figures and the unaudited flag given, has made of `s` at the result
table (R71 to R74). -/
structure State.Arrived (s u : State) (f : Frame) (figures : Figures) (unaudited : Bool) : Prop where
  settles : s.Settles u f.channel f.joinOrder
  ports : ∀ l, u.ports.get l = ((s.ports.get l).settled f.joinOrder).offerAll s.clock
    (s.checkNotices u (fun _ => f.cycle) ++ s.permitNotices u (fun _ => f.cycle))
  dropped : s.Drops f → State.ChangesOnly (settleParts ++ [.engines, .audit]) s u
  record : ¬s.Drops f → u.records = s.records.set f.channel (some (s.recordFor f figures unaudited))
  passed : ¬s.Drops f → s.unevaluated f → u.checks = s.checks ∧ u.verdicts = s.verdicts ∧ u.alert = s.alert
  checks : ¬s.Drops f → ¬s.unevaluated f → ∀ i : CheckIx, u.checks[i] =
    if s.plan.checks[i].enabled = true ∧ (s.plan.checks[i].channel = f.channel ∨
        s.plan.checks[i].quantity = .spread ∧ s.plan.checks[i].second = f.channel) ∧ s.checks[i].state ≠ .suspended then
      s.judge s.records f.channel (s.recordFor f figures unaudited) s.plan.checks[i] s.checks[i]
    else s.checks[i]
  verdicts : ¬s.Drops f → ¬s.unevaluated f → s.VerdictsSet u (fun _ => false) (s.afterEvaluation f.channel)

/-- A settling alone raises no notice. -/
theorem settled_ports_get_of_same {s u : State} {j : Nat} (ports : ∀ l, u.ports.get l = (s.ports.get l).settled j)
    (checks : u.checks = s.checks) (verdicts : u.verdicts = s.verdicts) (cycle : Group → Word) (l : Link) :
    u.ports.get l = ((s.ports.get l).settled j).offerAll s.clock
      (s.checkNotices u cycle ++ s.permitNotices u cycle) := by
  rw [ports, checkNotices_eq_nil checks, permitNotices_eq_nil verdicts]
  rfl

theorem settle_arrived {s : State} {f : Frame} (h : s.Drops f) (figures : Figures) (unaudited : Bool) :
    s.Arrived (s.settle f.channel f.joinOrder) f figures unaudited :=
  have changes := settle_changes s f.channel f.joinOrder
  { settles := settle_settles s _ _
    ports := settled_ports_get_of_same (settle_ports_get s _ _) (changes .checks (by decide))
      (changes .verdicts (by decide)) _
    dropped := fun _ => changes_mono changes (by decide)
    record := fun admitted => (admitted h).elim
    passed := fun admitted => (admitted h).elim
    checks := fun admitted => (admitted h).elim
    verdicts := fun admitted => (admitted h).elim }

theorem storeResult_arrived {s : State} {f : Frame} (h : ¬s.Drops f) (held : s.unevaluated f) (figures : Figures)
    (unaudited : Bool) : s.Arrived (s.storeResult (f.resultWith figures unaudited)) f figures unaudited :=
  have changes := storeResult_changes s (f.resultWith figures unaudited)
  have checks := changes .checks (by decide)
  have verdicts := changes .verdicts (by decide)
  { settles := storeResult_settles s f _ _
    ports := settled_ports_get_of_same (storeResult_ports_get s f _ _) checks verdicts _
    dropped := fun drops => (h drops).elim
    record := fun _ => storeResult_records s _
    passed := fun _ _ => ⟨checks, verdicts, changes .alert (by decide)⟩
    checks := fun _ judged => (judged held).elim
    verdicts := fun _ judged => (judged held).elim }

theorem judge_congr {s t : State} (plan : t.plan = s.plan) : t.judge = s.judge := by
  funext old c rec x st
  simp only [State.judge, plan]

/-- The change of an evaluation event to the verdicts beside the recomputation, UNPLANNED (R115). -/
theorem clearUnplanned_eq_afterEvaluation (s : State) (c : Channel) :
    (fun (g : Group) (v : Verdict) => if g = s.plan.groupOf c ∧ s.plan.protects (s.plan.groupOf c) = true
      then v.clearUnplanned else v) = s.afterEvaluation c := by
  funext g v
  unfold State.afterEvaluation
  by_cases h : g = s.plan.groupOf c
  · subst h
    rfl
  · rw [if_neg (fun k => h k.1), if_neg (fun k => h k.1)]

theorem evaluationEvent_eq (s : State) (c : Channel) (rec : ResultRecord) : s.evaluationEvent c rec =
    s.checkEvent (s.evaluated c rec) (fun _ => false) (s.afterEvaluation c) (fun _ => rec.cycle)
      (fun _ => rec.cycle) := by
  rw [← clearUnplanned_eq_afterEvaluation]
  rfl

theorem afterEvaluation_congr {s t : State} (plan : t.plan = s.plan) : t.afterEvaluation = s.afterEvaluation := by
  funext c g v
  simp only [State.afterEvaluation, plan]

theorem evaluationEvent_arrived {s : State} {f : Frame} (h : ¬s.Drops f) (evaluated : ¬s.unevaluated f)
    (figures : Figures) (unaudited : Bool) :
    s.Arrived ((s.storeResult (f.resultWith figures unaudited)).evaluationEvent f.channel
      (s.recordFor f figures unaudited)) f figures unaudited := by
  have stored := storeResult_changes s (f.resultWith figures unaudited)
  have settles := storeResult_settles s f figures unaudited
  have records : (s.storeResult (f.resultWith figures unaudited)).records =
    s.records.set f.channel (some (s.recordFor f figures unaudited)) := storeResult_records s _
  have settled := storeResult_ports_get s f figures unaudited
  generalize s.storeResult (f.resultWith figures unaudited) = v at stored settles records settled
  have plan : v.plan = s.plan := congrArg PlanStore.active (stored .planStore (by decide))
  have checks : v.checks = s.checks := stored .checks (by decide)
  have verdicts : v.verdicts = s.verdicts := stored .verdicts (by decide)
  have clock : v.clock = s.clock := stored .clock (by decide)
  have changes := evaluationEvent_changes v f.channel (s.recordFor f figures unaudited)
  rw [evaluationEvent_eq, afterEvaluation_congr plan,
    show (s.recordFor f figures unaudited).cycle = f.cycle from rfl] at changes ⊢
  have table := checkEvent_checks v (v.evaluated f.channel (s.recordFor f figures unaudited)) (fun _ => false)
    (s.afterEvaluation f.channel) (fun _ => f.cycle) (fun _ => f.cycle)
  have set := checkEvent_verdictsSet v (v.evaluated f.channel (s.recordFor f figures unaudited)) (fun _ => false)
    (s.afterEvaluation f.channel) (fun _ => f.cycle) (fun _ => f.cycle)
  have ports := checkEvent_ports_get v (v.evaluated f.channel (s.recordFor f figures unaudited)) (fun _ => false)
    (s.afterEvaluation f.channel) (fun _ => f.cycle) (fun _ => f.cycle)
  exact {
    settles := by
      unfold State.Settles at settles ⊢
      rw [show _ = v.buffers from changes .buffers (by decide), show _ = v.queue from changes .queue (by decide)]
      exact settles
    ports := fun l => by
      rw [← settled, ← clock, ← checkNotices_congr checks rfl rfl, ← permitNotices_congr verdicts rfl]
      exact ports l
    dropped := fun drops => (h drops).elim
    record := fun _ => (changes .records (by decide)).trans records
    passed := fun _ held => (evaluated held).elim
    checks := fun _ _ i => by
      rw [table, Fin.getElem_fin, Vector.getElem_ofFn]
      refine (evaluated_eq records i).trans ?_
      simp only [plan, checks, judge_congr plan]
    verdicts := fun _ _ => verdictsSet_congr set plan.symm checks.symm verdicts.symm (stored .alert (by decide)).symm
      rfl rfl rfl rfl rfl }

/-- Every arrival at the result table. -/
theorem arrive_arrived (s : State) (f : Frame) (figures : Figures) (unaudited : Bool) :
    s.Arrived (s.arrive (f.resultWith figures unaudited)) f figures unaudited := by
  by_cases drops : s.Drops f
  · rw [arrive_of_drops drops]
    exact settle_arrived drops _ _
  · rw [arrive_of_admitted drops]
    split
    · next held => exact storeResult_arrived drops held _ _
    · next held => exact evaluationEvent_arrived drops held _ _

/-- Engine `e` with its hand empty, and the audit unit as given. -/
def State.handEmptied (s : State) (e : Engine) (audit : AuditUnit) : State :=
  { s with engines := s.engines.set e { s.engines.get e with hand := none }, audit := audit }

theorem handEmptied_changes (s : State) (e : Engine) (a : AuditUnit) :
    State.ChangesOnly [.engines, .audit] s (s.handEmptied e a) :=
  changes_comp _ (setEngine_changes s e { s.engines.get e with hand := none }) (with_audit _ a) (by decide) (by decide)

/-- An arrival reads neither the engines nor the audit unit. -/
theorem arrived_of_handEmptied {s u : State} {f : Frame} {figures : Figures} {unaudited : Bool} {e : Engine}
    {a : AuditUnit} (h : (s.handEmptied e a).Arrived u f figures unaudited) : s.Arrived u f figures unaudited := by
  have changes := changes_mono (handEmptied_changes s e a) (B := settleParts ++ [.engines, .audit]) (by decide)
  refine ⟨h.settles, h.ports, fun drops => changes_trans changes (h.dropped drops), h.record, h.passed, h.checks,
    fun admitted held => ?_⟩
  rw [← afterEvaluation_congr (s := s) (t := s.handEmptied e a) rfl]
  exact verdictsSet_congr (h.verdicts admitted held) rfl rfl rfl rfl rfl rfl rfl rfl rfl

end Sys2Proof.Machine
end

section
/-! SUPPORT. The completion of a transform (R54): what the audit unit makes of the result (R59 to R64), and what the
engines do next (R52, R66). -/

namespace Sys2Proof.Machine

/-! ### What the takes of the engines keep -/

/-- The takes between `s` and `t` keep each engine's service, an empty held buffer, and all of the audit unit but its
counter and its audit-skip count. -/
structure State.TakesKeep (s t : State) : Prop where
  service : ∀ e, (t.engines.get e).service = (s.engines.get e).service
  empty : ∀ c : Channel, (s.buffers[c]).held = none → (t.buffers[c]).held = none
  audit : t.audit = { s.audit with counter := t.audit.counter, skips := t.audit.skips }

theorem takesKeep_refl (s : State) : s.TakesKeep s := ⟨fun _ => rfl, fun _ h => h, rfl⟩

theorem takesKeep_trans {s t u : State} (h : s.TakesKeep t) (k : t.TakesKeep u) : s.TakesKeep u :=
  ⟨fun e => (k.service e).trans (h.service e), fun c empty => k.empty c (h.empty c empty), by rw [k.audit, h.audit]⟩

theorem takeFrame_keeps {s : State} {e : Engine} {c : Channel} {f : Frame} (held : (s.buffers[c]).held = some f) :
    s.TakesKeep (s.takeFrame e c f) := by
  obtain ⟨marked, role, queue, audit, take, second, first⟩ := takeFrame_taken s e c f
  rw [take]
  refine ⟨fun e' => ?_, fun d empty => ?_, ?_⟩
  · by_cases h : e' = e
    · subst h
      simp [State.taken]
    · simp [State.taken, h]
  · have ne : d ≠ c := by
      rintro rfl
      exact absurd (empty.symm.trans held) nofun
    exact (congrArg Buffers.held (vector_getElem_set_ne _ ne _)).trans empty
  · cases ha : f.audit with
    | true => rw [(second ha).2.2.2]; rfl
    | false => rw [(first ha).2.2.2]; rfl

theorem engineTake_keeps (s : State) (e : Engine) : s.TakesKeep (s.engineTake e) := by
  rcases engineTake_cases s e with h | ⟨c, f, -, -, -, -, held, take⟩
  · rw [h]
    exact takesKeep_refl s
  · rw [take]
    exact takeFrame_keeps held

theorem enginesTake_keeps (s : State) : s.TakesKeep s.enginesTake := by
  unfold State.enginesTake
  split
  · exact takesKeep_refl s
  · exact takesKeep_trans (engineTake_keeps s .e1) (engineTake_keeps _ .e2)

/-! ### After the completion (R52, R54, R66, R68) -/

/-- The ENGINE notice of an engine that was STOPPING at its completion (R68). -/
def State.stopNotices (s : State) (e : Engine) : List NoticeBody :=
  if (s.engines.get e).service = .stopping then [.engine e (s.engines.get e).lastCycle .stopping .out 0] else []

theorem afterCompletion_of_stopping {u : State} {e : Engine} (h : (u.engines.get e).service = .stopping) :
    u.afterCompletion e = (u.setEngine e { u.engines.get e with service := .out }).raise
      (.engine e (u.engines.get e).lastCycle .stopping .out 0) := by
  rw [State.afterCompletion, if_pos h, State.raiseEngine, setEngine_engines, perEngine_get_set_self]

theorem afterCompletion_of_not_stopping {u : State} {e : Engine} (h : (u.engines.get e).service ≠ .stopping) :
    u.afterCompletion e = u.enginesTake := if_neg h

theorem afterCompletion_ports_get (u : State) (e : Engine) (l : Link) :
    (u.afterCompletion e).ports.get l = (u.ports.get l).offerAll u.clock (u.stopNotices e) := by
  unfold State.stopNotices
  split
  · next h =>
    rw [afterCompletion_of_stopping h]
    exact raise_ports_get _ _ l
  · next h =>
    rw [afterCompletion_of_not_stopping h]
    exact congrArg (PerLink.get · l) (enginesTake_changes u .ports (by decide))

theorem afterCompletion_empty {u : State} {c : Channel} (e : Engine) (h : (u.buffers[c]).held = none) :
    ((u.afterCompletion e).buffers[c]).held = none := by
  by_cases stopping : (u.engines.get e).service = .stopping
  · rw [afterCompletion_of_stopping stopping]
    exact h
  · rw [afterCompletion_of_not_stopping stopping]
    exact (enginesTake_keeps u).empty c h

theorem afterCompletion_audit (u : State) (e : Engine) : (u.afterCompletion e).audit =
    { u.audit with counter := (u.afterCompletion e).audit.counter, skips := (u.afterCompletion e).audit.skips } := by
  by_cases stopping : (u.engines.get e).service = .stopping
  · rw [afterCompletion_of_stopping stopping]
    rfl
  · rw [afterCompletion_of_not_stopping stopping]
    exact (enginesTake_keeps u).audit

theorem afterCompletion_service (u : State) (e : Engine) : ((u.afterCompletion e).engines.get e).service =
    if (u.engines.get e).service = .stopping then .out else (u.engines.get e).service := by
  split
  · next h =>
    rw [afterCompletion_of_stopping h, raise_engines, setEngine_engines, perEngine_get_set_self]
  · next h =>
    rw [afterCompletion_of_not_stopping h]
    exact (enginesTake_keeps u).service e

theorem afterCompletion_hand {u : State} {e : Engine} (h : (u.engines.get e).service = .stopping)
    (idle : (u.engines.get e).hand = none) : ((u.afterCompletion e).engines.get e).hand = none := by
  rw [afterCompletion_of_stopping h, raise_engines, setEngine_engines, perEngine_get_set_self]
  exact idle

/-! ### The route of a result (R54, R59 to R64) -/

theorem firstDifference_eq_none_iff (x y : Figures) :
    firstDifference x y = none ↔ x.mean = y.mean ∧ x.ripple = y.ripple ∧ x.levels = y.levels := by
  unfold firstDifference
  by_cases mean : x.mean = y.mean
  · by_cases ripple : x.ripple = y.ripple
    · rw [if_neg (not_not_intro mean), if_neg (not_not_intro ripple), Option.map_eq_none_iff, List.find?_eq_none]
      simp only [mean, ripple, true_and, List.mem_finRange, bne_iff_ne, ne_eq, not_not, forall_const]
      exact ⟨fun h => Vector.ext fun i hi => h ⟨i, hi⟩, fun h i => by rw [h]⟩
    · simp [mean, ripple]
  · simp [mean]

/-- The first quantity in which two sets of figures differ, in the order of R60. -/
structure FirstDiffers (x y : Figures) (q : FaultQuantity) (v w : Half) : Prop where
  mean : x.mean ≠ y.mean → q = .mean ∧ v = x.mean ∧ w = y.mean
  ripple : x.mean = y.mean → x.ripple ≠ y.ripple → q = .ripple ∧ v = x.ripple ∧ w = y.ripple
  level : x.mean = y.mean → x.ripple = y.ripple →
    ∃ o : OrderIx, x.levels[o] ≠ y.levels[o] ∧ (∀ o' : OrderIx, o' < o → x.levels[o'] = y.levels[o']) ∧
      q = .level o ∧ v = x.levels[o] ∧ w = y.levels[o]

theorem firstDiffers_of_firstDifference {x y : Figures} {q : FaultQuantity} {v w : Half}
    (h : firstDifference x y = some (q, v, w)) : FirstDiffers x y q v w := by
  unfold firstDifference at h
  split at h
  · next mean =>
    cases h
    exact ⟨fun _ => ⟨rfl, rfl, rfl⟩, fun same => (mean same).elim, fun same => (mean same).elim⟩
  · next mean =>
    split at h
    · next ripple =>
      cases h
      exact ⟨fun ne => (mean ne).elim, fun _ _ => ⟨rfl, rfl, rfl⟩, fun _ same => (ripple same).elim⟩
    · next ripple =>
      obtain ⟨o, found, e⟩ := Option.map_eq_some_iff.1 h
      cases e
      obtain ⟨differs, before, after, orders, same⟩ := List.find?_eq_some_iff_append.1 found
      refine ⟨fun ne => (mean ne).elim, fun _ ne => (ripple ne).elim,
        fun _ _ => ⟨o, by simpa using differs, fun o' lt => ?_, rfl, rfl, rfl⟩⟩
      have sorted : (before ++ o :: after).Pairwise (· < ·) := orders ▸ List.pairwise_lt_finRange 63
      have mem : o' ∈ before ++ o :: after := orders ▸ List.mem_finRange o'
      rcases List.mem_append.1 mem with h | h
      · simpa using same o' h
      · have le : o ≤ o' := by
          rcases List.mem_cons.1 h with rfl | h
          · exact le_refl _
          · exact ((List.pairwise_cons.1 (List.pairwise_append.1 sorted).2.1).1 o' h).le
        exact absurd lt (not_lt.2 le)

/-- What the audit unit has made of the frame in hand `h` of engine `e`, computed to the figures `own`. -/
def State.routed (s : State) (e : Engine) (h : Hand) (own : Figures) : State :=
  (s.setEngine e { s.engines.get e with hand := none }).routeResult e h.role (h.frame.result own)

theorem routed_changes (s : State) (e : Engine) (h : Hand) (own : Figures) :
    State.ChangesOnly completionParts s (s.routed e h own) :=
  changes_comp completionParts (setEngine_changes s e _) (routeResult_changes _ e h.role _) (by decide) (by decide)

/-- The completion empties the hand of its engine, whatever becomes of the result. -/
theorem routed_engines (s : State) (e : Engine) (h : Hand) (own : Figures) :
    (s.routed e h own).engines = s.engines.set e { s.engines.get e with hand := none } :=
  routeResult_changes (s.setEngine e _) e h.role _ .engines (by decide)

/-- The result of the frame in hand `h`, computed to the figures `own`, comes to the result table as `figures`, with its
unaudited flag: not of an audit, of an abandoned one (R63), or of a pair that agrees (R60). -/
def State.Arrives (s : State) (h : Hand) (own figures : Figures) (unaudited : Bool) : Prop :=
  h.role = .plain ∧ figures = own ∧ unaudited = false ∨
  h.role = .abandoned ∧ figures = own ∧ unaudited = true ∨
  ∃ k, h.role = .pair ∧ s.audit.kept[h.frame.channel] = some k ∧ k.result.figures.mean = own.mean ∧
    k.result.figures.ripple = own.ripple ∧ k.result.figures.levels = own.levels ∧
    figures = { own with saturated := own.saturated || k.result.figures.saturated } ∧ unaudited = false

/-- The audit unit once the pair of channel `c` has left it. -/
def AuditUnit.unpaired (a : AuditUnit) (c : Channel) : AuditUnit := { a with kept := a.kept.set c none }

/-- The figures of E1 in a pair of which engine `e` has computed `own` and the other engine has had `kept` before. -/
def figuresOfE1 (e : Engine) (own kept : Figures) : Figures := if e = .e1 then own else kept

/-- The figures of E2 in that pair. -/
def figuresOfE2 (e : Engine) (own kept : Figures) : Figures := if e = .e1 then kept else own

theorem pair_agrees_iff (e : Engine) (own kept : Figures) :
    firstDifference (figuresOfE1 e own kept) (figuresOfE2 e own kept) = none ↔
      kept.mean = own.mean ∧ kept.ripple = own.ripple ∧ kept.levels = own.levels := by
  rw [firstDifference_eq_none_iff]
  cases e with
  | e1 => exact and_congr eq_comm (and_congr eq_comm eq_comm)
  | e2 => exact Iff.rfl

/-- The comparison of the second result of a pair with the kept one. -/
theorem routed_of_pair {s : State} {h : Hand} {k : Kept} (e : Engine) (own : Figures) (role : h.role = .pair)
    (kept : s.audit.kept[h.frame.channel] = some k) :
    s.routed e h own = (s.handEmptied e (s.audit.unpaired h.frame.channel)).compare k e (h.frame.result own) := by
  unfold State.routed State.routeResult
  rw [role]
  dsimp only
  split
  · next isNone => exact absurd (kept.symm.trans isNone) nofun
  · next k' isSome =>
    obtain rfl : k' = k := Option.some.inj (isSome.symm.trans kept)
    rfl

theorem routed_of_arrives {s : State} {h : Hand} {own figures : Figures} {unaudited : Bool} (e : Engine)
    (arrives : s.Arrives h own figures unaudited) : s.routed e h own =
      (s.handEmptied e (if h.role = .pair then s.audit.unpaired h.frame.channel else s.audit)).arrive
        (h.frame.resultWith figures unaudited) := by
  rcases arrives with ⟨role, rfl, rfl⟩ | ⟨role, rfl, rfl⟩ | ⟨k, role, kept, mean, ripple, levels, rfl, rfl⟩
  · rw [State.routed, role, if_neg nofun]
    rfl
  · rw [State.routed, role, if_neg nofun]
    rfl
  · have agree := (pair_agrees_iff e own k.result.figures).2 ⟨mean, ripple, levels⟩
    have agree : firstDifference (if e = .e1 then (h.frame.result own).figures else k.result.figures)
      (if e = .e1 then k.result.figures else (h.frame.result own).figures) = none := agree
    rw [routed_of_pair e own role kept, State.compare, agree, if_pos role]
    rfl

theorem routed_of_removed {s : State} {h : Hand} (e : Engine) (own : Figures) (role : h.role = .removed) :
    s.routed e h own = (s.handEmptied e s.audit).settle h.frame.channel h.frame.joinOrder := by
  rw [State.routed, role]
  rfl

theorem routed_of_first {s : State} {h : Hand} (e : Engine) (own : Figures) (role : h.role = .pair)
    (kept : s.audit.kept[h.frame.channel] = none) : s.routed e h own = s.handEmptied e
      { s.audit with kept := s.audit.kept.set h.frame.channel (some ⟨e, h.frame.result own⟩) } := by
  unfold State.routed State.routeResult
  rw [role]
  dsimp only
  split
  · rfl
  · next k isSome => exact absurd (kept.symm.trans isSome) nofun

theorem routed_of_mismatch {s : State} {h : Hand} {k : Kept} {e : Engine} {own : Figures} {q : FaultQuantity}
    {v w : Half}
    (role : h.role = .pair) (kept : s.audit.kept[h.frame.channel] = some k)
    (first : firstDifference (figuresOfE1 e own k.result.figures) (figuresOfE2 e own k.result.figures) =
      some (q, v, w)) : s.routed e h own =
        (s.handEmptied e (s.audit.unpaired h.frame.channel)).mismatch (h.frame.result own) q v w := by
  have first : firstDifference (if e = .e1 then (h.frame.result own).figures else k.result.figures)
    (if e = .e1 then k.result.figures else (h.frame.result own).figures) = some (q, v, w) := first
  rw [routed_of_pair e own role kept, State.compare, first]

theorem arrives_or_mismatch {s : State} {h : Hand} {k : Kept} (e : Engine) (own : Figures) (role : h.role = .pair)
    (kept : s.audit.kept[h.frame.channel] = some k) : (∃ figures unaudited, s.Arrives h own figures unaudited) ∨
    ∃ q v w, firstDifference (figuresOfE1 e own k.result.figures) (figuresOfE2 e own k.result.figures) =
      some (q, v, w) := by
  cases first : firstDifference (figuresOfE1 e own k.result.figures) (figuresOfE2 e own k.result.figures) with
  | some d => exact .inr ⟨d.1, d.2.1, d.2.2, rfl⟩
  | none =>
    obtain ⟨mean, ripple, levels⟩ := (pair_agrees_iff _ _ _).1 first
    exact .inl ⟨_, _, .inr (.inr ⟨k, role, kept, mean, ripple, levels, rfl, rfl⟩)⟩

/-! ### A mismatch (R61, R62) -/

theorem mismatch_settles (s : State) (res : TransformResult) (q : FaultQuantity) (v w : Half) :
    s.Settles (s.mismatch res q v w) res.channel res.join := settle_settles s res.channel res.join

/-- The audit unit after a mismatch. -/
theorem mismatch_audit (s : State) (res : TransformResult) (q : FaultQuantity) (v w : Half) :
    (s.mismatch res q v w).audit = (s.audit.writeFault ⟨res.channel, res.cycle, q, v, w⟩).countMismatch := by
  rw [← settle_changes s res.channel res.join .audit (by decide)]
  rfl

theorem mismatch_ports_get (s : State) (res : TransformResult) (q : FaultQuantity) (v w : Half) (l : Link) :
    let t := s.mismatch res q v w
    t.ports.get l = ((s.ports.get l).settled res.join).offerAll s.clock
      [.mismatch res.channel res.cycle s.audit.auditAll t.audit.auditAll t.audit.mismatches] := by
  intro t
  rw [← settle_ports_get s res.channel res.join l, ← settle_changes s res.channel res.join .clock (by decide),
    ← settle_changes s res.channel res.join .audit (by decide)]
  exact raise_ports_get _ _ l

end Sys2Proof.Machine
end

section
/-! SUPPORT. TRANSFORM_COMPLETE as a whole: the route of the result, then what the engine does next, with the notices
of both (R54, R60 to R62, R71 to R74). -/

namespace Sys2Proof.Machine

/-! ### The completion as a whole -/

theorem exec_transformComplete {s : State} {e : Engine} {h : Hand} (hand : (s.engines.get e).hand = some h)
    (wrong : Option Figures) : exec (.transformComplete e wrong) s =
      .next ((s.routed e h (wrong.getD (transform h.frame.values))).afterCompletion e).runAll := by
  show execTransformComplete e wrong s = _
  rw [execTransformComplete, hand]
  rfl

theorem routed_engine (s : State) (e : Engine) (h : Hand) (own : Figures) :
    (s.routed e h own).engines.get e = { s.engines.get e with hand := none } := by
  rw [routed_engines, perEngine_get_set_self]

theorem routed_completionEnds (s : State) (e : Engine) (h : Hand) (own : Figures) :
    s.CompletionEnds (s.routed e h own) ((s.routed e h own).afterCompletion e) e := by
  have slot := routed_engine s e h own
  refine ⟨routed_engines s e h own, fun stopping => ?_, fun goes => ?_⟩
  · rw [afterCompletion_of_stopping (by rw [slot]; exact stopping)]
    simp only [slot]
  · exact afterCompletion_of_not_stopping (by rw [slot]; exact goes)

theorem completed_service (s : State) (e : Engine) (h : Hand) (own : Figures) :
    (((s.routed e h own).afterCompletion e).engines.get e).service =
      if (s.engines.get e).service = .stopping then .out else (s.engines.get e).service := by
  rw [afterCompletion_service, routed_engine]

theorem completed_hand {s : State} {e : Engine} (h : Hand) (own : Figures)
    (stopping : (s.engines.get e).service = .stopping) :
    (((s.routed e h own).afterCompletion e).engines.get e).hand = none :=
  afterCompletion_hand (by rw [routed_engine]; exact stopping) (by rw [routed_engine])

/-- The ENGINE notice of an engine that was STOPPING comes last (log entry 15). -/
theorem completed_ports_get {s : State} {e : Engine} {h : Hand} {own : Figures} {before : Link → Port}
    {bs : List NoticeBody} (ports : ∀ l, (s.routed e h own).ports.get l = (before l).offerAll s.clock bs) (l : Link) :
    ((s.routed e h own).afterCompletion e).ports.get l = (before l).offerAll s.clock (bs ++ s.stopNotices e) := by
  have clock : (s.routed e h own).clock = s.clock := routed_changes s e h own .clock (by decide)
  have stops : (s.routed e h own).stopNotices e = s.stopNotices e := by simp only [State.stopNotices, routed_engine]
  rw [afterCompletion_ports_get, ports, clock, stops, offerAll_append]

/-- What is settled stays so through the takes that follow. -/
theorem completed_empty {s : State} {e : Engine} {h : Hand} {own : Figures} {f : Frame}
    (settles : s.Settles (s.routed e h own) h.frame.channel h.frame.joinOrder)
    (held : (s.buffers[h.frame.channel]).held = some f) (join : f.joinOrder = h.frame.joinOrder) :
    (((s.routed e h own).afterCompletion e).buffers[h.frame.channel]).held = none := by
  refine afterCompletion_empty e ?_
  rw [settles.1, if_pos rfl, held]
  exact if_pos join

theorem completed_changes {s : State} {e : Engine} {h : Hand} {own : Figures} {parts : List Part}
    (changes : State.ChangesOnly parts s (s.routed e h own)) :
    State.ChangesOnly (parts ++ (takeParts ++ [.ports])) s ((s.routed e h own).afterCompletion e) :=
  changes_comp _ changes (afterCompletion_changes _ e) (fun _ => List.mem_append_left _)
    (fun _ => List.mem_append_right _)

/-! ### A pair that differs -/

/-- A settling is read from the buffers and the queue alone. -/
theorem settles_of_handEmptied {s u : State} {c : Channel} {j : Nat} {e : Engine} {a : AuditUnit}
    (h : (s.handEmptied e a).Settles u c j) : s.Settles u c j := h

/-- Settles O17: the first difference of the pair is `firstDiffers_of_firstDifference`. -/
theorem transformMismatch : Obligations.TransformMismatch := by
  intro e wrong s h k hand role kept own x1 x2 differ
  obtain ⟨⟨q, v, w⟩, first⟩ : ∃ d, firstDifference x1 x2 = some d := by
    refine Option.ne_none_iff_exists'.1 fun agree => ?_
    obtain ⟨mean, ripple, levels⟩ := (firstDifference_eq_none_iff _ _).1 agree
    exact differ.elim (· mean) (Or.elim · (· ripple) (· levels))
  have routed := routed_of_mismatch role kept first
  have differs := firstDiffers_of_firstDifference first
  let fault : FaultRecord := ⟨h.frame.channel, h.frame.cycle, q, v, w⟩
  have settles : s.Settles (s.routed e h own) h.frame.channel h.frame.joinOrder := by
    rw [routed]
    exact settles_of_handEmptied (mismatch_settles _ (h.frame.result own) q v w)
  have audit : (s.routed e h own).audit = ((s.audit.unpaired h.frame.channel).writeFault fault).countMismatch := by
    rw [routed]
    exact mismatch_audit _ _ _ _ _
  have changes : State.ChangesOnly (settleParts ++ [.engines, .audit]) s (s.routed e h own) := by
    rw [routed]
    exact changes_comp _ (handEmptied_changes s e _) (mismatch_changes _ _ _ _ _) (by decide) (by decide)
  have ports : ∀ l, (s.routed e h own).ports.get l = ((s.ports.get l).settled h.frame.joinOrder).offerAll s.clock
      [.mismatch h.frame.channel h.frame.cycle s.audit.auditAll (s.routed e h own).audit.auditAll
        (s.routed e h own).audit.mismatches] := fun l => by
    rw [routed]
    exact mismatch_ports_get _ _ _ _ _ l
  have later := afterCompletion_audit (s.routed e h own) e
  refine ⟨s.routed e h own, (s.routed e h own).afterCompletion e, fault, exec_transformComplete hand wrong,
    routed_completionEnds s e h own, settles, audit, changes_mono (completed_changes changes) (by decide),
    fun f => completed_empty settles, ?_, ?_, ?_, ?_, ?_, ?_, rfl, rfl, differs.mean, differs.ripple, differs.level, ?_⟩
  iterate 5 (rw [later, audit]; rfl)
  · rw [later, audit]
    exact vector_getElem_set_self _ _ _
  · refine raised_of_ports (fun l => settled_keeps _ h.frame.joinOrder) (fun l => ?_)
    rw [completed_ports_get ports l, later]
    rfl

/-! ### A result that comes to the result table, and the others -/

theorem routed_arrived {s : State} {e : Engine} {h : Hand} {own figures : Figures} {unaudited : Bool}
    (arrives : s.Arrives h own figures unaudited) : s.Arrived (s.routed e h own) h.frame figures unaudited := by
  rw [routed_of_arrives e arrives]
  exact arrived_of_handEmptied (arrive_arrived _ _ _ _)

theorem routed_audit_of_arrives {s : State} {h : Hand} {own figures : Figures} {unaudited : Bool} (e : Engine)
    (arrives : s.Arrives h own figures unaudited) : (s.routed e h own).audit =
      if h.role = .pair then s.audit.unpaired h.frame.channel else s.audit := by
  rw [routed_of_arrives e arrives]
  exact arrive_changes _ _ .audit (by decide)

/-- The result of a frame that an activation removed is dropped (R64). -/
theorem routed_removed {s : State} {h : Hand} (e : Engine) (own : Figures) (role : h.role = .removed) :
    s.Settles (s.routed e h own) h.frame.channel h.frame.joinOrder ∧
    (∀ l, (s.routed e h own).ports.get l = (s.ports.get l).settled h.frame.joinOrder) ∧
    State.ChangesOnly (settleParts ++ [.engines]) s (s.routed e h own) := by
  rw [routed_of_removed e own role]
  exact ⟨settle_settles (s.setEngine e _) _ _, settle_ports_get (s.setEngine e _) _ _,
    changes_comp _ (setEngine_changes s e { s.engines.get e with hand := none }) (settle_changes _ _ _) (by decide)
      (by decide)⟩

/-- A role other than that of a pair leaves the audit unit as it is. -/
theorem routed_audit_of_not_pair {s : State} {h : Hand} (e : Engine) (own : Figures) (role : h.role ≠ .pair) :
    (s.routed e h own).audit = s.audit := by
  cases r : h.role with
  | plain => rw [routed_audit_of_arrives e (.inl ⟨r, rfl, rfl⟩), if_neg role]
  | abandoned => rw [routed_audit_of_arrives e (.inr (.inl ⟨r, rfl, rfl⟩)), if_neg role]
  | pair => exact absurd r role
  | removed => exact (routed_removed e own r).2.2 .audit (by decide)

/-- A settling raises no notice of its own. -/
theorem completed_raised {s : State} {e : Engine} {h : Hand} {own : Figures} {bs : List NoticeBody}
    (ports : ∀ l, (s.routed e h own).ports.get l = ((s.ports.get l).settled h.frame.joinOrder).offerAll s.clock bs) :
    s.Raised ((s.routed e h own).afterCompletion e) (bs ++ s.stopNotices e) :=
  raised_of_ports (fun _ => settled_keeps _ _) (completed_ports_get ports)

/-- A frame whose result is dropped, at the door (R71, R72) or as that of a removed frame (R64). -/
theorem completed_of_dropped {s : State} (e : Engine) {h : Hand} (own : Figures) (dropped : h.role = .removed ∨
    s.Drops h.frame ∧ ∃ figures unaudited, s.Arrives h own figures unaudited) :
    s.Raised ((s.routed e h own).afterCompletion e) (s.stopNotices e) ∧
    State.ChangesOnly [.buffers, .queue, .engines, .audit, .ports] s ((s.routed e h own).afterCompletion e) := by
  rcases dropped with role | ⟨drops, figures, unaudited, arrives⟩
  · obtain ⟨-, ports, changes⟩ := routed_removed e own role
    exact ⟨completed_raised (bs := []) ports, changes_mono (completed_changes changes) (by decide)⟩
  · have arrived := routed_arrived (e := e) arrives
    have changes := arrived.dropped drops
    have raised := completed_raised arrived.ports
    rw [checkNotices_eq_nil (changes .checks (by decide)),
      permitNotices_eq_nil (changes .verdicts (by decide))] at raised
    exact ⟨raised, changes_mono (completed_changes changes) (by decide)⟩

/-- The first result of a pair is kept, and its frame is not settled (R59). -/
theorem completed_of_first {s : State} {e : Engine} {h : Hand} (own : Figures) (role : h.role = .pair)
    (kept : s.audit.kept[h.frame.channel] = none) :
    let t := (s.routed e h own).afterCompletion e
    t.audit.kept[h.frame.channel] = some ⟨e, h.frame.result own⟩ ∧
    s.Raised t (s.stopNotices e) ∧ State.ChangesOnly [.buffers, .queue, .engines, .audit, .ports] s t := by
  have routed := routed_of_first e own role kept
  have changes : State.ChangesOnly [.engines, .audit] s (s.routed e h own) := by
    rw [routed]
    exact handEmptied_changes s e _
  have ports : ∀ l, (s.routed e h own).ports.get l = (s.ports.get l).offerAll s.clock [] := fun l =>
    congrArg (PerLink.get · l) (changes .ports (by decide))
  refine ⟨?_, raised_of_offerAll (completed_ports_get ports), changes_mono (completed_changes changes) (by decide)⟩
  rw [afterCompletion_audit, routed]
  exact vector_getElem_set_self _ _ _

/-- UNPLANNED after an evaluation event (R115). -/
theorem unplanned_of_evaluation {s t : State} {c : Channel}
    (h : s.VerdictsSet t (fun _ => false) (s.afterEvaluation c)) (g : Group) : t.verdicts[g].reasons.unplanned =
      if g = s.plan.groupOf c ∧ s.plan.protects g = true then false else s.verdicts[g].reasons.unplanned := by
  have v := h.1 g
  dsimp only at v
  rw [v]
  unfold State.afterEvaluation
  split
  · rfl
  · dsimp only
    split <;> rfl

/-- An accepted result (R73, R74, R84, R115). -/
theorem completed_of_accepted {s : State} {e : Engine} {h : Hand} {own figures : Figures} {unaudited : Bool}
    (arrives : s.Arrives h own figures unaudited) (accepted : ¬s.Drops h.frame) :
    let t := (s.routed e h own).afterCompletion e
    t.records = s.records.set h.frame.channel (some (s.recordFor h.frame figures unaudited)) ∧
    (s.unevaluated h.frame → t.checks = s.checks ∧ t.verdicts = s.verdicts ∧ t.alert = s.alert) ∧
    (¬s.unevaluated h.frame →
      (∀ i : CheckIx, t.checks[i] =
        if s.plan.checks[i].enabled = true ∧ (s.plan.checks[i].channel = h.frame.channel ∨
            s.plan.checks[i].quantity = .spread ∧ s.plan.checks[i].second = h.frame.channel) ∧
            s.checks[i].state ≠ .suspended then
          s.judge s.records h.frame.channel (s.recordFor h.frame figures unaudited) s.plan.checks[i] s.checks[i]
        else s.checks[i]) ∧
      s.VerdictsSet t (fun _ => false) (s.afterEvaluation h.frame.channel)) ∧
    s.Raised t (s.checkNotices t (fun _ => h.frame.cycle) ++ s.permitNotices t (fun _ => h.frame.cycle)
      ++ s.stopNotices e) := by
  intro t
  have arrived := routed_arrived (e := e) arrives
  have later := afterCompletion_changes (s.routed e h own) e
  have records : t.records = (s.routed e h own).records := later .records (by decide)
  have checks : t.checks = (s.routed e h own).checks := later .checks (by decide)
  have verdicts : t.verdicts = (s.routed e h own).verdicts := later .verdicts (by decide)
  have alert : t.alert = (s.routed e h own).alert := later .alert (by decide)
  have plan : t.planStore = (s.routed e h own).planStore := later .planStore (by decide)
  refine ⟨records.trans (arrived.record accepted), fun held => ?_, fun held => ⟨fun i => ?_, ?_⟩, ?_⟩
  · rw [checks, verdicts, alert]
    exact arrived.passed accepted held
  · rw [checks]
    exact arrived.checks accepted held i
  · exact verdictsSet_congr (arrived.verdicts accepted held) rfl rfl rfl rfl plan (later .tests (by decide)) checks
      verdicts alert
  · rw [checkNotices_congr rfl checks (congrArg PlanStore.active plan), permitNotices_congr rfl verdicts]
    exact completed_raised arrived.ports

/-- Settles O16: each case of the route has its lemma above, `completed_of_accepted` the one that evaluates. -/
theorem transformResults : Obligations.TransformResults := by
  intro e wrong s h hand c own stops dropped arrives first
  have audit := routed_audit_of_not_pair (s := s) (h := h) e own
  have settles : h.role = .removed ∨ (∃ figures unaudited, arrives figures unaudited) →
      s.Settles (s.routed e h own) c h.frame.joinOrder := by
    rintro (role | ⟨figures, unaudited, arrives⟩)
    · exact (routed_removed e own role).1
    · exact (routed_arrived arrives).settles
  refine ⟨s.routed e h own, (s.routed e h own).afterCompletion e, exec_transformComplete hand wrong,
    routed_completionEnds s e h own, settles, audit, ?_, completed_service s e h own, completed_hand h own,
    fun comes f => completed_empty (settles comes), completed_of_dropped e own, fun role kept => ?_,
    fun figures unaudited arrives accepted => ?_⟩
  · rintro role ⟨figures, unaudited, arrives⟩
    rw [routed_audit_of_arrives e arrives, if_pos role]
    rfl
  · obtain ⟨keeps, raised, changes⟩ := completed_of_first (e := e) own role kept
    have routed := routed_of_first e own role kept
    exact ⟨keeps, by rw [routed]; rfl, by rw [routed]; rfl, by rw [routed]; rfl, raised, changes⟩
  · obtain ⟨record, passed, evaluated, raised⟩ := completed_of_accepted (e := e) arrives accepted
    refine ⟨record, fun held passes => passed ⟨held, passes⟩, fun live => ?_, raised,
      changes_mono (completed_changes (routed_changes s e h own)) (by decide)⟩
    have judged : ¬s.unevaluated h.frame := by
      rintro ⟨held, passes⟩
      rcases live with live | live
      · exact absurd (held.symm.trans live) nofun
      · exact absurd (live.symm.trans passes) nofun
    obtain ⟨checks, verdicts⟩ := evaluated judged
    exact ⟨checks, unplanned_of_evaluation verdicts, verdicts⟩

end Sys2Proof.Machine
end

section
/-! SUPPORT. DRAIN WAIT (R169): what it waits for, the settlings its port sees, and its two ends. -/

namespace Sys2Proof.Machine

/-! ### The frames not yet settled -/

theorem nodup_eraseDups {α : Type} [DecidableEq α] : ∀ xs : List α, xs.eraseDups.Nodup
  | [] => List.nodup_nil
  | x :: xs => by
    rw [List.eraseDups_cons, List.nodup_cons]
    exact ⟨by simp [List.mem_eraseDups], nodup_eraseDups _⟩
termination_by xs => xs.length
decreasing_by exact Nat.lt_succ_of_le (List.length_filter_le _ _)

theorem mem_unsettled_iff (s : State) (j : Nat) : j ∈ s.unsettled ↔
    (∃ (c : Channel) (f : Frame), (s.buffers[c]).held = some f ∧ f.joinOrder = j) ∨
    ∃ (e : Engine) (h : Hand), (s.engines.get e).hand = some h ∧ h.frame.joinOrder = j := by
  have engines : (∃ (e : Engine) (h : Hand), (s.engines.get e).hand = some h ∧ h.frame.joinOrder = j) ↔
      (∃ h, s.engines.e1.hand = some h ∧ h.frame.joinOrder = j) ∨
      ∃ h, s.engines.e2.hand = some h ∧ h.frame.joinOrder = j :=
    ⟨fun ⟨e, h⟩ => by cases e with
      | e1 => exact .inl h
      | e2 => exact .inr h,
    fun h => h.elim (⟨.e1, ·⟩) (⟨.e2, ·⟩)⟩
  simp only [State.unsettled, List.mem_eraseDups, List.mem_append, List.mem_filterMap, List.mem_finRange, true_and,
    Option.map_eq_some_iff, List.mem_map, Option.mem_toList, engines, or_and_right, exists_or]

/-! ### A settling at one port (R31, R169) -/

theorem settled_of_not_awaited {p : Port} {d : Drain} {j : Nat} (drain : p.drain = some d) (h : j ∉ d.awaiting) :
    p.settled j = p := by
  unfold Port.settled
  rw [drain]
  exact if_neg h

theorem settled_of_last {p : Port} {d : Drain} {j : Nat} (drain : p.drain = some d) (h : j ∈ d.awaiting)
    (last : ∀ k ∈ d.awaiting, k = j) : p.settled j = { p with
      drain := none
      replies := p.replies ++ [{ command := 0x06, tag := d.tag, code := .ok, body := [byteOf d.count] }] } := by
  have rest : (d.awaiting.filter (fun k => k != j)).isEmpty = true := by
    rw [List.isEmpty_iff, List.filter_eq_nil_iff]
    exact fun k hk => by simp [last k hk]
  unfold Port.settled
  rw [drain]
  dsimp only
  rw [if_pos h, if_pos rest]
  rfl

theorem settled_of_more {p : Port} {d : Drain} {j : Nat} (drain : p.drain = some d) (h : j ∈ d.awaiting)
    (more : ∃ k ∈ d.awaiting, k ≠ j) : p.settled j = { p with
      drain := some { d with awaiting := d.awaiting.filter (fun k => k != j) } } := by
  obtain ⟨k, hk, ne⟩ := more
  have rest : ¬(d.awaiting.filter (fun k => k != j)).isEmpty = true := by
    rw [List.isEmpty_iff]
    exact List.ne_nil_of_mem (List.mem_filter.2 ⟨hk, by simpa using ne⟩)
  unfold Port.settled
  rw [drain]
  dsimp only
  rw [if_pos h, if_neg rest]

/-! ### The events that settle -/

/-- A completion settles its frame at every port, unless it is the first of a pair, beside the notices of the event. -/
theorem routed_ports_get (s : State) (e : Engine) (h : Hand) (own : Figures) : ∃ bs, ∀ l,
    (s.routed e h own).ports.get l =
      (if h.role = .pair ∧ s.audit.kept[h.frame.channel] = none then s.ports.get l
        else (s.ports.get l).settled h.frame.joinOrder).offerAll s.clock bs := by
  have arrived : ∀ {figures unaudited}, s.Arrives h own figures unaudited → ∃ bs, ∀ l,
      (s.routed e h own).ports.get l = ((s.ports.get l).settled h.frame.joinOrder).offerAll s.clock bs :=
    fun arrives => ⟨_, (routed_arrived arrives).ports⟩
  by_cases pair : h.role = .pair
  · cases kept : s.audit.kept[h.frame.channel] with
    | none => exact ⟨[], fun l => by rw [if_pos ⟨pair, rfl⟩, routed_of_first e own pair kept]; rfl⟩
    | some k =>
      simp only [reduceCtorEq, and_false, if_false]
      rcases arrives_or_mismatch e own pair kept with ⟨figures, unaudited, arrives⟩ | ⟨q, v, w, first⟩
      · exact arrived arrives
      · rw [routed_of_mismatch pair kept first]
        exact ⟨_, mismatch_ports_get _ _ _ _ _⟩
  · simp only [pair, false_and, if_false]
    cases role : h.role with
    | plain => exact arrived (.inl ⟨role, rfl, rfl⟩)
    | abandoned => exact arrived (.inr (.inl ⟨role, rfl, rfl⟩))
    | pair => exact absurd role pair
    | removed => exact ⟨[], (routed_removed e own role).2.1⟩

theorem joinQueue_ports (s : State) (f : Frame) : (s.joinQueue f).ports = s.ports := rfl

theorem superseded_ports_get (s : State) (c : Channel) (clipped : Bool) (j : Nat) (l : Link) :
    (s.superseded c clipped j).ports.get l = (s.ports.get l).settled j := settle_ports_get _ _ _ _

theorem closeFrame_ports_get (s : State) (f : Frame) (l : Link) : (s.closeFrame f).ports.get l =
    match (s.buffers[f.channel]).held with
    | none => s.ports.get l
    | some old => if (old.engines.e1 || old.engines.e2) = true then s.ports.get l
        else (s.ports.get l).settled old.joinOrder := by
  cases held : (s.buffers[f.channel]).held with
  | none => rw [closeFrame_of_held_none held]; rfl
  | some old =>
    dsimp only
    split
    · next taken => rw [closeFrame_of_taken held taken]; rfl
    · next untaken =>
      rw [closeFrame_of_untaken held (by simpa using untaken), joinQueue_ports, superseded_ports_get]

theorem setRole_ports (s : State) (e : Engine) (c : Channel) (role : AuditRole) :
    (s.setRole e c role).ports = s.ports := setRole_changes s e c role .ports (by decide)

/-- The port of link `l` once an activation has removed the buffered frame of channel `c`: a queued frame is settled,
unless an engine still has it (R33, R64). -/
def State.portRemoved (s : State) (c : Channel) (l : Link) : Port :=
  match (s.buffers[c]).held with
  | none => s.ports.get l
  | some f =>
    if c ∈ s.queue then
      if (f.engines.e1 || f.engines.e2) = true then
        match s.audit.kept[c] with
        | some k => (s.ports.get l).settled k.result.join
        | none => s.ports.get l
      else (s.ports.get l).settled f.joinOrder
    else s.ports.get l

theorem removeBuffered_ports_get (s : State) (c : Channel) (l : Link) :
    (s.removeBuffered c).ports.get l = s.portRemoved c l := by
  unfold State.removeBuffered State.portRemoved
  dsimp only
  cases held : (s.buffers[c]).held with
  | none => rfl
  | some f =>
    dsimp only
    by_cases queued : c ∈ s.queue
    · rw [if_pos queued, if_pos queued]
      by_cases taken : (f.engines.e1 || f.engines.e2) = true
      · rw [if_pos taken, if_neg (by simp [taken])]
        simp only [dequeue_audit, setBuffers_audit]
        cases s.audit.kept[c] with
        | none => simp only [setRole_ports]; rfl
        | some k => exact settle_ports_get _ _ _ _
      · rw [if_neg taken, if_pos (by simpa using taken)]
        exact settle_ports_get _ _ _ _
    · rw [if_neg queued, if_neg queued]
      rfl

theorem emptyChannel_ports_get (s : State) (c : Channel) (l : Link) :
    (s.emptyChannel c).ports.get l = s.portRemoved c l := by
  unfold State.emptyChannel
  dsimp only
  rw [setRecord_ports, removeBuffered_ports_get]
  unfold State.portRemoved
  rw [setConverter_buffers, setBuffers_at]
  rfl

/-! ### The start and the ends of a drain -/

theorem startDrain_of_settled {s : State} (h : s.unsettled = []) (l : Link) (f : CmdFrame) :
    s.startDrain l f = s.reply l f .ok [0] := by simp [State.startDrain, h]

theorem startDrain_of_unsettled {s : State} (h : s.unsettled ≠ []) (l : Link) (f : CmdFrame) :
    s.startDrain l f = s.setPort l { s.ports.get l with
      drain := some { tag := f.tag, awaiting := s.unsettled, count := s.unsettled.length, started := s.clock } } := by
  simp [State.startDrain, h]

/-- The start of a drain makes no port ready. -/
theorem startDrain_calm {s : State} (h : s.calm) (l : Link) (f : CmdFrame) : (s.startDrain l f).calm := by
  by_cases settled : s.unsettled = []
  · rw [startDrain_of_settled settled]
    exact reply_calm h _ _ _ _
  · rw [startDrain_of_unsettled settled]
    refine (calm_iff _).2 fun l' => ?_
    by_cases e : l' = l
    · subst e
      simp [State.setPort, Port.ready]
    · simpa [State.setPort, e] using (calm_iff s).1 h l'

theorem exec_drainWait {l : Link} {s : State} (tag : Byte) (h : s.Ready l) :
    exec (.drainWait l tag) s = .next (s.startDrain l (Command.drainWait.frame tag)) := by
  have run : s.runFrame l (Command.drainWait.frame tag) = s.startDrain l (Command.drainWait.frame tag) := rfl
  rw [exec_frameTaken rfl (command_frame_not_control .drainWait tag) (payload_length_of_fits (c := .drainWait) rfl),
    takeCommand_calm h (run ▸ startDrain_calm h.1 _ _), run]

theorem exec_drainTimeout {l : Link} {d : Drain} {s : State} (drain : (s.ports.get l).drain = some d)
    (due : s.clock = d.started + 1000) : exec (.drainTimeout l) s = .next (s.setPort l { s.ports.get l with
      drain := none
      replies := (s.ports.get l).replies ++
        [{ command := 0x06, tag := d.tag, code := .timeout, body := [byteOf d.awaiting.length] }] }).runAll := by
  have isDue : s.drainDue l = true := by
    unfold State.drainDue
    rw [drain]
    exact beq_iff_eq.2 due
  have ends : s.endDrain l = s.setPort l { s.ports.get l with
      drain := none
      replies := (s.ports.get l).replies ++
        [{ command := 0x06, tag := d.tag, code := .timeout, body := [byteOf d.awaiting.length] }] } := by
    unfold State.endDrain
    dsimp only
    rw [drain]
    rfl
  rw [← ends]
  exact congrArg Host.Outcome.next (if_pos isDue)

/-- Settles O43: one lemma above for each event that settles, and for the start and each end of a drain. -/
theorem drains : Obligations.Drains := by
  refine ⟨fun s => ⟨nodup_eraseDups _, mem_unsettled_iff s⟩, fun s c j => ⟨settle_ports_get s c j, ?_⟩,
    fun e wrong s h hand => ?_, closeFrame_ports_get, emptyChannel_ports_get, fun l tag s ready => ⟨fun settled => ?_,
    fun unsettled => ?_⟩, fun l d s => exec_drainTimeout, fun p d j drain => ⟨settled_of_not_awaited drain,
    settled_of_last drain, settled_of_more drain⟩⟩
  · exact settle_held s c j
  · obtain ⟨bs, ports⟩ := routed_ports_get s e h (wrong.getD (transform h.frame.values))
    refine ⟨_, exec_transformComplete hand wrong, fun l => ?_⟩
    rw [completed_ports_get ports l]
    obtain ⟨queue, replies, drain, -⟩ := offerAll_keeps (if h.role = .pair ∧ s.audit.kept[h.frame.channel] = none
      then s.ports.get l else (s.ports.get l).settled h.frame.joinOrder) s.clock (bs ++ s.stopNotices e)
    refine ⟨drain, replies, queue.trans ?_⟩
    split
    · rfl
    · exact settled_queue _ _
  · rw [exec_drainWait tag ready, startDrain_of_settled settled]
  · rw [exec_drainWait tag ready, startDrain_of_unsettled unsettled]
    rfl

end Sys2Proof.Machine
end

section
/-! SUPPORT. The figures of a frame (R36 to R49): the sums of the model as sums over the slots, the half-period symmetry
of the tables (R40), and the ranges in which a mean and a ripple level fit their fields (R44). -/

namespace Sys2Proof.Machine

/-! ### Sums over lists and over orders -/

theorem sum_map_range_eq_sum_fin {M : Type} [AddCommMonoid M] (n : Nat) (f : Nat → M) :
    ((List.range n).map f).sum = ∑ i : Fin n, f i := by
  rw [Fin.sum_univ_def, ← List.map_coe_finRange_eq_range, List.map_map]
  rfl

theorem isqrt_lt_of_lt_mul_self {x r : Nat} (h : x < r * r) : isqrt x < r :=
  lt_of_mul_self_lt_mul_self₀ (Nat.zero_le r) ((isqrt_spec x).1.trans_lt h)

/-! ### Harmonic sums -/

/-- A harmonic sum slot by slot (R41). -/
theorem harmonicSum_eq_sum_range (t : Nat → Int) (h : Nat) (xs : List Int) :
    harmonicSum t h xs = ((List.range xs.length).map (fun n => xs.getD n 0 * t (h * n % 128))).sum := by
  rw [harmonicSum, total_eq_sum]
  refine congrArg List.sum (List.ext_getElem (by simp) fun n hn _ => ?_)
  have slot : n < xs.length := by simpa using hn
  simp [slot]

/-- The samples and an offset contribute apart: the offset by the sum of the table alone. -/
theorem harmonicSum_map_add (t : Nat → Int) (h : Nat) (d : Int) (xs : List Int) :
    harmonicSum t h (xs.map (· + d)) =
      harmonicSum t h xs + d * ((List.range xs.length).map (fun n => t (h * n % 128))).sum := by
  rw [harmonicSum_eq_sum_range, harmonicSum_eq_sum_range, ← List.sum_map_mul_left, ← List.sum_map_add, List.length_map]
  refine congrArg List.sum (List.map_congr_left fun n hn => ?_)
  have slot : n < xs.length := List.mem_range.1 hn
  simp [slot, add_mul]

/-! ### The half-period symmetry of the tables -/

/-- A table of 128 entries changes sign half a period on (R40). -/
def HalfPeriodOdd (t : Nat → Int) : Prop := ∀ k, t ((k + 64) % 128) = -t (k % 128)

theorem cosTable_add_64 {k : Nat} (h : k < 64) : cosTable (k + 64) = -cosTable k := by
  unfold cosTable
  by_cases first : k ≤ 32
  · rw [if_pos first, if_neg (by omega : ¬k + 64 ≤ 32), if_pos (by omega : k + 64 ≤ 96), Nat.add_sub_cancel]
    split
    · next start =>
      obtain rfl : k = 0 := by omega
      rfl
    · rfl
  · rw [if_neg first, if_pos (by omega : k ≤ 64), if_neg (by omega : ¬k + 64 ≤ 32), if_neg (by omega : ¬k + 64 ≤ 64),
      if_neg (by omega : ¬k + 64 ≤ 96), neg_neg, show 128 - (k + 64) = 64 - k by omega]

theorem cosTable_halfPeriodOdd : HalfPeriodOdd cosTable := by
  intro k
  by_cases half : k % 128 < 64
  · rw [show (k + 64) % 128 = k % 128 + 64 by omega, cosTable_add_64 half]
  · have back : (k + 64) % 128 < 64 := by omega
    rw [show k % 128 = (k + 64) % 128 + 64 by omega, cosTable_add_64 back, neg_neg]

theorem sinTable_halfPeriodOdd : HalfPeriodOdd sinTable := by
  intro k
  have shifted := cosTable_halfPeriodOdd (k + 96)
  rw [sinTable, sinTable, Nat.mod_add_mod, Nat.mod_add_mod, ← shifted, add_right_comm]

/-- Every order from 1 to 63 has a shift of the slots that moves its table index by half a period: the power of two in
the order is at most 32. -/
theorem exists_shift_half_period {h : Nat} (pos : 1 ≤ h) (le : h ≤ 63) : ∃ c, h * c % 128 = 64 := by
  obtain ⟨k, m, ⟨j, odd⟩, rfl⟩ := Nat.exists_eq_two_pow_mul_odd (by omega : h ≠ 0)
  have k_lt : k < 6 := by
    refine (Nat.pow_lt_pow_iff_right (by decide : 1 < 2)).1 ?_
    calc 2 ^ k ≤ 2 ^ k * m := Nat.le_mul_of_pos_right _ (by omega)
      _ < 2 ^ 6 := by omega
  refine ⟨2 ^ (6 - k), ?_⟩
  calc 2 ^ k * m * 2 ^ (6 - k) % 128 = 2 ^ k * 2 ^ (6 - k) * m % 128 := by rw [mul_right_comm]
    _ = 2 ^ 6 * m % 128 := by rw [← pow_add, Nat.add_sub_cancel' k_lt.le]
    _ = 64 := by omega

/-- The entries of a table that an order reads cancel (R40): the shift by half a period permutes the slots and changes
the sign of each entry. -/
theorem sum_table_eq_zero {t : Nat → Int} (odd : HalfPeriodOdd t) {h : Nat} (pos : 1 ≤ h) (le : h ≤ 63) :
    ((List.range 128).map (fun n => t (h * n % 128))).sum = 0 := by
  obtain ⟨c, shift⟩ := exists_shift_half_period pos le
  have negated : ∀ n : Fin 128, t (h * (n + Fin.ofNat 128 c : Fin 128) % 128) = -t (h * n % 128) := by
    intro n
    rw [← odd, Fin.val_add, Fin.val_ofNat, Nat.add_mod_mod, Nat.mul_mod_mod, mul_add, Nat.add_mod _ (h * c), shift,
      Nat.mod_add_mod]
  have permuted := Equiv.sum_comp (Equiv.addRight (Fin.ofNat 128 c)) (fun n : Fin 128 => t (h * n % 128))
  simp only [Equiv.coe_addRight, negated, Finset.sum_neg_distrib] at permuted
  rw [sum_map_range_eq_sum_fin]
  omega

theorem harmonicSum_offset {t : Nat → Int} (odd : HalfPeriodOdd t) {h : Nat} (pos : 1 ≤ h) (le : h ≤ 63) (d : Int)
    {xs : List Int} (length : xs.length = 128) : harmonicSum t h (xs.map (· + d)) = harmonicSum t h xs := by
  rw [harmonicSum_map_add, length, sum_table_eq_zero odd pos le, mul_zero, add_zero]

/-- Settles O19, by the half-period symmetry of both tables. -/
theorem constantOffsetDropsOut : Obligations.ConstantOffsetDropsOut :=
  fun _ d _ pos le length =>
    ⟨harmonicSum_offset cosTable_halfPeriodOdd pos le d length, harmonicSum_offset sinTable_halfPeriodOdd pos le d length⟩

/-! ### The mean and the ripple level -/

/-- A mean is in the range of a single sample (R37). -/
theorem mean_mem_range {xs : List Int} (length : xs.length = 128) (range : ∀ x ∈ xs, -32768 ≤ x ∧ x ≤ 32767) :
    -32768 ≤ mean xs ∧ mean xs ≤ 32767 := by
  have low := List.card_nsmul_le_sum xs (-32768) fun x hx => (range x hx).1
  have high := List.sum_le_card_nsmul xs 32767 fun x hx => (range x hx).2
  have bounds := mean_bounds xs
  rw [length, nsmul_eq_mul] at low high
  omega

theorem transform_mean_toInt {xs : List Int} (length : xs.length = 128)
    (range : ∀ x ∈ xs, -32768 ≤ x ∧ x ≤ 32767) : (transform xs).mean.toInt = mean xs := by
  obtain ⟨low, high⟩ := mean_mem_range length range
  exact BitVec.toInt_ofInt_eq_self (by decide) low (by omega)

/-- The sum of the squared departures from the mean (R38). -/
def squaredDepartures (xs : List Int) : Int := (xs.map (fun x => (x - mean xs) * (x - mean xs))).sum

theorem squaredDepartures_nonneg (xs : List Int) : 0 ≤ squaredDepartures xs := by
  refine List.sum_nonneg fun y hy => ?_
  obtain ⟨x, -, rfl⟩ := List.mem_map.1 hy
  exact mul_self_nonneg _

theorem squaredDepartures_le {xs : List Int} (length : xs.length = 128)
    (range : ∀ x ∈ xs, -32768 ≤ x ∧ x ≤ 32767) : squaredDepartures xs ≤ 128 * (65535 * 65535) := by
  have each := List.sum_le_card_nsmul (xs.map (fun x => (x - mean xs) * (x - mean xs))) (65535 * 65535) fun y hy => by
    obtain ⟨x, mem, rfl⟩ := List.mem_map.1 hy
    have sample := range x mem
    have bounds := mean_mem_range length range
    rw [← sq, ← sq]
    exact sq_le_sq' (by omega) (by omega)
  rwa [List.length_map, length, nsmul_eq_mul] at each

theorem ripple_eq (xs : List Int) : ripple xs = isqrt ((squaredDepartures xs).toNat / 128) := by
  rw [ripple, total_eq_sum, squaredDepartures]

/-- A ripple level needs no cap (R38). -/
theorem transform_ripple_toNat {xs : List Int} (length : xs.length = 128)
    (range : ∀ x ∈ xs, -32768 ≤ x ∧ x ≤ 32767) : (transform xs).ripple.toNat = ripple xs := by
  have bound := squaredDepartures_le length range
  have fits : ripple xs < 65536 := by
    rw [ripple_eq]
    exact isqrt_lt_of_lt_mul_self (by omega)
  exact Nat.mod_eq_of_lt fits

/-- The ripple level is the integer root of the floored mean square departure (R38). -/
theorem ripple_bounds (xs : List Int) :
    ((ripple xs * ripple xs : Nat) : Int) ≤ squaredDepartures xs / 128 ∧
      squaredDepartures xs / 128 < (((ripple xs + 1) * (ripple xs + 1) : Nat) : Int) := by
  have floored : squaredDepartures xs / 128 = (((squaredDepartures xs).toNat / 128 : Nat) : Int) := by
    have nonneg := squaredDepartures_nonneg xs
    omega
  rw [floored, ripple_eq]
  exact_mod_cast isqrt_spec _

/-! ### The harmonic levels -/

/-- The two harmonic sums squared (R42). -/
def harmonicPower (h : Nat) (xs : List Int) : Int :=
  harmonicSum cosTable h xs * harmonicSum cosTable h xs + harmonicSum sinTable h xs * harmonicSum sinTable h xs

theorem harmonicPower_nonneg (h : Nat) (xs : List Int) : 0 ≤ harmonicPower h xs :=
  add_nonneg (mul_self_nonneg _) (mul_self_nonneg _)

/-- The two sums slot by slot, the sine read off the cosine table (R40, R41). -/
theorem harmonicPower_eq {xs : List Int} (length : xs.length = 128) (h : Nat) :
    harmonicPower h xs =
      ((List.range 128).map (fun n => xs.getD n 0 * cosTable (h * n % 128))).sum *
        ((List.range 128).map (fun n => xs.getD n 0 * cosTable (h * n % 128))).sum +
      ((List.range 128).map (fun n => xs.getD n 0 * cosTable ((h * n + 96) % 128))).sum *
        ((List.range 128).map (fun n => xs.getD n 0 * cosTable ((h * n + 96) % 128))).sum := by
  simp only [harmonicPower, harmonicSum_eq_sum_range, length, sinTable, Nat.mod_add_mod]

/-- The root of the two harmonic sums squared, before the division (R42). -/
def harmonicRoot (h : Nat) (xs : List Int) : Nat := isqrt (harmonicPower h xs).toNat

theorem levelUncapped_eq (h : Nat) (xs : List Int) : levelUncapped h xs = harmonicRoot h xs / 2097088 := rfl

theorem harmonicRoot_bounds (h : Nat) (xs : List Int) :
    (harmonicRoot h xs : Int) * harmonicRoot h xs ≤ harmonicPower h xs ∧
      harmonicPower h xs < ((harmonicRoot h xs : Int) + 1) * (harmonicRoot h xs + 1) := by
  have bounds := isqrt_spec (harmonicPower h xs).toNat
  zify [Int.toNat_of_nonneg (harmonicPower_nonneg h xs)] at bounds
  exact bounds

theorem transform_level_toNat (xs : List Int) (o : OrderIx) :
    ((transform xs).levels[o]).toNat = min 65535 (harmonicRoot (o.val + 1) xs / 2097088) := by
  have slot : (transform xs).levels[o] = BitVec.ofNat 16 (level (o.val + 1) xs) := by simp [transform]
  rw [slot, ← levelUncapped_eq]
  exact Nat.mod_eq_of_lt (by rw [level]; omega)

theorem transform_saturated_iff (xs : List Int) :
    (transform xs).saturated = true ↔ ∃ o : OrderIx, 65535 < harmonicRoot (o.val + 1) xs / 2097088 := by
  simp only [← levelUncapped_eq, transform, List.any_eq_true, List.mem_finRange, true_and, decide_eq_true_iff]

/-! ### The derived quantities -/

theorem levelOf_succ (f : Figures) (o : OrderIx) : levelOf f (o.val + 1) = (f.levels[o]).toNat := by
  rw [levelOf, dif_pos (by omega)]
  rfl

/-- The squares of the levels above the fundamental, summed over all orders (R47). -/
theorem sum_squares_above_fundamental (f : Figures) :
    ((List.range 62).map (fun k => levelOf f (k + 2) * levelOf f (k + 2))).sum =
      ∑ o : OrderIx, if o.val = 0 then 0 else (f.levels[o]).toNat ^ 2 := by
  rw [sum_map_range_eq_sum_fin, Fin.sum_univ_succ (n := 62)]
  refine (Finset.sum_congr rfl fun i _ => ?_).trans (zero_add _).symm
  have above : i.succ.val ≠ 0 := Nat.succ_ne_zero i
  rw [if_neg above, ← levelOf_succ, sq, Fin.val_succ]

theorem distortion_eq_none {floor : Nat} {f : Figures} (low : (f.levels[0]).toNat < max floor 1) :
    distortion floor f = none :=
  if_neg low.not_ge

theorem distortion_eq_some {floor : Nat} {f : Figures} (high : max floor 1 ≤ (f.levels[0]).toNat) :
    distortion floor f = some (min 65535
      (1000 * isqrt (∑ o : OrderIx, if o.val = 0 then 0 else (f.levels[o]).toNat ^ 2) / (f.levels[0]).toNat)) := by
  rw [← sum_squares_above_fundamental]
  exact if_pos high

theorem weightedInterference_eq (weights : Vector Nat 63) (f : Figures) :
    weightedInterference weights f =
      min 65535 (isqrt (∑ o : OrderIx, ((f.levels[o]).toNat * weights[o]) ^ 2) / 4096) := by
  simp only [weightedInterference, Fin.sum_univ_def, sq]

/-- Settles O18: one lemma above for each figure and each derived quantity. -/
theorem meanAndRipple : Obligations.MeanAndRipple := by
  refine ⟨fun xs length range => ?_, fun xs length => ?_,
    fun floor f => ⟨fun low => if_neg low.not_ge, fun high => if_pos high⟩,
    fun floor f => ⟨distortion_eq_none, fun high => ?_⟩, fun weights f => ?_, fun a b => Int.natCast_natAbs _⟩
  · rw [transform_mean_toInt length range, transform_ripple_toNat length range]
    obtain ⟨low, high⟩ := mean_bounds xs
    exact ⟨low, high, ripple_bounds xs⟩
  · refine ⟨fun o => harmonicRoot (o.val + 1) xs, fun o => ?_, transform_saturated_iff xs⟩
    obtain ⟨low, high⟩ := harmonicRoot_bounds (o.val + 1) xs
    rw [harmonicPower_eq length] at low high
    exact ⟨low, high, transform_level_toNat xs o⟩
  · exact ⟨_, (isqrt_spec _).1, (isqrt_spec _).2, distortion_eq_some high⟩
  · exact ⟨_, (isqrt_spec _).1, (isqrt_spec _).2, weightedInterference_eq weights f⟩

end Sys2Proof.Machine
end

section
/-! SUPPORT. CLEAR FAULTS (R67) and ENGINE SERVICE (R63, R65, R66): what entering and leaving service bring, and the
audits that a service out abandons, one by one in queue order. -/

namespace Sys2Proof.Machine

/-! ### CLEAR FAULTS (R67) -/

/-- Settles O51: the audit unit is written and no port touched, so the port answers at once. -/
theorem clearFaultsActs : Obligations.ClearFaultsActs := by
  intro l tag s ready
  refine ⟨fun other => ?_, fun isM => ?_⟩
  · exact exec_answered (c := .clearFaults) (a := ⟨s.clearFaults, .ok, []⟩) ready rfl rfl rfl (bne_iff_ne.2 other)
      nofun rfl ready.1
  · subst isM
    rw [exec_frameTaken rfl (command_frame_not_control .clearFaults tag)
      (payload_length_of_fits (c := .clearFaults) rfl), takeCommand_notPermitted ready (c := .clearFaults) rfl rfl]

/-! ### Notices raised in parts -/

/-- Raising notices is offering them to each port, but for the drains and the replies. -/
theorem raised_iff {s t : State} {bs : List NoticeBody} : s.Raised t bs ↔ ∀ l, ∃ d r,
    t.ports.get l = { (s.ports.get l).offerAll s.clock bs with drain := d, replies := r } := by
  refine ⟨fun h l => ⟨(t.ports.get l).drain, (t.ports.get l).replies, ?_⟩, fun h l => ?_⟩
  · obtain ⟨log, overflow, queue, mask, halted, dropped⟩ := h l
    obtain ⟨queue', -, -, mask', halted', dropped'⟩ := offerAll_keeps (s.ports.get l) s.clock bs
    rw [raiseAll_ports_get] at log overflow
    dsimp only
    rw [← log, ← overflow, queue', mask', halted', dropped', ← queue, ← mask, ← halted, ← dropped]
  · obtain ⟨d, r, h⟩ := h l
    obtain ⟨queue, -, -, mask, halted, dropped⟩ := offerAll_keeps (s.ports.get l) s.clock bs
    rw [raiseAll_ports_get, h]
    exact ⟨rfl, rfl, queue, mask, halted, dropped⟩

theorem raised_trans {s t u : State} {bs cs : List NoticeBody} (clock : t.clock = s.clock) (h : s.Raised t bs)
    (k : t.Raised u cs) : s.Raised u (bs ++ cs) := by
  refine raised_iff.2 fun l => ?_
  obtain ⟨d, r, h⟩ := raised_iff.1 h l
  obtain ⟨d', r', k⟩ := raised_iff.1 k l
  exact ⟨d', r', by rw [k, h, clock, offerAll_with, offerAll_append]⟩

theorem raised_queued {s t : State} {bs : List NoticeBody} (h : s.Raised t bs) : t.queued = s.queued := by
  have queue : ∀ l, (t.ports.get l).queue = (s.ports.get l).queue := fun l => by
    obtain ⟨-, -, queue, -⟩ := h l
    exact queue
  have a : t.ports.a.queue = s.ports.a.queue := queue .a
  have b : t.ports.b.queue = s.ports.b.queue := queue .b
  have m : t.ports.m.queue = s.ports.m.queue := queue .m
  rw [State.queued, State.queued, a, b, m]

theorem reply_queued (s : State) (l : Link) (f : CmdFrame) (code : ReplyCode) (body : List Byte) :
    (s.reply l f code body).queued = s.queued := by cases l <;> rfl

/-! ### The command at a port at rest -/

section
variable {l : Link} {engine : Byte} {e : Engine} {s : State}

theorem exec_engineServiceIn (tag : Byte) (ready : s.Ready l) (he : engineOfByte engine = some e)
    (calm : (s.serviceIn e).calm) : exec (.engineServiceIn l tag engine 1) s =
      .next ((s.serviceIn e).reply l ((Command.engineService engine 1).frame tag) .ok []) := by
  refine exec_answered (c := .engineService engine 1) (a := ⟨s.serviceIn e, .ok, []⟩) ready rfl rfl rfl rfl nofun ?_
    calm
  simp [State.runCommand, runEngineService, he]

/-- The command goes through the ports' own order: commands that it frees run behind it (log entry 35). -/
theorem exec_engineServiceOut {t : State} {code : ReplyCode} (tag : Byte) (ready : s.Ready l)
    (he : engineOfByte engine = some e) (answer : s.serviceOut e = (t, code)) (queued : t.queued = s.queued) :
    exec (.engineServiceOut l tag engine) s =
      .next (t.reply l ((Command.engineService engine 0).frame tag) code []).runAll := by
  have run : s.runFrame l ((Command.engineService engine 0).frame tag) =
      t.reply l ((Command.engineService engine 0).frame tag) code [] := by
    have command : s.runCommand l (.engineService engine 0) = .plain (t, code) := by
      simp [State.runCommand, runEngineService, he, answer]
    have parses : parse ((Command.engineService engine 0).frame tag) = some (.engineService engine 0) := rfl
    unfold State.runFrame
    rw [parses]
    dsimp only
    rw [if_neg (show ¬(!permitted l (.engineService engine 0)) = true from nofun), if_neg nofun, command]
    rfl
  rw [exec_frameTaken rfl (command_frame_not_control (.engineService engine 0) tag)
    (payload_length_of_fits (c := .engineService engine 0) rfl), takeCommand_ready ready, run, State.runAll,
    reply_queued, queued]

/-- A service out that changes nothing is answered, and nothing else happens. -/
theorem exec_engineServiceOut_unchanged {code : ReplyCode} (tag : Byte) (ready : s.Ready l)
    (he : engineOfByte engine = some e) (answer : s.serviceOut e = (s, code)) :
    exec (.engineServiceOut l tag engine) s =
      .next (s.reply l ((Command.engineService engine 0).frame tag) code []) := by
  rw [exec_engineServiceOut tag ready he answer rfl, runAll_of_calm (reply_calm ready.1 _ _ _ _)]

end

/-! ### A change of service (R65, R66, R68) -/

/-- Engine `e` has changed its service to `new`, which `b` notifies. -/
def State.serviceChanged (s : State) (e : Engine) (new : Service) (b : NoticeBody) : State :=
  (s.setEngine e { s.engines.get e with service := new }).raise b

section
variable (s : State) (e : Engine) (new : Service) (b : NoticeBody)

theorem serviceChanged_get : (s.serviceChanged e new b).engines.get e = { s.engines.get e with service := new } :=
  perEngine_get_set_self _ _ _

theorem serviceChanged_get_other : (s.serviceChanged e new b).engines.get e.other = s.engines.get e.other :=
  perEngine_get_set_ne _ _ (other_ne e)

theorem serviceChanged_changes : State.ChangesOnly [.engines, .ports] s (s.serviceChanged e new b) :=
  changes_comp _ (setEngine_changes s e _) (raise_changes _ b) (by decide) (by decide)

theorem serviceChanged_ports_get (l : Link) :
    (s.serviceChanged e new b).ports.get l = (s.ports.get l).offerAll s.clock [b] := raise_ports_get _ b l

end

theorem serviceIn_of_inService {s : State} {e : Engine} (h : (s.engines.get e).service = .inService) :
    s.serviceIn e = s := by simp only [State.serviceIn, h]

theorem serviceIn_of_stopping {s : State} {e : Engine} (h : (s.engines.get e).service = .stopping) :
    s.serviceIn e = s.serviceChanged e .inService (.engine e (s.engines.get e).lastCycle .stopping .inService 0) := by
  simp only [State.serviceIn, h, State.raiseEngine, setEngine_engines, perEngine_get_set_self]
  rfl

theorem serviceIn_of_out {s : State} {e : Engine} (h : (s.engines.get e).service = .out) : s.serviceIn e =
    (s.serviceChanged e .inService (.engine e (s.engines.get e).lastCycle .out .inService 0)).enginesTake := by
  simp only [State.serviceIn, h, State.raiseEngine, setEngine_engines, perEngine_get_set_self]
  rfl

theorem serviceOut_of_not_inService {s : State} {e : Engine} (h : (s.engines.get e).service ≠ .inService) :
    s.serviceOut e = (s, .ok) := if_pos h

theorem serviceOut_of_last {s : State} {e : Engine} (h : (s.engines.get e).service = .inService)
    (other : (s.engines.get e.other).service ≠ .inService) : s.serviceOut e = (s, .lastEngine) :=
  (if_neg (not_not_intro h)).trans (if_pos other)

/-- The service of an engine that is taken out: STOPPING while it is busy (R66). -/
def EngineSlot.leaving (x : EngineSlot) : Service := if x.hand.isSome = true then .stopping else .out

/-- The ENGINE notice of a service out (R68). -/
def State.leavingNotice (s : State) (e : Engine) : NoticeBody :=
  .engine e (s.engines.get e).lastCycle .inService (s.engines.get e).leaving (s.waitingFor e).length

theorem serviceOut_of_both {s : State} {e : Engine} (h : (s.engines.get e).service = .inService)
    (other : (s.engines.get e.other).service = .inService) : s.serviceOut e =
      ((s.waitingFor e).foldl (fun u c => u.abandonAudit e c)
        (s.serviceChanged e (s.engines.get e).leaving (s.leavingNotice e)), .ok) := by
  unfold State.serviceOut
  dsimp only
  rw [if_neg (not_not_intro h), if_neg (not_not_intro other), State.raiseEngine, setEngine_engines,
    perEngine_get_set_self]
  rfl

theorem mem_waitingFor_iff (s : State) (e : Engine) (c : Channel) : c ∈ s.waitingFor e ↔ c ∈ s.queue ∧
    ∃ f, (s.buffers[c]).held = some f ∧ f.audit = true ∧ f.engines.get e.other = true ∧ f.engines.get e = false := by
  unfold State.waitingFor
  rw [List.mem_filter]
  refine and_congr_right fun _ => ?_
  cases (s.buffers[c]).held with
  | none => simp
  | some f => simp [and_assoc]

/-! ### The take on entering service (R52) -/

theorem engineTake_get_ne (s : State) {e e' : Engine} (h : e' ≠ e) :
    (s.engineTake e).engines.get e' = s.engines.get e' := by
  rcases engineTake_cases s e with nothing | ⟨c, f, -, -, -, -, -, take⟩
  · rw [nothing]
  · obtain ⟨marked, role, queue, audit, taken, -⟩ := takeFrame_taken s e c f
    rw [take, taken]
    exact perEngine_get_set_ne _ _ h

/-- The first eligible frame comes into the hand of an idle engine, unless E1 comes before E2 in taking. -/
theorem enginesTake_hand {u : State} {e : Engine} {c : Channel} {ahead behind : List Channel} {f : Frame}
    (joined : ¬u.joining = true) (inService : (u.engines.get e).service = .inService)
    (idle : (u.engines.get e).hand = none) (queue : u.queue = ahead ++ c :: behind)
    (passed : ∀ d ∈ ahead, u.eligible e d = false) (eligible : u.eligible e c = true)
    (held : (u.buffers[c]).held = some f) (first : e = .e1 ∨ u.engineTake .e1 = u) :
    ∃ h, (u.enginesTake.engines.get e).hand = some h ∧ h.taken = u.now ∧ h.frame.joinOrder = f.joinOrder ∧
      h.frame.samples = f.samples := by
  have take := engineTake_of_first inService idle queue passed eligible held
  have slot : u.enginesTake.engines.get e = (u.takeFrame e c f).engines.get e := by
    rw [enginesTake_of_not_joining joined, ← take]
    cases e with
    | e1 => exact engineTake_get_ne _ (by decide)
    | e2 => rw [first.resolve_left (by decide)]
  obtain ⟨marked, role, q, audit, taken, -⟩ := takeFrame_taken u e c f
  rw [slot, taken]
  exact ⟨⟨{ f with audit := marked, engines := f.engines.set e true }, role, u.now⟩,
    congrArg EngineSlot.hand (perEngine_get_set_self _ _ _), rfl, rfl, rfl⟩

/-- E1 takes nothing before an E2 that finds it out of service, busy, or without an eligible frame. -/
theorem first_of_other {u : State} {e : Engine} (h : e = .e1 ∨ (u.engines.get e.other).service ≠ .inService ∨
    (u.engines.get e.other).hand ≠ none ∨ ∀ d ∈ u.queue, u.eligible e.other d = false) :
    e = .e1 ∨ u.engineTake .e1 = u := by
  cases e with
  | e1 => exact .inl rfl
  | e2 => exact .inr (engineTake_of_nothing (h.resolve_left (by decide)))

/-! ### A kept result that is handed on (R59, R63) -/

/-- A frame that has the result `r`, but for the figures: the samples are none of the result's. -/
def TransformResult.frame (r : TransformResult) : Frame :=
  { channel := r.channel, ref := r.ref, cycle := r.cycle, epoch := r.epoch
    source := if r.test = true then .pattern 0 else .live
    samples := Vector.replicate 128 none, heldFlag := r.heldFlag, clipped := r.clipped
    priority := 0, joinOrder := r.join, audit := true, engines := ⟨true, true⟩ }

theorem frame_test (r : TransformResult) : (r.frame.source != .live) = r.test := by
  unfold TransformResult.frame
  cases r.test <;> rfl

theorem frame_resultWith (r : TransformResult) (unaudited : Bool) :
    r.frame.resultWith r.figures unaudited = { r with unaudited := unaudited } := by
  unfold Frame.resultWith Frame.result
  rw [frame_test]
  rfl

/-- The result is dropped at the result table (R71, R72). -/
def State.DropsResult (s : State) (r : TransformResult) : Prop :=
  r.epoch ≠ (s.buffers[r.channel]).epoch ∨
    r.test = true ∧ (s.tests[s.plan.groupOf r.channel].isRunning = false ∨ s.sources[r.channel] = .live)

/-- The record of the result, accepted as unaudited (R63, R69). -/
def State.unauditedRecord (s : State) (r : TransformResult) : ResultRecord :=
  { ref := r.ref, cycle := r.cycle, generation := s.planStore.generation, figures := r.figures, heldFlag := r.heldFlag
    clipped := r.clipped, test := r.test, unaudited := true }

theorem dropsResult_iff (s : State) (r : TransformResult) : s.DropsResult r ↔ s.Drops r.frame := by
  rw [State.Drops, ← bne_iff_ne (b := Source.live), frame_test]
  rfl

theorem recordFor_frame (s : State) (r : TransformResult) :
    s.recordFor r.frame r.figures true = s.unauditedRecord r := by
  rw [State.recordFor, frame_test]
  rfl

/-- The audit of channel `c` has left the queue and the audit unit. -/
def State.auditLeft (s : State) (c : Channel) : State := (s.dequeue c).setKept c none

theorem auditLeft_changes (s : State) (c : Channel) : State.ChangesOnly [.queue, .audit] s (s.auditLeft c) :=
  changes_comp _ (dequeue_changes s c) (setKept_changes _ c none) (by decide) (by decide)

section
variable {s : State} {c : Channel}

theorem abandonAudit_of_kept {k : Kept} (e : Engine) (kept : s.audit.kept[c] = some k) : s.abandonAudit e c =
    (s.auditLeft c).arrive (k.result.frame.resultWith k.result.figures true) := by
  rw [frame_resultWith]
  unfold State.abandonAudit
  dsimp only
  split
  · next k' isSome =>
    obtain rfl : k' = k := Option.some.inj (isSome.symm.trans kept)
    rfl
  · next isNone => exact absurd (kept.symm.trans isNone) nofun

theorem abandonAudit_of_running (e : Engine) (kept : s.audit.kept[c] = none) :
    s.abandonAudit e c = (s.dequeue c).setRole e.other c .abandoned := by
  unfold State.abandonAudit
  dsimp only
  split
  · next k isSome => exact absurd (kept.symm.trans isSome) nofun
  · rfl

theorem abandonAudit_arrived {k : Kept} (e : Engine) (kept : s.audit.kept[c] = some k) :
    (s.auditLeft c).Arrived (s.abandonAudit e c) k.result.frame k.result.figures true := by
  rw [abandonAudit_of_kept e kept]
  exact arrive_arrived _ _ _ _

/-- Where a result is handed on, the engines stay as they are and the audit unit forgets it. -/
theorem abandonAudit_changes_of_kept {k : Kept} (e : Engine) (kept : s.audit.kept[c] = some k) :
    State.ChangesOnly arriveParts (s.auditLeft c) (s.abandonAudit e c) := by
  rw [abandonAudit_of_kept e kept]
  exact arrive_changes _ _

theorem abandonAudit_records_of_accepted {k : Kept} (e : Engine) (kept : s.audit.kept[c] = some k)
    (channel : k.result.channel = c) (accepts : ¬s.DropsResult k.result) :
    (s.abandonAudit e c).records = s.records.set c (some (s.unauditedRecord k.result)) := by
  have records := (abandonAudit_arrived e kept).record fun drops => accepts ((dropsResult_iff s _).2 drops)
  rw [recordFor_frame] at records
  subst channel
  exact records

/-- A dropped result is settled, and nothing else. -/
theorem abandonAudit_changes_of_drops {k : Kept} (e : Engine) (kept : s.audit.kept[c] = some k)
    (drops : s.DropsResult k.result) :
    State.ChangesOnly [.buffers, .queue, .audit, .ports] s (s.abandonAudit e c) := by
  have drops : (s.auditLeft c).Drops k.result.frame := (dropsResult_iff s _).1 drops
  rw [abandonAudit_of_kept e kept, arrive_of_drops drops]
  exact changes_comp _ (auditLeft_changes s c) (settle_changes _ _ _) (by decide) (by decide)

end

/-! ### A transform whose audit is abandoned while it runs (R63) -/

/-- The frame in hand, in the role `role` if it is of channel `c`. -/
def Hand.withRole (c : Channel) (role : AuditRole) (h : Hand) : Hand :=
  if h.frame.channel = c then { h with role := role } else h

theorem setRole_get (s : State) (e : Engine) (c : Channel) (role : AuditRole) : (s.setRole e c role).engines.get e =
    { s.engines.get e with hand := (s.engines.get e).hand.map (Hand.withRole c role) } := by
  unfold State.setRole
  dsimp only
  split
  · next h hand =>
    rw [hand, Option.map_some, Hand.withRole]
    split
    · exact perEngine_get_set_self _ _ _
    · rw [← hand]
  · next idle =>
    rw [idle, Option.map_none, ← idle]

theorem setRole_get_ne (s : State) {e e' : Engine} (h : e' ≠ e) (c : Channel) (role : AuditRole) :
    (s.setRole e c role).engines.get e' = s.engines.get e' := by
  unfold State.setRole
  dsimp only
  split
  · split
    · exact perEngine_get_set_ne _ _ h
    · rfl
  · rfl

/-! ### What abandoned audits leave as it is -/

/-- The notice of a CHECK or a PERMIT change (R105, R125). -/
def NoticeBody.OfEvaluation (b : NoticeBody) : Prop :=
  (∃ i cycle o n tally, b = .check i cycle o n tally) ∨ ∃ g cycle o n reasons, b = .permit g cycle o n reasons

theorem ofEvaluation_of_mem {s t : State} {cycle : Group → Word} {b : NoticeBody}
    (h : b ∈ s.checkNotices t cycle ++ s.permitNotices t cycle) : b.OfEvaluation := by
  rcases List.mem_append.1 h with h | h
  · obtain ⟨i, -, h⟩ := List.mem_filterMap.1 h
    split at h
    · cases h
    · exact .inl ⟨_, _, _, _, _, (Option.some.inj h).symm⟩
  · obtain ⟨g, -, h⟩ := List.mem_filterMap.1 h
    split at h
    · cases h
    · exact .inr ⟨_, _, _, _, _, (Option.some.inj h).symm⟩

/-- Between `s` and `t` audits that waited for engine `e` have been abandoned: its slot, the other engine's service and
all of the channels' buffers but the held ones stay, and the audit unit but for its kept results (R63). -/
structure State.AbandonKeeps (s t : State) (e : Engine) : Prop where
  slot : t.engines.get e = s.engines.get e
  service : (t.engines.get e.other).service = (s.engines.get e.other).service
  buffers : ∀ c : Channel, t.buffers[c] = { s.buffers[c] with held := (t.buffers[c]).held }
  audit : t.audit = { s.audit with kept := t.audit.kept }
  raised : ∃ bs, s.Raised t bs ∧ ∀ b ∈ bs, b.OfEvaluation
  changes : State.ChangesOnly completionParts s t

theorem raised_nil_of_ports {s t : State} (h : t.ports = s.ports) : s.Raised t [] :=
  raised_of_offerAll fun l => congrArg (PerLink.get · l) h

theorem abandonKeeps_refl (s : State) (e : Engine) : s.AbandonKeeps s e :=
  ⟨rfl, rfl, fun _ => rfl, rfl, ⟨[], raised_nil_of_ports rfl, nofun⟩, changes_refl _ s⟩

theorem abandonKeeps_trans {s t u : State} {e : Engine} (h : s.AbandonKeeps t e) (k : t.AbandonKeeps u e) :
    s.AbandonKeeps u e := by
  obtain ⟨bs, raised, of⟩ := h.raised
  obtain ⟨cs, raised', of'⟩ := k.raised
  exact {
    slot := k.slot.trans h.slot
    service := k.service.trans h.service
    buffers := fun c => by rw [k.buffers c, h.buffers c]
    audit := by rw [k.audit, h.audit]
    raised := ⟨bs ++ cs, raised_trans (h.changes .clock (by decide)) raised raised', fun b hb =>
      (List.mem_append.1 hb).elim (of b) (of' b)⟩
    changes := changes_trans h.changes k.changes }

theorem settles_buffers {s u : State} {c : Channel} {j : Nat} (h : s.Settles u c j) (d : Channel) :
    u.buffers[d] = { s.buffers[d] with held := (u.buffers[d]).held } := by
  rw [h.1 d]
  split
  · next e => rw [e]
  · rfl

theorem abandonAudit_keeps (s : State) (e : Engine) (c : Channel) : s.AbandonKeeps (s.abandonAudit e c) e := by
  have changes := abandonAudit_changes s e c
  cases kept : s.audit.kept[c] with
  | none =>
    rw [abandonAudit_of_running e kept] at changes ⊢
    have role := setRole_changes (s.dequeue c) e.other c .abandoned
    have buffers : _ = s.buffers := role .buffers (by decide)
    have audit : _ = s.audit := role .audit (by decide)
    refine ⟨setRole_get_ne _ (other_ne e).symm _ _, by rw [setRole_get]; rfl, fun d => by rw [buffers], by rw [audit],
      ⟨[], raised_nil_of_ports (role .ports (by decide)), nofun⟩, changes⟩
  | some k =>
    have arrived := abandonAudit_arrived e kept
    have arrives := abandonAudit_changes_of_kept e kept
    have engines : (s.abandonAudit e c).engines = s.engines := arrives .engines (by decide)
    have audit : (s.abandonAudit e c).audit = (s.auditLeft c).audit := arrives .audit (by decide)
    have buffers := settles_buffers arrived.settles
    exact ⟨by rw [engines], by rw [engines], buffers, by rw [audit]; rfl,
      ⟨_, raised_of_ports (fun _ => settled_keeps _ _) arrived.ports, fun b => ofEvaluation_of_mem⟩, changes⟩

theorem abandonAudits_keeps (e : Engine) (cs : List Channel) (s : State) :
    s.AbandonKeeps (cs.foldl (fun u c => u.abandonAudit e c) s) e := by
  induction cs generalizing s with
  | nil => exact abandonKeeps_refl s e
  | cons c cs ih => exact abandonKeeps_trans (abandonAudit_keeps s e c) (ih _)

theorem dropsResult_congr {s t : State} {e : Engine} (h : s.AbandonKeeps t e) (r : TransformResult) :
    t.DropsResult r ↔ s.DropsResult r := by
  have plan : t.plan = s.plan := congrArg PlanStore.active (h.changes .planStore (by decide))
  have tests : t.tests = s.tests := h.changes .tests (by decide)
  have sources : t.sources = s.sources := h.changes .sources (by decide)
  have epoch : (t.buffers[r.channel]).epoch = (s.buffers[r.channel]).epoch := by rw [h.buffers]
  simp only [State.DropsResult, plan, tests, sources, epoch]

theorem unauditedRecord_congr {s t : State} {e : Engine} (h : s.AbandonKeeps t e) (r : TransformResult) :
    t.unauditedRecord r = s.unauditedRecord r := by
  have plans : t.planStore = s.planStore := h.changes .planStore (by decide)
  rw [State.unauditedRecord, plans]
  rfl

/-! ### What abandoned audits change (R63) -/

/-- The kept result `k` of channel `d` has been handed to the result table between `s` and `t`. -/
structure State.HandsOn (s t : State) (d : Channel) (k : Kept) : Prop where
  dropped : s.DropsResult k.result → t.records[d] = s.records[d]
  accepted : ¬s.DropsResult k.result → t.records[d] = some (s.unauditedRecord k.result)
  held : ∀ f, (s.buffers[d]).held = some f → f.joinOrder = k.result.join → (t.buffers[d]).held = none

/-- Between `s` and `t` the audit of channel `c`, which waited for engine `e`, has been abandoned. -/
structure State.AuditAbandoned (s t : State) (e : Engine) (c : Channel) : Prop where
  queue : t.queue = s.queue.filter (fun d => d != c)
  kept : ∀ d : Channel, t.audit.kept[d] = if d = c then none else s.audit.kept[d]
  handsOn : ∀ k, s.audit.kept[c] = some k → s.HandsOn t c k
  others : ∀ d : Channel, d ≠ c ∨ s.audit.kept[d] = none →
    t.records[d] = s.records[d] ∧ (t.buffers[d]).held = (s.buffers[d]).held
  hand : (t.engines.get e.other).hand =
    if s.audit.kept[c] = none then (s.engines.get e.other).hand.map (Hand.withRole c .abandoned)
    else (s.engines.get e.other).hand

theorem auditAbandoned_of_running {s : State} {c : Channel} (e : Engine) (kept : s.audit.kept[c] = none) :
    s.AuditAbandoned (s.abandonAudit e c) e c := by
  rw [abandonAudit_of_running e kept]
  have role := setRole_changes (s.dequeue c) e.other c .abandoned
  have audit : _ = s.audit := role .audit (by decide)
  have records : _ = s.records := role .records (by decide)
  have buffers : _ = s.buffers := role .buffers (by decide)
  exact {
    queue := role .queue (by decide)
    kept := fun d => by
      rw [audit]
      split
      · next h => rw [h, kept]
      · rfl
    handsOn := fun k hk => absurd (hk.symm.trans kept) nofun
    others := fun d _ => ⟨by rw [records], by rw [buffers]⟩
    hand := by
      rw [setRole_get, if_pos kept]
      rfl }

theorem auditAbandoned_of_kept {s : State} {c : Channel} {k : Kept} (e : Engine) (kept : s.audit.kept[c] = some k)
    (channel : k.result.channel = c) : s.AuditAbandoned (s.abandonAudit e c) e c := by
  have arrived := abandonAudit_arrived e kept
  have arrives := abandonAudit_changes_of_kept e kept
  have engines : (s.abandonAudit e c).engines = s.engines := arrives .engines (by decide)
  have audit : (s.abandonAudit e c).audit = (s.auditLeft c).audit := arrives .audit (by decide)
  have dropped : s.DropsResult k.result → (s.abandonAudit e c).records = s.records := fun drops =>
    abandonAudit_changes_of_drops e kept drops .records (by decide)
  have accepted : ¬s.DropsResult k.result →
      (s.abandonAudit e c).records = s.records.set c (some (s.unauditedRecord k.result)) := fun accepts =>
    abandonAudit_records_of_accepted e kept channel accepts
  obtain ⟨buffers, queue⟩ := arrived.settles
  have held : ∀ d : Channel, ((s.abandonAudit e c).buffers[d]).held =
      if d = c then heldAfter k.result.join (s.buffers[c]).held else (s.buffers[d]).held := fun d => by
    rw [buffers]
    subst channel
    exact apply_ite Buffers.held _ _ _
  exact {
    queue := by
      rw [queue]
      subst channel
      split
      · exact (List.filter_filter).trans (List.filter_congr fun d _ => Bool.and_self _)
      · rfl
    kept := fun d => by
      rw [audit]
      exact vector_getElem_set _ _ _ _
    handsOn := fun k' isSome => by
      obtain rfl : k' = k := Option.some.inj (isSome.symm.trans kept)
      refine ⟨fun drops => by rw [dropped drops], fun accepts => ?_, fun f hf join => ?_⟩
      · rw [accepted accepts]
        exact vector_getElem_set_self _ _ _
      · rw [held, if_pos rfl, hf]
        exact if_pos join
    others := fun d hd => by
      have ne : d ≠ c := by
        rintro rfl
        exact absurd (kept.symm.trans (hd.resolve_left (not_not_intro rfl))) nofun
      refine ⟨?_, by rw [held, if_neg ne]⟩
      by_cases drops : s.DropsResult k.result
      · rw [dropped drops]
      · rw [accepted drops]
        exact vector_getElem_set_ne _ ne _
    hand := by
      rw [engines, kept, if_neg nofun] }

theorem abandonAudit_abandons {s : State} (sound : s.KeptSound) (e : Engine) (c : Channel) :
    s.AuditAbandoned (s.abandonAudit e c) e c := by
  cases kept : s.audit.kept[c] with
  | none => exact auditAbandoned_of_running e kept
  | some k => exact auditAbandoned_of_kept e kept (sound c k kept)

theorem keptSound_of_auditAbandoned {s t : State} {e : Engine} {c : Channel} (sound : s.KeptSound)
    (h : s.AuditAbandoned t e c) : t.KeptSound := by
  intro d k kept
  rw [h.kept] at kept
  split at kept
  · cases kept
  · exact sound d k kept

/-- A frame in the other engine's hand once the audits of the channels `cs` have been abandoned: its own audit is among
them while no result of its channel is kept. -/
def State.handAbandoned (s : State) (cs : List Channel) (h : Hand) : Hand :=
  if h.frame.channel ∈ cs ∧ s.audit.kept[h.frame.channel] = none then { h with role := .abandoned } else h

/-- Between `s` and `t` the audits of the channels `cs`, which waited for engine `e`, have been abandoned. -/
structure State.AuditsAbandoned (s t : State) (e : Engine) (cs : List Channel) : Prop where
  queue : t.queue = s.queue.filter (fun d => !cs.contains d)
  kept : ∀ d : Channel, t.audit.kept[d] = if d ∈ cs then none else s.audit.kept[d]
  handsOn : ∀ (d : Channel) (k : Kept), d ∈ cs → s.audit.kept[d] = some k → s.HandsOn t d k
  others : ∀ d : Channel, d ∉ cs ∨ s.audit.kept[d] = none →
    t.records[d] = s.records[d] ∧ (t.buffers[d]).held = (s.buffers[d]).held
  hand : cs.Nodup → (t.engines.get e.other).hand = (s.engines.get e.other).hand.map (s.handAbandoned cs)

theorem auditsAbandoned_nil (s : State) (e : Engine) : s.AuditsAbandoned s e [] where
  queue := by simp
  kept := fun d => by simp
  handsOn := nofun
  others := fun d _ => ⟨rfl, rfl⟩
  hand := fun _ => by
    have same : s.handAbandoned [] = id := funext fun h => if_neg fun k => nomatch k.1
    rw [same, Option.map_id]
    rfl

theorem handAbandoned_cons {s t : State} {e : Engine} {c : Channel} {cs : List Channel} (fresh : c ∉ cs)
    (h : s.AuditAbandoned t e c) : ((t.engines.get e.other).hand).map (t.handAbandoned cs) =
      (s.engines.get e.other).hand.map (s.handAbandoned (c :: cs)) := by
  have elsewhere : ∀ x : Hand, x.frame.channel ≠ c → t.handAbandoned cs x = s.handAbandoned (c :: cs) x :=
    fun x ne => by
      have same : t.audit.kept[x.frame.channel] = s.audit.kept[x.frame.channel] := (h.kept _).trans (if_neg ne)
      simp only [State.handAbandoned, same, List.mem_cons, ne, false_or]
  have left : ∀ x : Hand, x.frame.channel = c → t.handAbandoned cs x = x := fun x ch =>
    if_neg fun k => fresh (ch ▸ k.1)
  rw [h.hand]
  split
  · next running =>
    rw [Option.map_map]
    refine congrArg (Option.map · _) (funext fun x => ?_)
    rw [Function.comp_apply, Hand.withRole]
    split
    · next ch =>
      subst ch
      have marked : s.handAbandoned (x.frame.channel :: cs) x = { x with role := .abandoned } :=
        if_pos ⟨List.mem_cons_self, running⟩
      exact (left { x with role := .abandoned } rfl).trans marked.symm
    · next ne => exact elsewhere x ne
  · next kept =>
    refine congrArg (Option.map · _) (funext fun x => ?_)
    by_cases ch : x.frame.channel = c
    · subst ch
      rw [left x rfl]
      exact (if_neg fun k => kept k.2).symm
    · exact elsewhere x ch

/-- The audit of one channel is abandoned, and then those of others. -/
theorem auditsAbandoned_cons {s t u : State} {e : Engine} {c : Channel} {cs : List Channel}
    (keeps : s.AbandonKeeps t e) (h : s.AuditAbandoned t e c) (k : t.AuditsAbandoned u e cs) :
    s.AuditsAbandoned u e (c :: cs) where
  queue := by
    rw [k.queue, h.queue, List.filter_filter]
    refine List.filter_congr fun d _ => ?_
    rw [List.contains_cons, Bool.not_or, Bool.and_comm]
    rfl
  kept := fun d => by
    rw [k.kept, h.kept]
    by_cases hc : d = c
    · rw [if_pos hc, ite_self, if_pos (hc ▸ List.mem_cons_self)]
    · simp only [List.mem_cons, hc, false_or, if_false]
  handsOn := fun d x hd hx => by
    by_cases hc : d = c
    · subst hc
      have first := h.handsOn x hx
      obtain ⟨records, held⟩ := k.others d (.inr ((h.kept d).trans (if_pos rfl)))
      exact ⟨fun drops => records.trans (first.dropped drops), fun accepts => records.trans (first.accepted accepts),
        fun f hf join => held.trans (first.held f hf join)⟩
    · obtain ⟨records, held⟩ := h.others d (.inl hc)
      have later := k.handsOn d x ((List.mem_cons.1 hd).resolve_left hc) (((h.kept d).trans (if_neg hc)).trans hx)
      exact ⟨fun drops => (later.dropped ((dropsResult_congr keeps _).2 drops)).trans records,
        fun accepts => (later.accepted (mt (dropsResult_congr keeps _).1 accepts)).trans
          (congrArg some (unauditedRecord_congr keeps _)),
        fun f hf => later.held f (held.trans hf)⟩
  others := fun d hd => by
    obtain ⟨records, held⟩ := h.others d (hd.imp_left List.ne_of_not_mem_cons)
    obtain ⟨records', held'⟩ := k.others d (hd.imp List.not_mem_of_not_mem_cons fun isNone => by
      rw [h.kept, isNone, ite_self])
    exact ⟨records'.trans records, held'.trans held⟩
  hand := fun nodup => by
    obtain ⟨fresh, nodup⟩ := List.nodup_cons.1 nodup
    exact (k.hand nodup).trans (handAbandoned_cons fresh h)

theorem abandonAudits_abandons (e : Engine) (cs : List Channel) {s : State} (sound : s.KeptSound) :
    s.AuditsAbandoned (cs.foldl (fun u c => u.abandonAudit e c) s) e cs := by
  induction cs generalizing s with
  | nil => exact auditsAbandoned_nil s e
  | cons c cs ih =>
    have first := abandonAudit_abandons sound e c
    exact auditsAbandoned_cons (abandonAudit_keeps s e c) first (ih (keptSound_of_auditAbandoned sound first))

/-! ### One abandoned audit whose result is kept (R63, R70 to R74) -/

section
variable {s : State} {e : Engine} {c : Channel} {k : Kept}

theorem abandonAudit_ports_get_of_kept (kept : s.audit.kept[c] = some k) (l : Link) :
    let t := s.abandonAudit e c
    t.ports.get l = ((s.ports.get l).settled k.result.join).offerAll s.clock
      (s.checkNotices t (fun _ => k.result.cycle) ++ s.permitNotices t (fun _ => k.result.cycle)) :=
  (abandonAudit_arrived e kept).ports l

theorem abandonAudit_raised_of_kept (kept : s.audit.kept[c] = some k) : s.Raised (s.abandonAudit e c)
    (s.checkNotices (s.abandonAudit e c) (fun _ => k.result.cycle) ++
      s.permitNotices (s.abandonAudit e c) (fun _ => k.result.cycle)) :=
  raised_of_ports (fun _ => settled_keeps _ _) (abandonAudit_ports_get_of_kept kept)

/-- An accepted result evaluates the checks, unless it is of a held frame whose group does not have them evaluated. -/
theorem abandonAudit_of_accepted (kept : s.audit.kept[c] = some k) (channel : k.result.channel = c)
    (accepts : ¬s.DropsResult k.result) :
    let t := s.abandonAudit e c
    (k.result.heldFlag = true → s.plan.groups[s.plan.groupOf c].evaluateHeld = false →
      t.checks = s.checks ∧ t.verdicts = s.verdicts ∧ t.alert = s.alert) ∧
    (k.result.heldFlag = false ∨ s.plan.groups[s.plan.groupOf c].evaluateHeld = true →
      (∀ i : CheckIx, t.checks[i] =
        ({ s with records := t.records } : State).evaluated c (s.unauditedRecord k.result) i) ∧
      s.VerdictsSet t (fun _ => false) (s.afterEvaluation c)) := by
  intro t
  have arrived := abandonAudit_arrived e kept
  have records := abandonAudit_records_of_accepted e kept channel accepts
  have admitted : ¬(s.auditLeft c).Drops k.result.frame := fun drops => accepts ((dropsResult_iff s _).2 drops)
  subst channel
  refine ⟨fun held passes => arrived.passed admitted ⟨held, passes⟩, fun live => ?_⟩
  have judged : ¬(s.auditLeft k.result.channel).unevaluated k.result.frame := by
    rintro ⟨held, passes⟩
    rcases live with live | live
    · exact absurd (held.symm.trans live) nofun
    · exact absurd (live.symm.trans passes) nofun
  refine ⟨fun i => (arrived.checks admitted judged i).trans ?_, ?_⟩
  · rw [recordFor_frame, evaluated_eq (s := { s with records := t.records }) (old := s.records) records]
    rfl
  · exact verdictsSet_congr (arrived.verdicts admitted judged) rfl rfl rfl rfl rfl rfl rfl rfl rfl

end

/-! ### The three outcomes that change an engine's service -/

section
variable {l : Link} {engine : Byte} {e : Engine} {s : State}

/-- An engine that leaves STOPPING for IN SERVICE keeps its frame in hand and takes nothing (R65). -/
theorem exec_engineServiceIn_of_stopping (tag : Byte) (ready : s.Ready l) (he : engineOfByte engine = some e)
    (stopping : (s.engines.get e).service = .stopping) : exec (.engineServiceIn l tag engine 1) s =
      .next ((s.serviceChanged e .inService (.engine e (s.engines.get e).lastCycle .stopping .inService 0)).reply l
        ((Command.engineService engine 1).frame tag) .ok []) := by
  have change := serviceIn_of_stopping stopping
  rw [exec_engineServiceIn tag ready he (change ▸ (raise_calm _ _).2 ready.1), change]

/-- An engine that comes from OUT OF SERVICE takes, as the other does where that is idle (R52, R65). -/
def State.entered (s : State) (e : Engine) : State :=
  (s.serviceChanged e .inService (.engine e (s.engines.get e).lastCycle .out .inService 0)).enginesTake

theorem entered_ports_get (s : State) (e : Engine) (l : Link) : (s.entered e).ports.get l =
    (s.ports.get l).offerAll s.clock [.engine e (s.engines.get e).lastCycle .out .inService 0] := by
  rw [← serviceChanged_ports_get s e .inService]
  exact congrArg (PerLink.get · l) (enginesTake_changes _ .ports (by decide))

theorem entered_changes (s : State) (e : Engine) :
    State.ChangesOnly [.engines, .buffers, .queue, .audit, .ports] s (s.entered e) :=
  changes_comp _ (serviceChanged_changes s e _ _) (enginesTake_changes _) (by decide) (by decide)

theorem exec_engineServiceIn_of_out (tag : Byte) (ready : s.Ready l) (he : engineOfByte engine = some e)
    (out : (s.engines.get e).service = .out) : exec (.engineServiceIn l tag engine 1) s =
      .next ((s.entered e).reply l ((Command.engineService engine 1).frame tag) .ok []) := by
  have change : s.serviceIn e = s.entered e := serviceIn_of_out out
  rw [exec_engineServiceIn tag ready he (change ▸ calm_of_offerAll ready.1 (entered_ports_get s e)), change]

theorem entered_hand {c : Channel} {ahead behind : List Channel} {f : Frame} (idle : (s.engines.get e).hand = none)
    (joined : s.lastJoin ≠ some s.now ∨ s.closesAhead = false) (queue : s.queue = ahead ++ c :: behind)
    (passed : ∀ d ∈ ahead, s.eligible e d = false) (eligible : s.eligible e c = true)
    (held : (s.buffers[c]).held = some f) (first : e = .e1 ∨ (s.engines.get e.other).service ≠ .inService ∨
      (s.engines.get e.other).hand ≠ none ∨ ∀ d ∈ s.queue, s.eligible e.other d = false) :
    ∃ h, ((s.entered e).engines.get e).hand = some h ∧ h.taken = s.now ∧ h.frame.joinOrder = f.joinOrder ∧
      h.frame.samples = f.samples := by
  have all : ¬s.joining = true := by
    rw [joining_iff]
    rcases joined with h | h <;> simp [h]
  refine enginesTake_hand all ?_ ?_ queue passed eligible held (first_of_other ?_)
  · rw [serviceChanged_get]
  · rw [serviceChanged_get]
    exact idle
  · rw [serviceChanged_get_other]
    exact first

/-- Engine `e` has left service, and the audits that waited for it have been abandoned in queue order (R63, R66). -/
def State.left (s : State) (e : Engine) : State :=
  (s.waitingFor e).foldl (fun u c => u.abandonAudit e c)
    (s.serviceChanged e (s.engines.get e).leaving (s.leavingNotice e))

theorem left_keeps (s : State) (e : Engine) :
    (s.serviceChanged e (s.engines.get e).leaving (s.leavingNotice e)).AbandonKeeps (s.left e) e :=
  abandonAudits_keeps e _ _

theorem left_abandons (e : Engine) (sound : s.KeptSound) :
    (s.serviceChanged e (s.engines.get e).leaving (s.leavingNotice e)).AuditsAbandoned (s.left e) e (s.waitingFor e) :=
  abandonAudits_abandons e _ sound

/-- The ENGINE notice comes before the notices that the abandoned audits bring (log entry 15). -/
theorem left_raised (s : State) (e : Engine) : ∃ brought, s.Raised (s.left e) (s.leavingNotice e :: brought) ∧
    ∀ b ∈ brought, b.OfEvaluation := by
  obtain ⟨brought, raised, of⟩ := (left_keeps s e).raised
  have leaves : s.Raised (s.serviceChanged e (s.engines.get e).leaving (s.leavingNotice e)) [s.leavingNotice e] :=
    raised_of_offerAll (serviceChanged_ports_get s e _ _)
  exact ⟨brought, raised_trans (s := s) (by rfl) leaves raised, of⟩

theorem left_changes (s : State) (e : Engine) : State.ChangesOnly
    [.engines, .buffers, .queue, .audit, .records, .checks, .verdicts, .alert, .ports] s (s.left e) :=
  changes_comp _ (serviceChanged_changes s e _ _) (left_keeps s e).changes (by decide) (by decide)

theorem left_hand (e : Engine) (sound : s.KeptSound) (queue : s.QueueSound) : ((s.left e).engines.get e.other).hand =
    (s.engines.get e.other).hand.map (s.handAbandoned (s.waitingFor e)) := by
  have hand := (left_abandons e sound).hand (queue.nodup.filter _)
  rw [serviceChanged_get_other] at hand
  exact hand

theorem exec_engineServiceOut_of_both (tag : Byte) (ready : s.Ready l) (he : engineOfByte engine = some e)
    (inService : (s.engines.get e).service = .inService) (other : (s.engines.get e.other).service = .inService) :
    exec (.engineServiceOut l tag engine) s =
      .next ((s.left e).reply l ((Command.engineService engine 0).frame tag) .ok []).runAll := by
  obtain ⟨brought, raised, -⟩ := left_raised s e
  exact exec_engineServiceOut tag ready he (serviceOut_of_both inService other) (raised_queued raised)

end

/-- Settles O50: `State.entered` and `State.left` are the changes of service, `left_abandons` says what each abandoned
audit has come to. -/
theorem engineServiceActs : Obligations.EngineServiceActs := by
  unfold Obligations.EngineServiceActs
  intro dropped unauditedRecord
  refine ⟨fun l tag engine e s ready he => ⟨fun inService => ?_, exec_engineServiceIn_of_stopping tag ready he,
    fun out => ?_, fun idle => ?_, fun inService other => ?_, fun inService other => ?_⟩,
    fun s e c k kept channel => ⟨fun l => ?_, fun drops => ?_, fun accepts => ?_⟩⟩
  · have change := serviceIn_of_inService inService
    rw [exec_engineServiceIn tag ready he (change.symm ▸ ready.1), change]
  · have takes := enginesTake_keeps
      (s.serviceChanged e .inService (.engine e (s.engines.get e).lastCycle .out .inService 0))
    refine ⟨s.entered e, exec_engineServiceIn_of_out tag ready he out, rfl, ?_, ?_,
      raised_of_offerAll (entered_ports_get s e), fun c ahead behind f => entered_hand, entered_changes s e⟩
    · rw [State.entered, takes.service, serviceChanged_get]
    · rw [State.entered, takes.service, serviceChanged_get_other]
  · exact exec_engineServiceOut_unchanged tag ready he (serviceOut_of_not_inService idle)
  · exact exec_engineServiceOut_unchanged tag ready he (serviceOut_of_last inService other)
  · have keeps := left_keeps s e
    refine ⟨List.filter_sublist, mem_waitingFor_iff s e, s.left e,
      exec_engineServiceOut_of_both tag ready he inService other, rfl, keeps.slot.trans (serviceChanged_get s e _ _),
      keeps.service.trans (by rw [serviceChanged_get_other, other]), keeps.buffers, keeps.audit, left_raised s e,
      fun sound => ?_, fun sound queue => ?_, left_changes s e⟩
    · have abandons := left_abandons e sound
      refine ⟨abandons.queue, abandons.kept, fun c k waits kept => ?_, abandons.others⟩
      obtain ⟨drops, accepts, held⟩ := abandons.handsOn c k waits kept
      exact ⟨drops, accepts, held⟩
    · rw [left_hand e sound queue]
      cases (s.engines.get e.other).hand with
      | none => rfl
      | some h => exact apply_ite some _ _ _
  · obtain ⟨-, replies, drain, -⟩ := offerAll_keeps ((s.ports.get l).settled k.result.join) s.clock
      (s.checkNotices (s.abandonAudit e c) (fun _ => k.result.cycle) ++
        s.permitNotices (s.abandonAudit e c) (fun _ => k.result.cycle))
    rw [abandonAudit_ports_get_of_kept kept]
    exact ⟨drain, replies⟩
  · have changes := abandonAudit_changes_of_drops e kept drops
    have raised := abandonAudit_raised_of_kept (e := e) kept
    rw [checkNotices_eq_nil (changes .checks (by decide)),
      permitNotices_eq_nil (changes .verdicts (by decide))] at raised
    exact ⟨raised, changes⟩
  · obtain ⟨passed, evaluated⟩ := abandonAudit_of_accepted (e := e) kept channel accepts
    exact ⟨abandonAudit_records_of_accepted e kept channel accepts, passed, evaluated, abandonAudit_raised_of_kept kept⟩

end Sys2Proof.Machine
end

section
/-! SUPPORT. The reading commands (R77, R107, R126, R148, R175): the records of 11.4 read back field by field, and the
answer of each command at a port at rest. -/

namespace Sys2Proof.Machine

/-! ### The bytes a value is sent in -/

theorem byteOf_toNat (n : Nat) : (byteOf n).toNat = n % 256 := BitVec.toNat_ofNat n 8

theorem halfOf_toNat (n : Nat) : (halfOf n).toNat = n % 65536 := BitVec.toNat_ofNat n 16

theorem numberFrom1_toNat {n : Nat} (i : Fin n) (small : n ≤ 255) : (numberFrom1 i).toNat = i.val + 1 := by
  rw [numberFrom1, byteOf_toNat]
  omega

theorem bitsOf_eq_foldr (flags : List Bool) : bitsOf flags = flags.foldr (fun b n => b.toNat + 2 * n) 0 := by
  induction flags with
  | nil => rfl
  | cons b flags ih => rw [bitsOf, List.foldr_cons, ih]

theorem bitsOf_lt_two_pow (flags : List Bool) : bitsOf flags < 2 ^ flags.length := by
  induction flags with
  | nil => exact Nat.one_pos
  | cons b flags ih =>
    have bit := b.toNat_le
    rw [bitsOf, List.length_cons, Nat.pow_succ]
    omega

theorem byteOfFlags_toNat {flags : List Bool} (fit : flags.length ≤ 8) :
    (byteOfFlags flags).toNat = bitsOf flags := by
  have bound : 2 ^ flags.length ≤ 2 ^ 8 := Nat.pow_le_pow_right (by decide) fit
  have lt := bitsOf_lt_two_pow flags
  rw [byteOfFlags, ← bitsOf_eq_foldr, byteOf_toNat]
  omega

/-! ### The codes of 11.4 -/

theorem mode_byte_toNat (m : TrackerMode) : m.byte.toNat = modeNumber m := by cases m <;> rfl

theorem checkState_byte_toNat (x : CheckState) : x.byte.toNat = checkNumber x := by cases x <;> rfl

theorem testPhase_byte_toNat (x : TestPhase) : x.byte.toNat = testNumber x := by cases x <;> rfl

theorem link_code_toNat (l : Link) : l.code.toNat = linkNumber l := by cases l <;> rfl

theorem ref_number_toNat (r : Ref) : r.number.toNat = refNumber r := by cases r <;> rfl

theorem reasons_byte_toNat (r : Reasons) : r.byte.toNat = reasonsNumber r := byteOfFlags_toNat (by simp)

theorem termState_code (x : TermState) : x.code = termNumber x := by cases x <;> rfl

theorem termNumber_le (x : TermState) : termNumber x ≤ 2 := by cases x <;> decide

theorem terms_byte_toNat (x y : TermState) :
    (byteOf (x.code + 4 * y.code)).toNat = termNumber x + 4 * termNumber y := by
  have hx := termNumber_le x
  have hy := termNumber_le y
  rw [byteOf_toNat, termState_code, termState_code]
  omega

theorem engineSlot_byte_toNat (x : EngineSlot) : x.byte.toNat = match x.service with
    | .inService => if x.hand.isSome = true then 1 else 0
    | .stopping => 2
    | .out => 3 := by
  unfold EngineSlot.byte
  cases x.service with
  | inService => cases x.hand <;> rfl
  | stopping => rfl
  | out => rfl

/-! ### Fields read at an offset -/

theorem field8_drop (b : List Byte) (j k : Nat) : field8 (b.drop j) k = field8 b (j + k) := by
  simp [field8, List.getD_eq_getElem?_getD]

/-- A field is read off what stands from its offset on; below, where a record's front part has a fixed layout, that is
seen by evaluating `drop`. -/
theorem field8_of_drop {b rest : List Byte} {x : Byte} {k : Nat} (h : b.drop k = x :: rest) : field8 b k = x.toNat := by
  rw [← Nat.add_zero k, ← field8_drop, h]
  rfl

theorem drop_add_of_drop {b c : List Byte} {k : Nat} (h : b.drop k = c) (j : Nat) : b.drop (k + j) = c.drop j := by
  rw [← h, List.drop_drop]

theorem extractByte_toNat {w : Nat} (x : BitVec w) (i : Nat) : (x.extractLsb' i 8).toNat = x.toNat / 2 ^ i % 256 := by
  rw [BitVec.extractLsb'_toNat, Nat.shiftRight_eq_div_pow]

theorem field16_of_drop {b rest : List Byte} {x : Half} {k : Nat} (h : b.drop k = le16 x ++ rest) :
    field16 b k = x.toNat := by
  have low : field8 b k = _ := (field8_of_drop h).trans (extractByte_toNat x 0)
  have high : field8 b (k + 1) = _ := (field8_of_drop (drop_add_of_drop h 1)).trans (extractByte_toNat x 8)
  rw [field16, low, high]
  omega

theorem field32_of_drop {b rest : List Byte} {x : Word} {k : Nat} (h : b.drop k = le32 x ++ rest) :
    field32 b k = x.toNat := by
  have behind := drop_add_of_drop h
  have byte0 : field8 b k = _ := (field8_of_drop h).trans (extractByte_toNat x 0)
  have byte1 : field8 b (k + 1) = _ := (field8_of_drop (behind 1)).trans (extractByte_toNat x 8)
  have byte2 : field8 b (k + 2) = _ := (field8_of_drop (behind 2)).trans (extractByte_toNat x 16)
  have byte3 : field8 b (k + 2 + 1) = _ := (field8_of_drop (behind 3)).trans (extractByte_toNat x 24)
  rw [field32, field16, field16, byte0, byte1, byte2, byte3]
  omega

/-! ### The fault records of the audit unit (11.4) -/

theorem faultBytes_length (o : Option FaultRecord) : (faultBytes o).length = 12 := by cases o <;> rfl

theorem faultLaid_of_drop {b rest : List Byte} {o : Option FaultRecord} {k : Nat}
    (h : b.drop k = faultBytes o ++ rest) : faultLaid b k o := by
  cases o with
  | none =>
    intro j small
    rw [← field8_drop, h, field8, faultBytes, List.getD_append _ _ _ _ (by simpa using small),
      List.getD_replicate _ small]
    rfl
  | some r =>
    have behind := drop_add_of_drop h
    refine ⟨(field8_of_drop h).trans (numberFrom1_toNat _ (by decide)), (field8_of_drop (behind 1)).trans ?_,
      (field8_of_drop (behind 2)).trans ?_, field8_of_drop (behind 3), field32_of_drop (behind 4),
      field16_of_drop (behind 8), field16_of_drop (behind 10)⟩
    · cases r.quantity <;> rfl
    · cases r.quantity with
      | mean => rfl
      | ripple => rfl
      | level h => exact numberFrom1_toNat h (by decide)

/-! ### The status record (R175) -/

/-- The twelve bytes of the status record behind the fault records. -/
def State.statusTail (s : State) : List Byte :=
  [s.planStore.staging.phase.byte, s.planStore.staging.holderCode]
    ++ le16 s.planStore.generation ++ le16 s.planStore.staging.proposed
    ++ [s.planStore.staging.acceptCode, byteOf s.plan.guardLevel] ++ le32 s.clock

theorem statusRecord_drop_20 (s : State) :
    s.statusRecord.drop 20 = faultBytes s.audit.first ++ (faultBytes s.audit.latest ++ s.statusTail) := by
  simp [State.statusRecord, State.statusTail, le16, le32]

theorem statusRecord_drop_32 (s : State) :
    s.statusRecord.drop 32 = faultBytes s.audit.latest ++ s.statusTail :=
  (drop_add_of_drop (statusRecord_drop_20 s) 12).trans (List.drop_left' (faultBytes_length _))

theorem statusRecord_drop_44 (s : State) : s.statusRecord.drop 44 = s.statusTail :=
  (drop_add_of_drop (statusRecord_drop_32 s) 12).trans (List.drop_left' (faultBytes_length _))

theorem statusRecord_length (s : State) : s.statusRecord.length = 56 := by
  simp [State.statusRecord, le16, le32, faultBytes_length]

theorem statusRecord_laid (s : State) : s.StatusLaid s.statusRecord where
  size := statusRecord_length s
  modes := ⟨(field8_of_drop rfl).trans (mode_byte_toNat _), (field8_of_drop rfl).trans (mode_byte_toNat _)⟩
  frequencies := ⟨(field16_of_drop rfl).trans (halfOf_toNat _), (field16_of_drop rfl).trans (halfOf_toNat _)⟩
  cycles := ⟨field32_of_drop rfl, field32_of_drop rfl⟩
  engines e := by
    cases e with
    | e1 => exact (field8_of_drop rfl).trans (engineSlot_byte_toNat s.engines.e1)
    | e2 => exact (field8_of_drop rfl).trans (engineSlot_byte_toNat s.engines.e2)
  audit := ⟨(field8_of_drop rfl).trans (byteOfFlags_toNat (by simp)), (field8_of_drop rfl).trans (byteOf_toNat _),
    (field16_of_drop rfl).trans (halfOf_toNat _)⟩
  faults := ⟨faultLaid_of_drop (statusRecord_drop_20 s), faultLaid_of_drop (statusRecord_drop_32 s)⟩
  staging := by
    have tail := drop_add_of_drop (statusRecord_drop_44 s)
    have phase : field8 s.statusRecord 44 = _ := field8_of_drop (tail 0)
    have holder : field8 s.statusRecord 45 = _ := field8_of_drop (tail 1)
    have proposed : field16 s.statusRecord 48 = _ := field16_of_drop (tail 4)
    have accept : field8 s.statusRecord 50 = _ := field8_of_drop (tail 6)
    rw [phase, holder, proposed, accept]
    cases s.planStore.staging with
    | empty => exact ⟨rfl, rfl, rfl, rfl⟩
    | opened p l => exact ⟨rfl, link_code_toNat l, rfl, rfl⟩
    | sealed p n a =>
      refine ⟨rfl, rfl, rfl, ?_⟩
      cases a with
      | none => rfl
      | some x => exact link_code_toNat x.1
  generation := field16_of_drop (drop_add_of_drop (statusRecord_drop_44 s) 2)
  guardLevel := (field8_of_drop (drop_add_of_drop (statusRecord_drop_44 s) 7)).trans (byteOf_toNat _)
  clock := field32_of_drop (drop_add_of_drop (statusRecord_drop_44 s) 8)

/-! ### The group record (R126) -/

theorem restoreWindow_of_none {s : State} {g : Group} (absent : s.verdicts[g].restore = none) :
    s.restoreWindow g = 0 := by
  unfold State.restoreWindow
  rw [absent]

theorem restoreWindow_of_some {s : State} {g : Group} {r : Link × Word} (present : s.verdicts[g].restore = some r) :
    s.restoreWindow g = max 1 (min (r.2 + 5000 - s.clock).toNat 5000) := by
  unfold State.restoreWindow
  rw [present]
  rfl

theorem groupRecord_laid (s : State) (g : Group) : s.GroupLaid g (s.groupRecord g) where
  size := rfl
  number := (field8_of_drop rfl).trans (numberFrom1_toNat g (by decide))
  terms := (field8_of_drop rfl).trans (terms_byte_toNat _ _)
  flags := (field8_of_drop rfl).trans (byteOfFlags_toNat (by simp))
  reasons := (field8_of_drop rfl).trans (reasons_byte_toNat _)
  restore := by
    have link : field8 (s.groupRecord g) 4 = _ := field8_of_drop rfl
    have window : field16 (s.groupRecord g) 6 = s.restoreWindow g % 65536 :=
      (field16_of_drop rfl).trans (halfOf_toNat _)
    rw [link, window]
    rcases restore : s.verdicts[g].restore with _ | r
    · exact ⟨rfl, congrArg (· % 65536) (restoreWindow_of_none restore)⟩
    · refine ⟨link_code_toNat r.1, ?_⟩
      rw [restoreWindow_of_some restore]
      omega
  test := (field8_of_drop rfl).trans (testPhase_byte_toNat _)
  quiet := (field16_of_drop rfl).trans (halfOf_toNat _)

/-! ### The check status record (R107) -/

theorem breakerOpen_eq_decide (s : State) (g : Group) :
    s.breakerOpen g = decide (s.inService[g] = false ∧ s.tests[g].isRunning = false) := by
  simp [State.breakerOpen, Bool.decide_and]

theorem quietHolds_eq_decide (s : State) (g : Group) (observe : Bool) :
    s.quietHolds g observe = decide (0 < s.quiet[g] ∧ observe = false) := by
  simp [State.quietHolds, Bool.decide_and]

theorem checkRecord_drop_of_none {s : State} {i : CheckIx} (absent : s.checks[i].last = none) :
    (s.checkRecord i).drop 6 = le16 0 ++ le32 0 := by
  unfold State.checkRecord
  dsimp only
  rw [absent]
  rfl

theorem checkRecord_drop_of_some {s : State} {i : CheckIx} {v : Int} {cycle : Word}
    (present : s.checks[i].last = some (v, cycle)) :
    (s.checkRecord i).drop 6 = le16 (BitVec.ofInt 16 v) ++ le32 cycle := by
  unfold State.checkRecord
  dsimp only
  rw [present]
  rfl

theorem checkRecord_length (s : State) (i : CheckIx) : (s.checkRecord i).length = 12 := by
  have tail : ((s.checkRecord i).drop 6).length = 6 := by
    rcases last : s.checks[i].last with _ | ⟨v, cycle⟩
    · rw [checkRecord_drop_of_none last]; rfl
    · rw [checkRecord_drop_of_some last]; rfl
  rw [List.length_drop] at tail
  omega

theorem checkRecord_laid (s : State) (i : CheckIx) : s.CheckLaid i (s.checkRecord i) where
  size := checkRecord_length s i
  number := (field8_of_drop rfl).trans ((byteOf_toNat _).trans (Nat.mod_eq_of_lt (by omega)))
  status := ⟨(field8_of_drop rfl).trans (checkState_byte_toNat _), (field8_of_drop rfl).trans (byteOf_toNat _),
    (field8_of_drop rfl).trans (byteOf_toNat _)⟩
  flags := by
    simp only [← breakerOpen_eq_decide, ← quietHolds_eq_decide, decide_not, ← beq_eq_decide]
    exact (field8_of_drop rfl).trans (byteOfFlags_toNat (by simp))
  unused := (field8_of_drop rfl).trans rfl
  last := by
    rcases last : s.checks[i].last with _ | ⟨v, cycle⟩
    · have tail := checkRecord_drop_of_none last
      exact ⟨field16_of_drop tail, field32_of_drop (rest := []) (drop_add_of_drop tail 2)⟩
    · have tail := checkRecord_drop_of_some last
      refine ⟨?_, field32_of_drop (rest := []) (drop_add_of_drop tail 2)⟩
      rw [field16_of_drop tail, BitVec.toNat_ofInt]
      omega

/-! ### The result body (R77) -/

/-- The slot of a level at an offset: the order `o` as it was sent, then its level, or 0 where it names no order. -/
def SlotLaid (f : Figures) (o : Byte) (b : List Byte) (k : Nat) : Prop :=
  field8 b k = o.toNat ∧
  (1 ≤ o.toNat ∧ o.toNat ≤ 63 → field8 b (k + 1) = 1 ∧ field16 b (k + 2) = levelOf f o.toNat) ∧
  (¬(1 ≤ o.toNat ∧ o.toNat ≤ 63) → field8 b (k + 1) = 0 ∧ field16 b (k + 2) = 0)

theorem levelSlot_of_order {o : Byte} (f : Figures) (order : 1 ≤ o.toNat ∧ o.toNat ≤ 63) :
    levelSlot f o = [o, 1] ++ le16 (f.levels[o.toNat - 1]'(by omega)) := by
  have index : indexFrom1 63 o = some ⟨o.toNat - 1, by omega⟩ := dif_pos order
  rw [levelSlot, index]
  rfl

theorem levelSlot_of_no_order {o : Byte} (f : Figures) (unnamed : ¬(1 ≤ o.toNat ∧ o.toNat ≤ 63)) :
    levelSlot f o = [o, 0] ++ le16 0 := by
  have index : indexFrom1 63 o = none := dif_neg unnamed
  rw [levelSlot, index]

theorem slotLaid_of_drop {f : Figures} {o : Byte} {b rest : List Byte} {k : Nat}
    (h : b.drop k = levelSlot f o ++ rest) : SlotLaid f o b k := by
  by_cases order : 1 ≤ o.toNat ∧ o.toNat ≤ 63
  · rw [levelSlot_of_order f order] at h
    have behind := drop_add_of_drop h
    refine ⟨field8_of_drop h, fun _ => ⟨field8_of_drop (behind 1), ?_⟩, fun unnamed => absurd order unnamed⟩
    rw [levelOf, dif_pos order]
    exact field16_of_drop (behind 2)
  · rw [levelSlot_of_no_order f order] at h
    have behind := drop_add_of_drop h
    exact ⟨field8_of_drop h, fun named => absurd named order,
      fun _ => ⟨field8_of_drop (behind 1), field16_of_drop (rest := rest) (behind 2)⟩⟩

theorem levelSlot_length (f : Figures) (o : Byte) : (levelSlot f o).length = 4 := by
  unfold levelSlot
  cases indexFrom1 63 o <;> rfl

/-- Slots of four bytes stand one behind the other. -/
theorem drop_flatMap_levelSlot (f : Figures) (orders : List Byte) (i : Nat) :
    (orders.flatMap (levelSlot f)).drop (4 * i) = (orders.drop i).flatMap (levelSlot f) := by
  induction orders generalizing i with
  | nil => simp
  | cons o orders ih =>
    cases i with
    | zero => rfl
    | succ i =>
      rw [List.flatMap_cons, Nat.mul_succ, Nat.add_comm, ← List.drop_drop, List.drop_left' (levelSlot_length f o), ih]
      rfl

theorem flatMap_levelSlot_length (f : Figures) (orders : List Byte) :
    (orders.flatMap (levelSlot f)).length = 4 * orders.length := by
  simp [List.length_flatMap, levelSlot_length, Nat.mul_comm]

theorem resultBody_slotLaid (r : ResultRecord) (c : Channel) {orders : List Byte} {i : Nat} (small : i < 16)
    (inside : i < orders.length) : SlotLaid r.figures orders[i] (r.body c orders) (14 + 4 * i) := by
  have slots : (r.body c orders).drop 14 = (orders.take 16).flatMap (levelSlot r.figures) := rfl
  have behind : (orders.take 16).drop i = orders[i] :: (orders.take 16).drop (i + 1) := by
    rw [List.drop_eq_getElem_cons (by simp; omega), List.getElem_take]
  have slot := drop_add_of_drop slots (4 * i)
  rw [drop_flatMap_levelSlot, behind, List.flatMap_cons] at slot
  exact slotLaid_of_drop slot

theorem resultBody_laid (r : ResultRecord) (c : Channel) (orders : List Byte) :
    r.BodyLaid c orders (r.body c orders) where
  size := by
    have slots := flatMap_levelSlot_length r.figures (orders.take 16)
    simp [ResultRecord.body, slots, le16, le32]
    omega
  channel := (field8_of_drop rfl).trans (numberFrom1_toNat c (by decide))
  ref := (field8_of_drop rfl).trans (ref_number_toNat _)
  cycle := field32_of_drop rfl
  generation := field16_of_drop rfl
  flags := (field8_of_drop rfl).trans (byteOfFlags_toNat (by simp))
  slots := by
    refine (field8_of_drop rfl).trans ?_
    rw [byteOf_toNat, List.length_take]
    omega
  figures := ⟨field16_of_drop rfl, field16_of_drop rfl⟩
  levels i small := by
    have inside : i < orders.length := by omega
    have order : field8 orders i = orders[i].toNat := field8_of_drop (List.drop_eq_getElem_cons inside)
    obtain ⟨sent, named, unnamed⟩ := resultBody_slotLaid r c (by omega) inside
    rw [order, show 15 + 4 * i = 14 + 4 * i + 1 by omega, show 16 + 4 * i = 14 + 4 * i + 2 by omega]
    exact ⟨sent, named, unnamed⟩

/-! ### The reading commands at a port at rest -/

section
variable {l : Link} {s : State}

/-- A command that changes nothing but its port's replies is answered at once. -/
theorem exec_read {i : Instr} {tag : Byte} {c : Command} {code : ReplyCode} {body : List Byte} (ready : s.Ready l)
    (frame : i.frame = some (l, c.frame tag)) (fits : c.fits = true) (parses : parse (c.frame tag) = some c)
    (allowed : permitted l c = true) (notDrain : c ≠ .drainWait) (answer : s.runCommand l c = ⟨s, code, body⟩) :
    exec i s = .next (s.reply l (c.frame tag) code body) :=
  exec_answered ready frame fits parses allowed notDrain answer ready.1

theorem exec_readStatus (tag : Byte) (ready : s.Ready l) :
    exec (.readStatus l tag) s = .next (s.reply l (Command.readStatus.frame tag) .ok s.statusRecord) :=
  exec_read ready rfl rfl rfl rfl nofun rfl

theorem exec_readResult {code : ReplyCode} {body : List Byte} {channel : Byte} {orders : List Byte} (tag : Byte)
    (ready : s.Ready l) (fits : orders.length ≤ 254) (answer : runReadResult s channel orders = ⟨s, code, body⟩) :
    exec (.readResult l tag channel orders) s =
      .next (s.reply l ((Command.readResult channel orders).frame tag) code body) :=
  exec_read ready rfl (decide_eq_true fits) (if_pos fits) rfl nofun answer

theorem runReadResult_of_none {channel : Byte} {c : Channel} (orders : List Byte)
    (number : indexFrom1 16 channel = some c) (absent : s.records[c] = none) :
    runReadResult s channel orders = ⟨s, .noResult, []⟩ := by
  simp only [runReadResult, number, absent]

theorem runReadResult_of_some {channel : Byte} {c : Channel} {r : ResultRecord} (orders : List Byte)
    (number : indexFrom1 16 channel = some c) (present : s.records[c] = some r) :
    runReadResult s channel orders = ⟨s, .ok, r.body c orders⟩ := by
  simp only [runReadResult, number, present]

theorem checksRead_length (first : CheckIx) (count : Byte) :
    (checksRead first count).length = min (min count.toNat 16) (64 - first.val) := by
  simp [checksRead]

theorem exec_readChecks {first : Byte} {i : CheckIx} (tag count : Byte) (ready : s.Ready l)
    (number : indexFrom0 64 first = some i) :
    exec (.readChecks l tag first count) s = .next (s.reply l ((Command.readChecks first count).frame tag) .ok
      ([byteOf (min (min count.toNat 16) (64 - i.val))] ++ (checksRead i count).flatMap s.checkRecord)) := by
  refine exec_read ready rfl rfl rfl rfl nofun ?_
  simp only [State.runCommand, runReadChecks, number, checksRead_length]

theorem exec_readGroup {group : Byte} {g : Group} (tag : Byte) (ready : s.Ready l)
    (number : indexFrom1 4 group = some g) :
    exec (.readGroup l tag group) s =
      .next (s.reply l ((Command.readGroup group).frame tag) .ok (s.groupRecord g)) := by
  refine exec_read ready rfl rfl rfl rfl nofun ?_
  simp only [State.runCommand, runReadGroup, number]

/-! ### READ ENTRY (R148) -/

theorem exec_readEntry {plan kind number : Byte} {code : ReplyCode} {body : List Byte} (tag : Byte)
    (ready : s.Ready l) (answer : s.readEntry plan kind number = (code, body)) :
    exec (.readEntry l tag plan kind number) s =
      .next (s.reply l ((Command.readEntry plan kind number).frame tag) code body) := by
  refine exec_read ready rfl rfl rfl rfl nofun ?_
  simp only [State.runCommand, runReadEntry, answer]

variable {kind number : Byte} {x : PlanItem}

theorem readEntry_active (named : s.plan.item kind number = some x) : s.readEntry 0 kind number =
    (.ok, [1] ++ le16 s.planStore.generation ++ [kind, number] ++ x.bytes) := by
  simp [State.readEntry, named, flagByte]

theorem readEntry_opened {p : Plan} {holder : Link} (staging : s.planStore.staging = .opened p holder)
    (named : p.item kind number = some x) :
    s.readEntry 1 kind number = (.ok, [0, 0, 0, kind, number] ++ x.bytes) := by
  simp [State.readEntry, staging, named, flagByte, le16]

theorem readEntry_sealed {p : Plan} {n : Half} {a : Option (Link × Word)}
    (staging : s.planStore.staging = .sealed p n a) (named : p.item kind number = some x) :
    s.readEntry 1 kind number = (.ok, [1] ++ le16 n ++ [kind, number] ++ x.bytes) := by
  simp [State.readEntry, staging, named, flagByte]

/-- With no staging, an item that the fields name is looked up in the active plan only (log entry 13). -/
theorem readEntry_empty (staging : s.planStore.staging = .empty) (named : s.plan.item kind number = some x) :
    s.readEntry 1 kind number = (.wrongState, []) := by
  simp [State.readEntry, staging, named]

end

/-- Settles O40: a lemma for each record of 11.4, read at its offsets, and one for each command's answer; an error record
is its three bytes by definition. -/
theorem readCommandsReply : Obligations.ReadCommandsReply := by
  unfold Obligations.ReadCommandsReply
  refine ⟨fun s => ⟨statusRecord_laid s, groupRecord_laid s, checkRecord_laid s⟩, resultBody_laid, fun _ => rfl,
    fun l tag s ready => ⟨exec_readStatus tag ready, fun channel orders c fits number => ⟨fun absent => ?_,
      fun r present => ?_⟩, fun first count i => exec_readChecks tag count ready, fun group g => exec_readGroup tag ready,
      fun kind number x named => ?_, fun kind number x p holder staging named => ?_,
      fun kind number x p n a staging named => ?_, fun kind number x staging named => ?_⟩⟩
  · exact exec_readResult tag ready fits (runReadResult_of_none orders number absent)
  · exact exec_readResult tag ready fits (runReadResult_of_some orders number present)
  · exact exec_readEntry tag ready (readEntry_active named)
  · exact exec_readEntry tag ready (readEntry_opened staging named)
  · exact exec_readEntry tag ready (readEntry_sealed staging named)
  · exact exec_readEntry tag ready (readEntry_empty staging named)

end Sys2Proof.Machine
end

section
/-! SUPPORT. One check at an evaluation: the band of its condition (R86), and the transitions of its state
(R87 to R92). -/

namespace Sys2Proof.Machine

/-! ### The band of a check (R86) -/

/-- The lower limit of a check as it is compared: signed for MEAN, unsigned otherwise. -/
def CheckEntry.lowLimit (e : CheckEntry) : Int := if e.quantity = .mean then e.low.toInt else e.low.toNat

/-- The upper limit of a check as it is compared: signed for MEAN, unsigned otherwise. -/
def CheckEntry.highLimit (e : CheckEntry) : Int := if e.quantity = .mean then e.high.toInt else e.high.toNat

theorem limits_of_mean {e : CheckEntry} (h : e.quantity = .mean) :
    e.lowLimit = e.low.toInt ∧ e.highLimit = e.high.toInt := ⟨if_pos h, if_pos h⟩

theorem limits_of_ne_mean {e : CheckEntry} (h : e.quantity ≠ .mean) :
    e.lowLimit = e.low.toNat ∧ e.highLimit = e.high.toNat := ⟨if_neg h, if_neg h⟩

theorem present_of_outside {e : CheckEntry} (h : e.sense = .outside) (v : Int) :
    e.present v = true ↔ v < e.lowLimit ∨ e.highLimit < v := by
  have present : e.present v = !decide (e.lowLimit ≤ v ∧ v ≤ e.highLimit) := by
    unfold CheckEntry.present
    rw [h]
    rfl
  rw [present, Bool.not_eq_true', decide_eq_false_iff_not]
  omega

theorem present_of_inside {e : CheckEntry} (h : e.sense = .inside) (v : Int) :
    e.present v = true ↔ e.lowLimit ≤ v ∧ v ≤ e.highLimit := by
  have present : e.present v = decide (e.lowLimit ≤ v ∧ v ≤ e.highLimit) := by
    unfold CheckEntry.present
    rw [h]
    rfl
  rw [present, decide_eq_true_iff]

/-- Settles O20: the condition of either sense, with the limits read as the quantity says. -/
theorem bandJudgement : Obligations.BandJudgement := by
  refine fun e v => ⟨fun mean outside => ?_, fun mean inside => ?_, fun other outside => ?_, fun other inside => ?_⟩
  · rw [present_of_outside outside, (limits_of_mean mean).1, (limits_of_mean mean).2]
  · rw [present_of_inside inside, (limits_of_mean mean).1, (limits_of_mean mean).2]
  · rw [present_of_outside outside, (limits_of_ne_mean other).1, (limits_of_ne_mean other).2]
  · rw [present_of_inside inside, (limits_of_ne_mean other).1, (limits_of_ne_mean other).2]

/-! ### The transitions of an evaluated check (R87 to R92) -/

/-- The entry to ACTIVE in full (R89): the tally limit 0 stands for no limit. -/
theorem enterActive_eq (e : CheckEntry) (st : CheckStatus) : enterActive e st =
    { st with
      state := if 1 ≤ e.tallyLimit ∧ min (st.tally + 1) 255 = e.tallyLimit then .latched else .active
      run := 0
      tally := min (st.tally + 1) 255 } := by
  rw [if_congr (and_congr_left' Nat.one_le_iff_ne_zero) rfl rfl]
  rfl

section
variable {e : CheckEntry} {st : CheckStatus} {present : Bool}

theorem stepState_of_clear (h : st.state = .clear) : stepState e present st =
    if present then if e.persistence = 1 then enterActive e st else { st with state := .rising, run := 1 } else st := by
  rw [stepState, h]

theorem stepState_of_rising (h : st.state = .rising) : stepState e present st =
    if present then if st.run + 1 = e.persistence then enterActive e st else { st with run := st.run + 1 }
    else { st with state := .clear, run := 0 } := by
  rw [stepState, h]

theorem stepState_of_active (h : st.state = .active) : stepState e present st =
    if present then st
    else if e.release = 1 then { st with state := .clear, run := 0 } else { st with state := .falling, run := 1 } := by
  rw [stepState, h]

theorem stepState_of_falling (h : st.state = .falling) : stepState e present st =
    if present then { st with state := .active, run := 0 }
    else if st.run + 1 = e.release then { st with state := .clear, run := 0 } else { st with run := st.run + 1 } := by
  rw [stepState, h]

theorem stepState_of_latched (h : st.state = .latched) : stepState e present st = st := by rw [stepState, h]

end

/-- Settles O21: a case of `stepState` for each state, and the two outcomes of each of its tests. -/
theorem checkTransitions : Obligations.CheckTransitions := by
  intro e v cycle st new entered stays
  have step : ∀ st' : CheckStatus, stepState e (e.present v) st = st' → new = { st' with last := some (v, cycle) } :=
    fun st' h => by rw [← h]; rfl
  have enters : stepState e (e.present v) st = enterActive e st → new = entered := fun h => by
    rw [step _ h, enterActive_eq]
  refine ⟨fun s p => step st ?_, fun s p r => enters ?_, fun s p r => step { st with state := .rising, run := 1 } ?_,
    fun s p r => enters ?_, fun s p r => step { st with run := st.run + 1 } ?_,
    fun s p => step { st with state := .clear, run := 0 } ?_, fun s p => step st ?_,
    fun s p r => step { st with state := .clear, run := 0 } ?_,
    fun s p r => step { st with state := .falling, run := 1 } ?_,
    fun s p => step { st with state := .active, run := 0 } ?_,
    fun s p r => step { st with state := .clear, run := 0 } ?_,
    fun s p r => step { st with run := st.run + 1 } ?_, fun s => step st (stepState_of_latched s)⟩
  · simp [stepState_of_clear s, p]
  · simp [stepState_of_clear s, p, r]
  · simp [stepState_of_clear s, p, r]
  · simp [stepState_of_rising s, p, r]
  · simp [stepState_of_rising s, p, r]
  · simp [stepState_of_rising s, p]
  · simp [stepState_of_active s, p]
  · simp [stepState_of_active s, p, r]
  · simp [stepState_of_active s, p, r]
  · simp [stepState_of_falling s, p]
  · simp [stepState_of_falling s, p, r]
  · simp [stepState_of_falling s, p, r]

end Sys2Proof.Machine
end

section
/-! SUPPORT. What a step is made of: the moves (`State.Moves`), as fine as the plans, the check table and the suspension
causes can tell them apart, and that every step but the power-on reset is a sequence of them (`step_leads`). An
invariant over those parts that each move keeps is kept by every such step. -/

namespace Sys2Proof.Machine

/-! ### The moves -/

/-- The parts that neither a plan, a check nor a suspension cause is read from. -/
abbrev asideParts : List Part :=
  [.now, .clock, .converters, .buffers, .queue, .lastJoin, .engines, .audit, .records, .quietEndDue, .verdicts, .alert,
    .sources, .patterns, .ports, .stopInput, .wires, .choices, .pending]

/-- What the staging of the plan store can become short of an activation (R132, R133, R135, R140 to R143). -/
inductive State.Restages (s : State) : Staging → Prop where
  | discards : s.Restages .empty
  | opens (l : Link) : s.Restages (.opened s.plan l)
  | writes {p : Plan} {holder : Link} {kind number : Byte} {item : List Byte} {x : PlanItem} {n : Nat} (l : Link)
      (staging : s.planStore.staging = .opened p holder) (read : readItem kind number item = some (x, n)) :
      s.Restages (.opened (p.put x) l)
  | seals {p : Plan} {holder : Link} (staging : s.planStore.staging = .opened p holder)
      (valid : (p.errors s.plan).isEmpty = true) : s.Restages (.sealed p (nextGeneration s.planStore.generation) none)
  | accepts {p : Plan} {n : Half} {a b : Option (Link × Word)} (staging : s.planStore.staging = .sealed p n a)
      (protection : ∀ x, b = some x → x.1 ≠ .m) : s.Restages (.sealed p n b)

/-- One change of which a step is made, short of the power-on reset. -/
inductive State.Moves (s : State) : State → Prop where
  | aside {t : State} (h : State.ChangesOnly asideParts s t) : s.Moves t
  | tracker (r : Ref) (x : Tracker) (mode : x.mode = .seeking ↔ (s.trackers.get r).mode = .seeking) :
      s.Moves (s.setTracker r x)
  | lock (r : Ref) (e : Tick) (interval : Nat) : s.Moves (s.lock r e interval)
  | loseReference (r : Ref) : s.Moves (s.loseReference r)
  | countQuiet (r : Ref) : s.Moves (s.countQuiet r)
  | startQuiet (g : Group) : s.Moves (s.startQuiet g)
  | endQuiet (g : Group) : s.Moves (s.endQuiet g)
  | breakerOpens (g : Group) : s.Moves (s.breakerOpens g)
  | breakerCloses (g : Group) : s.Moves (s.breakerCloses g)
  | test (g : Group) (x : TestState) (running : x.isRunning = s.tests[g].isRunning) : s.Moves (s.setTest g x)
  | startTest (g : Group) (seconds : Nat) : s.Moves (s.startTest g seconds)
  | endTest (g : Group) (cause : TestCause) : s.Moves (s.endTest g cause)
  | evaluation (c : Channel) (rec : ResultRecord) : s.Moves (s.evaluationEvent c rec)
  | clearLatch (i : CheckIx) : s.Moves (s.clearLatch i)
  | staging {x : Staging} (h : s.Restages x) : s.Moves (s.setStaging x)
  | activate {p : Plan} {n : Half} {a : Option (Link × Word)} (l : Link)
      (staging : s.planStore.staging = .sealed p n a) : s.Moves (s.activate l p n)

/-- `t` is reached from `s` by moves. -/
abbrev State.Leads (s t : State) : Prop := Relation.ReflTransGen State.Moves s t

theorem leads_refl (s : State) : s.Leads s := .refl

theorem leads_trans {s t u : State} (h : s.Leads t) (k : t.Leads u) : s.Leads u := Relation.ReflTransGen.trans h k

theorem leads_of_moves {s t : State} (h : s.Moves t) : s.Leads t := .single h

/-- A change of parts that no move tells of. -/
theorem leads_aside {s t : State} {A : List Part} (h : State.ChangesOnly A s t) (hA : ∀ p ∈ A, p ∈ asideParts) :
    s.Leads t := leads_of_moves (.aside (changes_mono h hA))

/-- What each move keeps is kept by every sequence of them. -/
theorem leads_keeps {P : State → Prop} (move : ∀ s t, s.Moves t → P s → P t) {s t : State} (h : s.Leads t) (hs : P s) :
    P t := by
  induction h with
  | refl => exact hs
  | tail _ last ih => exact move _ _ last ih

theorem leads_foldl {α : Type} {f : State → α → State} (h : ∀ (s : State) x, s.Leads (f s x)) (xs : List α)
    (s : State) : s.Leads (xs.foldl f s) := by
  induction xs generalizing s with
  | nil => exact leads_refl s
  | cons x xs ih => exact leads_trans (h s x) (ih _)

variable (s : State)

/-! ### The trackers (R4 to R11) -/

theorem startCycle_leads (r : Ref) (st : Tick) : s.Leads (s.startCycle r st) := by
  unfold State.startCycle
  dsimp only
  have before := leads_aside (startFrames_changes (s.setTracker r { s.trackers.get r with
    cycle := (s.trackers.get r).cycle + 1, start := some st, nextStrobe := some 1 }) r
    ((s.trackers.get r).cycle + 1)) (by decide)
  have behind : ∀ u : State, u.Leads ((u.armConverters r).issueStrobe r 0) := fun u =>
    leads_trans (leads_aside (armConverters_changes u r) (by decide))
      (leads_aside (issueStrobe_changes _ r 0) (by decide))
  exact leads_trans (leads_trans (leads_of_moves (.tracker r _ (by rfl))) before)
    (leads_trans (leads_of_moves (.countQuiet r)) (behind _))

theorem endCycleFrames_trackers (r : Ref) (o : Outcome) : (s.endCycleFrames r o).trackers = s.trackers :=
  endCycleFrames_changes s r o .trackers (by decide)

theorem endCycleFrames_leads (r : Ref) (o : Outcome) : s.Leads (s.endCycleFrames r o) :=
  leads_aside (endCycleFrames_changes s r o) (by decide)

theorem lockedEdge_leads (r : Ref) (e : Tick) (interval : Nat) : s.Leads (s.lockedEdge r e interval) :=
  leads_trans (endCycleFrames_leads s r _)
    (leads_trans (leads_of_moves (.tracker r _ (by rfl))) (startCycle_leads _ r e))

theorem relock_leads {r : Ref} (mode : (s.trackers.get r).mode = .holding) (e : Tick) (interval : Nat) :
    s.Leads (s.relock r e interval) := by
  refine leads_trans (endCycleFrames_leads s r .short) (leads_trans (leads_trans (leads_of_moves (.tracker r _ ?_))
    (startCycle_leads _ r e)) (leads_aside (raiseSync_changes _ r _ _) (by decide)))
  rw [endCycleFrames_trackers, mode]
  simp

theorem acceptEdge_leads (r : Ref) (e : Tick) : s.Leads (s.acceptEdge r e) := by
  have own : ∀ x : Tracker, x.mode = (s.trackers.get r).mode → s.Leads (s.setTracker r x) := fun x h =>
    leads_of_moves (.tracker r x (by rw [h]))
  unfold State.acceptEdge
  dsimp only
  split
  · exact own _ (by rfl)
  · exact own _ (by rfl)
  · exact own _ (by rfl)
  · split
    · exact leads_trans (own _ (by rfl)) (leads_of_moves (.lock r e _))
    · exact leads_trans (own _ (by rfl)) (lockedEdge_leads _ r e _)
    · next mode =>
      refine leads_trans (own _ (by rfl)) (relock_leads _ ?_ e _)
      rw [setTracker_trackers, perRef_get_set_self]
      exact mode

theorem expireDeadline_leads {r : Ref} (mode : (s.trackers.get r).mode = .locked) : s.Leads (s.expireDeadline r) := by
  refine leads_trans (endCycleFrames_leads s r .held) (leads_trans (leads_trans (leads_of_moves (.tracker r _ ?_))
    (startCycle_leads _ r _)) (leads_aside (raiseSync_changes _ r _ _) (by decide)))
  rw [endCycleFrames_trackers, mode]
  simp

theorem endHeldCycle_leads (r : Ref) : s.Leads (s.endHeldCycle r) := by
  unfold State.endHeldCycle
  dsimp only
  refine leads_trans (endCycleFrames_leads s r .held) ?_
  split
  · exact leads_of_moves (.loseReference r)
  · exact leads_trans (leads_of_moves (.tracker r _ (by rfl))) (startCycle_leads _ r _)

theorem nextStrobe_leads (r : Ref) : s.Leads (s.nextStrobe r) := by
  unfold State.nextStrobe
  dsimp only
  split
  · split
    · exact leads_trans (leads_of_moves (.tracker r _ (by rfl))) (leads_aside (issueStrobe_changes _ r _) (by decide))
    · exact leads_refl s
  · exact leads_refl s

/-! ### Results and engines (R54, R63, R66, R71 to R74) -/

theorem arrive_leads (res : TransformResult) : s.Leads (s.arrive res) := by
  have drop : s.Leads (s.dropResult res) := leads_aside (dropResult_changes s res) (by decide)
  have store : s.Leads (s.storeResult res) := leads_aside (storeResult_changes s res) (by decide)
  unfold State.arrive
  split
  · exact drop
  · split
    · exact drop
    · split
      · exact store
      · exact leads_trans store (leads_of_moves (.evaluation _ _))

theorem compare_leads (k : Kept) (e : Engine) (res : TransformResult) : s.Leads (s.compare k e res) := by
  unfold State.compare
  dsimp only
  split
  · exact leads_aside (mismatch_changes _ _ _ _ _) (by decide)
  · exact arrive_leads s _

theorem setKept_leads (c : Channel) (k : Option Kept) : s.Leads (s.setKept c k) :=
  leads_aside (setKept_changes s c k) (by decide)

theorem routeResult_leads (e : Engine) (role : AuditRole) (res : TransformResult) :
    s.Leads (s.routeResult e role res) := by
  unfold State.routeResult
  split
  · exact arrive_leads s _
  · exact arrive_leads s _
  · exact leads_aside (dropResult_changes s res) (by decide)
  · split
    · exact setKept_leads s _ _
    · exact leads_trans (setKept_leads s _ _) (compare_leads _ _ e res)

theorem completeTransform_leads (e : Engine) (h : Hand) (wrong : Option Figures) :
    s.Leads (s.completeTransform e h wrong) :=
  leads_trans (leads_aside (setEngine_changes s e _) (by decide))
    (leads_trans (routeResult_leads _ e h.role _) (leads_aside (afterCompletion_changes _ e) (by decide)))

theorem abandonAudit_leads (e : Engine) (c : Channel) : s.Leads (s.abandonAudit e c) := by
  unfold State.abandonAudit
  dsimp only
  refine leads_trans (leads_aside (dequeue_changes s c) (by decide)) ?_
  split
  · exact leads_trans (setKept_leads _ c none) (arrive_leads _ _)
  · exact leads_aside (setRole_changes _ _ _ _) (by decide)

theorem serviceOut_leads (e : Engine) : s.Leads (s.serviceOut e).1 := by
  unfold State.serviceOut
  dsimp only
  split
  · exact leads_refl s
  · split
    · exact leads_refl s
    · exact leads_trans (leads_aside (setEngine_changes s e _) (by decide))
        (leads_trans (leads_aside (raiseEngine_changes _ e _ _ _) (by decide))
          (leads_foldl (fun s c => abandonAudit_leads s e c) _ _))

/-! ### The test unit (R150 to R157) -/

theorem endOffer_leads {g : Group} (idle : s.tests[g].isRunning = false) (cause : TestCause) :
    s.Leads (s.endOffer g cause) :=
  leads_trans (leads_of_moves (.test g .idle idle.symm)) (leads_aside (raiseTest_changes _ g _ _ _) (by decide))

theorem endOffer_tests (g : Group) (cause : TestCause) : (s.endOffer g cause).tests = s.tests.set g .idle := rfl

/-- Offers that end one after another, as at a link reset (R168). -/
theorem endOffers_leads (cause : TestCause) (gs : List Group) :
    ∀ s : State, (∀ g ∈ gs, s.tests[g].isRunning = false) → s.Leads (gs.foldl (fun s g => s.endOffer g cause) s) := by
  induction gs with
  | nil => exact fun s _ => leads_refl s
  | cons g gs ih =>
    refine fun s idle => leads_trans (endOffer_leads s (idle g (.head gs)) cause) (ih _ fun g' hg' => ?_)
    rw [endOffer_tests, vector_getElem_set]
    split
    · rfl
    · exact idle g' (.tail g hg')

theorem grantTest_leads (l : Link) (g : Group) (seconds : Nat) : s.Leads (s.grantTest l g seconds).1 := by
  unfold State.grantTest
  split
  · next idle =>
    split
    · exact leads_refl s
    · exact leads_trans (leads_of_moves (.test g _ (by rw [idle]; rfl)))
        (leads_aside (raiseTest_changes _ g _ _ _) (by decide))
  · next offered =>
    repeat' split
    · exact leads_refl s
    · exact leads_refl s
    · exact endOffer_leads s (by rw [offered]; rfl) _
    · exact leads_of_moves (.startTest g _)
  · exact leads_refl s

theorem stopTest_leads (g : Group) : s.Leads (s.stopTest g).1 := by
  unfold State.stopTest
  split
  · exact leads_of_moves (.endTest g _)
  · next offered => exact endOffer_leads s (by rw [offered]; rfl) _
  · exact leads_refl s

/-! ### The plan store (R132 to R143) -/

theorem restage_leads {x : Staging} (h : s.Restages x) (subject : Option Link) (old new : PlanPhase) (n : Half) :
    s.Leads ((s.setStaging x).raisePlan subject old new n) :=
  leads_trans (leads_of_moves (.staging h)) (leads_aside (raisePlan_changes _ _ _ _ _) (by decide))

theorem editedBy_eq_some {x : Staging} {l : Link} {p : Plan} (h : x.editedBy l = some p) : x = .opened p l := by
  unfold Staging.editedBy at h
  split at h
  · split at h
    · next holder => cases h; rw [holder]
    · cases h
  all_goals cases h

theorem openStaging_leads (l : Link) : s.Leads (s.openStaging l).1 := by
  unfold State.openStaging
  split
  · exact leads_refl s
  · split
    · exact leads_refl s
    · split
      · exact leads_refl s
      · exact leads_refl s
      · exact restage_leads s (.opens l) _ _ _ _

theorem writeEntry_leads (l : Link) (kind number : Byte) (item : List Byte) :
    s.Leads (s.writeEntry l kind number item).1 := by
  unfold State.writeEntry
  split
  · exact leads_refl s
  · next edited =>
    split
    · exact leads_refl s
    · next read => exact leads_of_moves (.staging (.writes l (editedBy_eq_some edited) read))

theorem sealStaging_leads (l : Link) : s.Leads (s.sealStaging l).1 := by
  unfold State.sealStaging
  split
  · exact leads_refl s
  · next edited =>
    dsimp only
    split
    · next valid => exact restage_leads s (.seals (editedBy_eq_some edited) valid) _ _ _ _
    · exact leads_refl s

theorem discardStaging_leads (l : Link) : s.Leads (s.discardStaging l).1 := by
  unfold State.discardStaging
  repeat' split
  · exact leads_refl s
  · exact restage_leads s .discards _ _ _ _
  · exact leads_refl s
  · exact leads_refl s
  · exact restage_leads s .discards _ _ _ _

theorem acceptPlan_leads {l : Link} (protection : l ≠ .m) (n : Half) : s.Leads (s.acceptPlan l n).1 := by
  unfold State.acceptPlan
  split
  · exact leads_refl s
  · exact leads_refl s
  · next staging =>
    repeat' split
    · exact leads_refl s
    · exact leads_of_moves (.staging (.accepts staging fun x hx => by cases hx; exact protection))
    · exact leads_refl s
    · exact leads_of_moves (.activate l staging)

theorem expireAccept_leads : s.Leads s.expireAccept := by
  unfold State.expireAccept
  split
  · exact restage_leads s .discards _ _ _ _
  all_goals exact leads_refl s

theorem resetStaging_leads (l : Link) : s.Leads (s.resetStaging l) := by
  unfold State.resetStaging
  split
  · split
    · exact restage_leads s .discards _ _ _ _
    · exact leads_refl s
  · next staging =>
    split
    · exact leads_of_moves (.staging (.accepts staging nofun))
    · exact leads_refl s
  all_goals exact leads_refl s

/-! ### Commands (R165) -/

theorem runReadStats_leads (kind number clear : Byte) : s.Leads (runReadStats s kind number clear).state := by
  unfold runReadStats
  split
  · split
    · dsimp only
      split
      · exact leads_aside (setBuffers_changes s _ _) (by decide)
      · exact leads_refl s
    · exact leads_refl s
  · split
    · dsimp only
      split
      · exact leads_of_moves (.tracker _ _ (by rfl))
      · exact leads_refl s
    · exact leads_refl s
  · exact leads_refl s

theorem runEngineService_leads (engine direction : Byte) : s.Leads (runEngineService s engine direction).state := by
  unfold runEngineService
  split
  · exact leads_refl s
  · split
    · exact serviceOut_leads s _
    · exact leads_aside (serviceIn_changes s _) (by decide)
    · exact leads_refl s

theorem runLoadPattern_leads (store slot : Byte) (samples : List Half) :
    s.Leads (runLoadPattern s store slot samples).state := by
  unfold runLoadPattern
  split
  · exact leads_refl s
  · split
    · exact leads_refl s
    · split
      · exact leads_refl s
      · exact leads_aside (loadPattern_changes s _ _ _) (by decide)

theorem runTestSource_leads (channel source : Byte) : s.Leads (runTestSource s channel source).state := by
  unfold runTestSource
  split
  · exact leads_aside (switchSource_changes s _ _) (by decide)
  · exact leads_refl s

theorem runCommand_leads {l : Link} {c : Command} (allowed : permitted l c = true) :
    s.Leads (s.runCommand l c).state := by
  cases c with
  | readStatus => exact leads_refl s
  | readStats kind number clear => exact runReadStats_leads s kind number clear
  | readNotices => exact leads_aside (setPort_changes s l _) (by decide)
  | setNoticeMask => exact leads_aside (setPort_changes s l _) (by decide)
  | clearOverflow => exact leads_aside (setPort_changes s l _) (by decide)
  | drainWait => exact leads_refl s
  | readResult =>
    simp only [State.runCommand, runReadResult]
    repeat' split
    all_goals exact leads_refl s
  | readChecks =>
    simp only [State.runCommand, runReadChecks]
    split <;> exact leads_refl s
  | readGroup =>
    simp only [State.runCommand, runReadGroup]
    split <;> exact leads_refl s
  | readEntry => exact leads_refl s
  | openStaging => exact openStaging_leads s l
  | writeEntry kind number item => exact writeEntry_leads s l kind number item
  | discardStaging => exact discardStaging_leads s l
  | acceptPlan n => exact acceptPlan_leads s (bne_iff_ne.1 allowed) n
  | clearLatch =>
    simp only [State.runCommand, runClearLatch]
    split
    · exact leads_refl s
    · exact leads_of_moves (.clearLatch _)
  | startQuiet =>
    simp only [State.runCommand, runStartQuiet]
    split
    · exact leads_refl s
    · exact leads_of_moves (.startQuiet _)
  | restorePermit =>
    simp only [State.runCommand, runRestorePermit]
    split
    · exact leads_refl s
    · exact leads_aside (restorePermit_changes s l _) (by decide)
  | clearFaults => exact leads_aside (clearFaults_changes s) (by decide)
  | engineService engine direction => exact runEngineService_leads s engine direction
  | testGrant =>
    simp only [State.runCommand, runTestGrant]
    split
    · exact leads_refl s
    · exact grantTest_leads s l _ _
  | testEnd =>
    simp only [State.runCommand, runTestEnd]
    split
    · exact leads_refl s
    · exact stopTest_leads s _
  | loadPattern store slot samples => exact runLoadPattern_leads s store slot samples
  | testSource channel source => exact runTestSource_leads s channel source
  -- SEAL is left, whose name is a word of Lean.
  | _ => exact sealStaging_leads s l

/-! ### The ports (R162 to R169) -/

theorem runFrame_leads (l : Link) (f : CmdFrame) : s.Leads (s.runFrame l f) := by
  have reply : ∀ (u : State) code body, u.Leads (u.reply l f code body) := fun u code body =>
    leads_aside (reply_changes u l f code body) (by decide)
  unfold State.runFrame
  split
  · exact reply s _ _
  · next c _ =>
    split
    · exact reply s _ _
    · next allowed =>
      split
      · exact leads_aside (startDrain_changes s l f) (by decide)
      · exact leads_trans (runCommand_leads s (by simpa using allowed)) (reply _ _ _)

theorem runHead_leads (l : Link) : s.Leads (s.runHead l) := by
  unfold State.runHead
  dsimp only
  split
  · exact leads_refl s
  · exact leads_trans (leads_aside (setPort_changes s l _) (by decide)) (runFrame_leads _ l _)

theorem runOne_leads : s.Leads s.runOne := by
  unfold State.runOne
  split
  · exact leads_refl s
  · exact runHead_leads s _
  · exact leads_trans (leads_aside (with_choices s _) (by decide)) (runHead_leads _ _)

theorem runPorts_leads (n : Nat) : ∀ s : State, s.Leads (State.runPorts n s) := by
  induction n with
  | zero => exact leads_refl
  | succ n ih => exact fun s => leads_trans (runOne_leads s) (ih _)

theorem runAll_leads : s.Leads s.runAll := runPorts_leads _ s

theorem takeCommand_leads (l : Link) (f : CmdFrame) : s.Leads (s.takeCommand l f) := by
  unfold State.takeCommand
  dsimp only
  split
  · exact leads_aside (setPort_changes s l _) (by decide)
  · exact leads_trans (leads_aside (setPort_changes s l _) (by decide)) (runAll_leads _)

theorem resumeLink_leads (l : Link) : s.Leads (s.resumeLink l) := by
  unfold State.resumeLink
  dsimp only
  split
  · exact leads_trans (leads_aside (setPort_changes s l _) (by decide)) (runAll_leads _)
  · exact leads_refl s

theorem not_running_of_offeredBy {l : Link} {g : Group} (h : s.offeredBy l g = true) :
    s.tests[g].isRunning = false := by
  unfold State.offeredBy at h
  split at h
  · next offered => rw [offered]; rfl
  · cases h
  · cases h

theorem resetLink_leads (l : Link) : s.Leads (s.resetLink l) := by
  refine leads_trans (leads_aside (setPort_changes s l Port.reset) (by decide)) (leads_trans (resetStaging_leads _ l)
    (leads_trans (leads_aside (reasonEvent_changes _ fun _ => Verdict.withdrawRestoreOf l) (by decide)) ?_))
  exact endOffers_leads .linkReset _ _ fun g hg => not_running_of_offeredBy _ (List.mem_filter.1 hg).2

theorem clockIn_leads (l : Link) (bytes : List Byte) : s.Leads (s.clockIn l bytes) := by
  unfold State.clockIn State.frameTaken
  split
  · split
    · split
      · exact resumeLink_leads s l
      · exact resetLink_leads s l
    · exact takeCommand_leads s l _
  · exact leads_refl s

/-! ### Every row of the table, and every step -/

/-- A row that is a link command clocks its frame in (log entry 19). -/
theorem exec_of_frame {i : Instr} {l : Link} {f : CmdFrame} (h : i.frame = some (l, f)) :
    exec i s = .next (s.clockIn l f.bytes) := by
  cases i <;> simp only [Instr.frame, Option.some.injEq, Prod.mk.injEq, reduceCtorEq] at h <;>
    (obtain ⟨rfl, rfl⟩ := h; rfl)

theorem whenDue_leads {due : Bool} {effect t : State} (h : due = true → s.Leads effect)
    (run : whenDue due effect s = .next t) : s.Leads t := by
  cases run
  split
  · next isDue => exact h isDue
  · exact leads_refl s

theorem next_leads {effect t : State} (h : s.Leads effect) (run : (.next effect : Result) = .next t) : s.Leads t := by
  cases run
  exact h

/-- The takes and the waiting commands that follow an event. -/
theorem settleDown_leads : s.Leads s.afterJoins.runAll :=
  leads_trans (leads_aside (afterJoins_changes s) (by decide)) (runAll_leads _)

theorem locked_of_deadlineDue {r : Ref} (h : s.deadlineDue r = true) : (s.trackers.get r).mode = .locked := by
  simp only [State.deadlineDue, Bool.and_eq_true] at h
  obtain ⟨⟨⟨deadline, -⟩, -⟩, -⟩ := h
  exact ((deadlineTick_iff s r).1 deadline).1

theorem not_running_of_offerDue {g : Group} (h : s.offerDue g = true) : s.tests[g].isRunning = false := by
  unfold State.offerDue at h
  split at h
  · next offered => rw [offered]; rfl
  · cases h

theorem tick_changes : State.ChangesOnly [.now, .clock] s s.tick := by
  unfold State.tick
  split
  · exact changes_refl _ s
  · exact fun p hp => by cases p <;> first | exact (hp (by decide)).elim | exact rfl

/-- Every row but POWER_ON_RESET is made of moves. -/
theorem exec_leads {i : Instr} {t : State} (running : i ≠ .powerOnReset) (h : exec i s = .next t) : s.Leads t := by
  cases hf : i.frame with
  | some x =>
    rw [exec_of_frame s hf] at h
    exact next_leads s (clockIn_leads s _ _) h
  | none =>
    cases i with
    | powerOnReset => exact absurd rfl running
    | edgeAccepted r =>
      unfold exec execEdgeAccepted at h
      dsimp only at h
      split at h
      · exact whenDue_leads s (fun _ => leads_trans (acceptEdge_leads s r _) (settleDown_leads _)) h
      · exact next_leads s (leads_refl s) h
    | deadlineExpiry r =>
      exact whenDue_leads s (fun due => leads_trans (expireDeadline_leads s (locked_of_deadlineDue s due))
        (settleDown_leads _)) h
    | heldCycleEnd r => exact whenDue_leads s (fun _ => leads_trans (endHeldCycle_leads s r) (settleDown_leads _)) h
    | strobe r => exact whenDue_leads s (fun _ => nextStrobe_leads s r) h
    | sampleArrival c cycle slot analog =>
      unfold exec execSampleArrival at h
      dsimp only at h
      split at h
      · exact next_leads s (leads_trans (leads_aside (arriveSample_changes s c _ _) (by decide)) (settleDown_leads _)) h
      · exact next_leads s (leads_refl s) h
    | transformComplete e wrong =>
      unfold exec execTransformComplete at h
      dsimp only at h
      split at h
      · exact next_leads s (leads_trans (completeTransform_leads s e _ wrong) (runAll_leads _)) h
      · exact next_leads s (leads_refl s) h
    | stopInputChange asserted =>
      exact whenDue_leads s (fun _ => leads_aside (changeStop_changes s asserted) (by decide)) h
    | inServiceRise g => exact whenDue_leads s (fun _ => leads_of_moves (.breakerCloses g)) h
    | inServiceFall g => exact whenDue_leads s (fun _ => leads_of_moves (.breakerOpens g)) h
    | quietEnd g => exact whenDue_leads s (fun _ => leads_of_moves (.endQuiet g)) h
    | drainTimeout l =>
      exact whenDue_leads s (fun _ => leads_trans (leads_aside (endDrain_changes s l) (by decide)) (runAll_leads _)) h
    | acceptWindowExpiry => exact whenDue_leads s (fun _ => expireAccept_leads s) h
    | restoreWindowExpiry g => exact whenDue_leads s (fun _ => leads_aside (expireRestore_changes s g) (by decide)) h
    | offerWindowExpiry g => exact whenDue_leads s (fun due => endOffer_leads s (not_running_of_offerDue s due) _) h
    | testRunExpiry g => exact whenDue_leads s (fun _ => leads_of_moves (.endTest g _)) h
    | droppedFrame l => exact next_leads s (leads_aside (dropFrame_changes s l) (by decide)) h
    | transferOut l => exact next_leads s (leads_aside (transferOut_changes s l) (by decide)) h
    | replyRead l => exact next_leads s (leads_aside (readReply_changes s l) (by decide)) h
    | resume l => exact next_leads s (resumeLink_leads s l) h
    | linkReset l => exact next_leads s (resetLink_leads s l) h
    | syncInputSample r high =>
      exact whenDue_leads s (fun _ => leads_trans (leads_of_moves (.tracker r _ (by rfl)))
        (leads_aside (afterJoins_changes _) (by decide))) h
    | _ => cases hf

/-- What a step can do: the power-on reset, or a sequence of moves. -/
theorem step_leads {t : State} (h : step s = .next t) :
    s.pending.head? = some .powerOnReset ∧
      (∃ rest, t = { State.powerOn s.stopInput s.inService rest with choices := s.choices }) ∨
    s.pending.head? ≠ some .powerOnReset ∧ s.Leads t := by
  unfold step at h
  split at h
  · next empty => exact .inr ⟨by rw [empty]; nofun, next_leads s (leads_aside (tick_changes s) (by decide)) h⟩
  · next i rest waiting =>
    have pending : s.Leads { s with pending := rest } :=
      leads_of_moves (.aside fun p hp => by cases p <;> first | exact (hp (by decide)).elim | exact rfl)
    rw [waiting, List.head?_cons]
    by_cases reset : i = .powerOnReset
    · subst reset
      exact .inl ⟨rfl, rest, (Host.Outcome.next.inj h).symm⟩
    · exact .inr ⟨fun e => reset (Option.some.inj e), leads_trans pending (exec_leads _ reset h)⟩

/-- An invariant that the power-on reset brings about and every move keeps is kept by every step. -/
theorem step_keeps {P : State → Prop}
    (reset : ∀ stop inService pending choices, P { State.powerOn stop inService pending with choices := choices })
    (move : ∀ s t, s.Moves t → P s → P t) {t : State} (h : step s = .next t) (hs : P s) : P t := by
  obtain ⟨-, rest, rfl⟩ | ⟨-, leads⟩ := step_leads s h
  · exact reset _ _ _ _
  · exact leads_keeps move leads hs

end Sys2Proof.Machine
end

section
/-! SUPPORT. The plan store along a step (R134, R135, R138, R141): what a move makes of it, and that an item read from a
WRITE ENTRY stays within its ranges. -/

namespace Sys2Proof.Machine

variable {s t : State}

/-! ### Items within their ranges (R133, R134) -/

/-- The fields of a plan item are within their ranges. -/
def PlanItem.InRange : PlanItem → Prop
  | .check _ e => 1 ≤ e.order ∧ e.order ≤ 63 ∧ 1 ≤ e.persistence ∧ e.persistence ≤ 255 ∧ 1 ≤ e.release ∧
      e.release ≤ 255 ∧ e.tallyLimit ≤ 255
  | .channel _ x => x.basePriority ≤ 3 ∧ x.meanFloor ≤ 32767 ∧ x.fundFloor ≤ 65535
  | .group _ x => x.quietCode ≤ 255
  | .reference _ x => 1 ≤ x.filterLength ∧ x.filterLength ≤ 16 ∧ 1 ≤ x.holdLimit ∧ x.holdLimit ≤ 255
  | .global k gl => k ≤ 255 ∧ gl ≤ 3
  | .weights _ ws => ∀ w ∈ ws, w ≤ 4096

theorem clampTo_bounds {lo hi : Nat} (h : lo ≤ hi) (n : Nat) : lo ≤ clampTo lo hi n ∧ clampTo lo hi n ≤ hi := by
  unfold clampTo
  omega

theorem byte_toNat_le (b : Byte) : b.toNat ≤ 255 := Nat.lt_succ_iff.1 b.isLt

theorem half_toNat_le (h : Half) : h.toNat ≤ 65535 := Nat.lt_succ_iff.1 h.isLt

theorem checkItem_inRange {bytes : List Byte} {e : CheckEntry} {n : Nat} (i : CheckIx)
    (h : checkItem bytes = some (e, n)) : (PlanItem.check i e).InRange := by
  unfold checkItem at h
  split at h
  · split at h
    · cases h
      exact ⟨(clampTo_bounds (by decide) _).1, (clampTo_bounds (by decide) _).2, (clampTo_bounds (by decide) _).1,
        (clampTo_bounds (by decide) _).2, (clampTo_bounds (by decide) _).1, (clampTo_bounds (by decide) _).2,
        byte_toNat_le _⟩
    · cases h
  · cases h

theorem channelItem_inRange {bytes : List Byte} {x : ChannelSettings} {n : Nat} (c : Channel)
    (h : channelItem bytes = some (x, n)) : (PlanItem.channel c x).InRange := by
  unfold channelItem at h
  split at h
  · split at h
    · cases h
      exact ⟨(clampTo_bounds (by decide) _).2, (clampTo_bounds (by decide) _).2, half_toNat_le _⟩
    · cases h
  · cases h

theorem groupItem_inRange {bytes : List Byte} {x : GroupSettings} {n : Nat} (g : Group)
    (h : groupItem bytes = some (x, n)) : (PlanItem.group g x).InRange := by
  unfold groupItem at h
  split at h
  · split at h
    · cases h
      exact byte_toNat_le _
    · cases h
  · cases h

theorem referenceItem_inRange {bytes : List Byte} {x : RefSettings} {n : Nat} (r : Ref)
    (h : referenceItem bytes = some (x, n)) : (PlanItem.reference r x).InRange := by
  unfold referenceItem at h
  split at h
  · cases h
    exact ⟨(clampTo_bounds (by decide) _).1, (clampTo_bounds (by decide) _).2, (clampTo_bounds (by decide) _).1,
      (clampTo_bounds (by decide) _).2⟩
  · cases h

theorem globalItem_inRange {bytes : List Byte} {k gl n : Nat} (h : globalItem bytes = some ((k, gl), n)) :
    (PlanItem.global k gl).InRange := by
  unfold globalItem at h
  split at h
  · cases h
    exact ⟨byte_toNat_le _, (clampTo_bounds (by decide) _).2⟩
  · cases h

theorem weightsItem_inRange {bytes : List Byte} {b : Fin 8} {ws : List Nat} {n : Nat}
    (h : weightsItem b bytes = some (ws, n)) : (PlanItem.weights b ws).InRange := by
  unfold weightsItem at h
  split at h
  · cases h
    intro w hw
    obtain ⟨x, -, rfl⟩ := List.mem_map.1 hw
    exact (clampTo_bounds (by decide) x).2
  · cases h

/-- The item of a WRITE ENTRY is within its ranges once it is read (R134). -/
theorem readItem_inRange {kind number : Byte} {bytes : List Byte} {x : PlanItem} {n : Nat}
    (h : readItem kind number bytes = some (x, n)) : x.InRange := by
  unfold readItem at h
  split at h
  · split at h
    · next read => cases h; exact checkItem_inRange _ read
    · cases h
  · split at h
    · next read => cases h; exact channelItem_inRange _ read
    · cases h
  · split at h
    · next read => cases h; exact groupItem_inRange _ read
    · cases h
  · split at h
    · next read => cases h; exact referenceItem_inRange _ read
    · cases h
  · split at h
    · next read => cases h; exact globalItem_inRange read
    · cases h
  · split at h
    · split at h
      · next read => cases h; exact weightsItem_inRange read
      · cases h
    · cases h
  · cases h

/-- Other weights within their range in a plan within its ranges. -/
theorem weights_inRange {p : Plan} {ws : Vector Nat 63} (hp : p.InRange) (h : ∀ o : OrderIx, ws[o] ≤ 4096) :
    ({ p with weights := ws } : Plan).InRange :=
  ⟨hp.checks, hp.channels, hp.groups, hp.refs, hp.global, h⟩

theorem put_weights_le {p : Plan} {b : Fin 8} {ws : List Nat} {o : OrderIx} (old : p.weights[o] ≤ 4096)
    (new : (PlanItem.weights b ws).InRange) :
    (Vector.ofFn fun o : OrderIx =>
      if o.val / 8 = b.val then ws.getD (o.val % 8) p.weights[o] else p.weights[o])[o] ≤ 4096 := by
  rw [Fin.getElem_fin, Vector.getElem_ofFn]
  split
  · rw [List.getD_eq_getElem?_getD]
    cases hw : ws[o.val % 8]? with
    | none => exact old
    | some w => exact new w (List.mem_of_getElem? hw)
  · exact old

/-- Replacing one item by one within its ranges keeps a plan within its ranges. -/
theorem put_inRange {p : Plan} {x : PlanItem} (hp : p.InRange) (hx : x.InRange) : (p.put x).InRange := by
  obtain ⟨checks, channels, groups, refs, global, weights⟩ := hp
  cases x with
  | check i e =>
    refine ⟨fun j => ?_, channels, groups, refs, global, weights⟩
    simp only [Plan.put, vector_getElem_set]
    split
    · exact hx
    · exact checks j
  | channel c x =>
    refine ⟨checks, fun d => ?_, groups, refs, global, weights⟩
    simp only [Plan.put, vector_getElem_set]
    split
    · exact hx
    · exact channels d
  | group g x =>
    refine ⟨checks, channels, fun g' => ?_, refs, global, weights⟩
    simp only [Plan.put, vector_getElem_set]
    split
    · exact hx
    · exact groups g'
  | reference r x =>
    refine ⟨checks, channels, groups, fun r' => ?_, global, weights⟩
    simp only [Plan.put]
    by_cases same : r' = r
    · subst same
      rw [perRef_get_set_self]
      exact hx
    · rw [perRef_get_set_ne _ _ same]
      exact refs r'
  | global k gl => exact ⟨checks, channels, groups, refs, hx, weights⟩
  | weights b ws =>
    exact weights_inRange ⟨checks, channels, groups, refs, global, weights⟩ fun o => put_weights_le (weights o) hx

theorem default_inRange : Plan.default.InRange where
  checks i := by simp [Plan.default, CheckEntry.default]
  channels c := by simp [Plan.default]
  groups g := by simp [Plan.default]
  refs r := by cases r <;> simp [Plan.default, PerRef.get]
  global := by simp [Plan.default]
  weights o := by simp [Plan.default]

/-! ### What a move makes of the plan store -/

theorem activate_planStore (s : State) (l : Link) (p : Plan) (n : Half) :
    (s.activate l p n).planStore = { active := p, generation := n, staging := .empty } :=
  (activateBlocks_changes _ s.plan .planStore (by decide)).trans (raise_planStore _ _)

/-- A move leaves the plan store, changes its staging, or activates the sealed plan. -/
theorem moves_planStore (h : s.Moves t) : t.planStore = s.planStore ∨
    (∃ x, s.Restages x ∧ t.planStore = { s.planStore with staging := x }) ∨
    ∃ p n a, s.planStore.staging = .sealed p n a ∧
      t.planStore = { active := p, generation := n, staging := .empty } := by
  cases h with
  | aside h => exact .inl (h .planStore (by decide))
  | tracker => exact .inl rfl
  | lock r e n => exact .inl (lock_changes s r e n .planStore (by decide))
  | loseReference r => exact .inl (loseReference_changes s r .planStore (by decide))
  | countQuiet => exact .inl rfl
  | startQuiet g => exact .inl (startQuiet_changes s g .planStore (by decide))
  | endQuiet g => exact .inl (endQuiet_changes s g .planStore (by decide))
  | breakerOpens g => exact .inl (breakerOpens_changes s g .planStore (by decide))
  | breakerCloses g => exact .inl (breakerCloses_changes s g .planStore (by decide))
  | test => exact .inl rfl
  | startTest g n => exact .inl (startTest_changes s g n .planStore (by decide))
  | endTest g cause => exact .inl (endTest_changes s g cause .planStore (by decide))
  | evaluation c rec => exact .inl (evaluationEvent_changes s c rec .planStore (by decide))
  | clearLatch i => exact .inl (clearLatch_changes s i .planStore (by decide))
  | staging h => exact .inr (.inl ⟨_, h, rfl⟩)
  | activate l staging => exact .inr (.inr ⟨_, _, _, staging, activate_planStore s l _ _⟩)

/-! ### The plans within their ranges (R134) -/

theorem plansInRange_of_planStore {active : Plan} {generation : Half} {x : Staging}
    (store : t.planStore = { active := active, generation := generation, staging := x }) (hp : active.InRange)
    (hx : ∀ p, x.staged = some p → p.InRange) : t.PlansInRange := by
  unfold State.PlansInRange State.plan
  rw [store]
  exact ⟨hp, hx⟩

theorem restages_inRange {x : Staging} (h : s.Restages x) (hs : s.PlansInRange) {p : Plan}
    (staged : x.staged = some p) : p.InRange := by
  obtain ⟨active, stagedIn⟩ := hs
  cases h with
  | discards => cases staged
  | opens l => cases staged; exact active
  | writes l staging read =>
    cases staged
    exact put_inRange (stagedIn _ (by rw [staging]; rfl)) (readItem_inRange read)
  | seals staging valid => cases staged; exact stagedIn _ (by rw [staging]; rfl)
  | accepts staging => cases staged; exact stagedIn _ (by rw [staging]; rfl)

theorem moves_plansInRange (h : s.Moves t) (hs : s.PlansInRange) : t.PlansInRange := by
  obtain same | ⟨x, restages, store⟩ | ⟨p, n, a, staging, store⟩ := moves_planStore h
  · exact plansInRange_of_planStore same hs.1 hs.2
  · exact plansInRange_of_planStore store hs.1 fun p => restages_inRange restages hs
  · exact plansInRange_of_planStore store (hs.2 p (by rw [staging]; rfl)) nofun

theorem powerOn_plansInRange (stop : Bool) (inService : Vector Bool 4) (pending : List Instr) (choices : Nat) :
    ({ State.powerOn stop inService pending with choices := choices } : State).PlansInRange :=
  plansInRange_of_planStore rfl default_inRange nofun

/-! ### A sealed plan and the guard level (R135, R136, R138, R141) -/

/-- A plan that a seal has found without errors does not lower the guard level (R138, R139). -/
theorem guardLevel_le_of_valid {staged active : Plan} (valid : (staged.errors active).isEmpty = true) :
    active.guardLevel ≤ staged.guardLevel := by
  have none : staged.globalErrors active = [] := (List.append_eq_nil_iff.1 (List.isEmpty_iff.1 valid)).2
  by_contra lowered
  simp [Plan.globalErrors, found, Nat.lt_of_not_le lowered] at none

theorem restages_sealSound {x : Staging} (h : s.Restages x) (hs : s.SealSound) (same : t.plan = s.plan)
    (store : t.planStore = { s.planStore with staging := x }) : t.SealSound := by
  unfold State.SealSound
  rw [same, store]
  cases h with
  | discards => exact nofun
  | opens => exact nofun
  | writes => exact nofun
  | seals staging valid =>
    intro p n a h
    cases h
    exact ⟨rfl, guardLevel_le_of_valid valid, nofun⟩
  | accepts staging protection =>
    intro p n a h
    cases h
    obtain ⟨generation, guard, -⟩ := hs _ _ _ staging
    exact ⟨generation, guard, protection⟩

theorem moves_sealSound (h : s.Moves t) (hs : s.SealSound) : t.SealSound ∧ s.plan.guardLevel ≤ t.plan.guardLevel := by
  obtain same | ⟨x, restages, store⟩ | ⟨p, n, a, staging, store⟩ := moves_planStore h
  · unfold State.SealSound State.plan at hs ⊢
    rw [same]
    exact ⟨hs, le_refl _⟩
  · have plan : t.plan = s.plan := by rw [State.plan, store, State.plan]
    exact ⟨restages_sealSound restages hs plan store, by rw [plan]⟩
  · obtain ⟨-, guard, -⟩ := hs p n a staging
    unfold State.SealSound
    rw [State.plan, State.plan, store]
    exact ⟨nofun, guard⟩

/-- Along a sequence of moves the guard level never falls. -/
theorem leads_sealSound (h : s.Leads t) (hs : s.SealSound) : t.SealSound ∧ s.plan.guardLevel ≤ t.plan.guardLevel :=
  leads_keeps (P := fun u => u.SealSound ∧ s.plan.guardLevel ≤ u.plan.guardLevel)
    (fun _ _ move ⟨sound, guard⟩ => ⟨(moves_sealSound move sound).1, guard.trans (moves_sealSound move sound).2⟩) h
    ⟨hs, le_refl _⟩

/-- Settles O54: a step is the power-on reset or a sequence of moves, and each move keeps the plan store sound. -/
theorem plansStayInRange : Obligations.PlansStayInRange := by
  intro s t inRange sealSound run
  have plans : t.PlansInRange := step_keeps s powerOn_plansInRange (fun _ _ => moves_plansInRange) run inRange
  obtain ⟨reset, rest, rfl⟩ | ⟨-, leads⟩ := step_leads s run
  · exact ⟨plans, nofun, fun other => absurd reset other⟩
  · obtain ⟨sound, guard⟩ := leads_sealSound leads sealSound
    exact ⟨plans, sound, fun _ => guard⟩

end Sys2Proof.Machine
end

section
/-! SUPPORT. The check table along a step (R82, R83, R87 to R92, R97 to R100, R104, R145, R146, R158): what each event
of the evaluator leaves of a sound status, and that every move leaves the table sound under the causes it brings
about. -/

namespace Sys2Proof.Machine

/-! ### One check -/

section
variable {e : CheckEntry} {st : CheckStatus} {b : Bool}

/-- The last value of a check is no matter of its soundness. -/
theorem sound_with_last (h : st.Sound e b) (last : Option (Int × Word)) :
    ({ st with last := last } : CheckStatus).Sound e b :=
  ⟨h.off_iff, h.off_counts, h.rising, h.falling, h.steady, h.latched, h.below_limit, h.tally_le, h.suspended_iff⟩

/-- A check that is not enabled is OFF whatever its causes (R82). -/
theorem sound_of_disabled (h : st.Sound e b) (disabled : e.enabled = false) (b' : Bool) : st.Sound e b' :=
  { h with suspended_iff := fun on => absurd (disabled.symm.trans on) Bool.false_ne_true }

/-- An enabled check in a state without a run count, its tally below the limit. -/
theorem sound_of_steady (on : e.enabled = true) (state : st.state ∈ [CheckState.clear, .active, .suspended])
    (run : st.run = 0) (below : 1 ≤ e.tallyLimit → st.tally < e.tallyLimit) (tally : st.tally ≤ 255)
    (suspended : st.state = .suspended ↔ b = true) : st.Sound e b := by
  have ne : st.state ≠ .off ∧ st.state ≠ .rising ∧ st.state ≠ .falling ∧ st.state ≠ .latched := by
    refine ⟨?_, ?_, ?_, ?_⟩ <;>
    · intro h
      rw [h] at state
      exact absurd state (by decide)
  obtain ⟨off, rising, falling, latched⟩ := ne
  exact ⟨⟨fun h => absurd h off, fun h => absurd (h.symm.trans on) Bool.false_ne_true⟩, fun h => absurd h off,
    fun h => absurd h rising, fun h => absurd h falling, fun _ _ => run, fun h => absurd h latched,
    fun limit _ => below limit, tally, fun _ _ => suspended⟩

theorem enabled_of_ne_off (h : st.Sound e b) (on : st.state ≠ .off) : e.enabled = true := by
  rw [← Bool.not_eq_false]
  exact fun disabled => on (h.off_iff.2 disabled)

/-- CLEAR or SUSPENDED with tally 0, as R98 to R100 say of a check that is made anew. -/
theorem cleared_sound (on : e.enabled = true) (b : Bool) (st : CheckStatus) : (st.cleared b).Sound e b := by
  refine sound_of_steady on ?_ rfl (fun limit => limit) (Nat.zero_le _) ?_ <;> cases b <;> simp [CheckStatus.cleared]

theorem restart_sound (b : Bool) (st : CheckStatus) : (st.restart e.enabled b).Sound e b := by
  unfold CheckStatus.restart
  split
  · next on => exact sound_with_last (cleared_sound on b st) none
  · next off =>
    exact ⟨⟨fun _ => by simpa using off, fun _ => rfl⟩, fun _ => ⟨rfl, rfl⟩, nofun, nofun, fun _ _ => rfl, nofun,
      fun limit _ => limit, Nat.zero_le _, fun on => absurd on off⟩

/-- The examination of the causes of an enabled check (R98, R99). -/
theorem examine_sound (h : st.Sound e b) (on : e.enabled = true) (b' : Bool) : (st.examine b').Sound e b' := by
  have off : st.state ≠ .off := fun x => absurd ((h.off_iff.1 x).symm.trans on) Bool.false_ne_true
  have suspend : st.state ≠ .latched → ({ st with state := .suspended, run := 0 } : CheckStatus).Sound e true :=
    fun x => sound_of_steady on (.tail _ (.tail _ (.head _))) rfl (fun limit => h.below_limit limit x) h.tally_le
      (by simp)
  have running : st.state ≠ .latched → st.state ≠ .suspended → st.Sound e false := fun x y =>
    { h with suspended_iff := fun _ _ => by simp [y] }
  unfold CheckStatus.examine
  split
  case h_1 x | h_2 x | h_3 x | h_4 x =>
    cases b' with
    | true => exact suspend (by rw [x]; nofun)
    | false => exact running (by rw [x]; nofun) (by rw [x]; nofun)
  case h_5 x =>
    have unlatched : st.state ≠ .latched := by rw [x]; nofun
    cases b' with
    | true => exact { h with suspended_iff := fun _ _ => by simp [x] }
    | false => exact sound_of_steady on (.head _) rfl (fun limit => h.below_limit limit unlatched) h.tally_le (by simp)
  case h_6 x => exact absurd x off
  case h_7 x => exact { h with suspended_iff := fun _ y => absurd x y }

/-- With the causes as they were, an examination finds nothing to do. -/
theorem examine_eq_self (h : st.Sound e b) (on : e.enabled = true) : st.examine b = st := by
  have iff := h.suspended_iff on
  unfold CheckStatus.examine
  split
  case h_1 x | h_2 x | h_3 x | h_4 x =>
    rw [if_neg]
    rw [← iff (by rw [x]; nofun), x]
    nofun
  case h_5 x => exact if_pos ((iff (by rw [x]; nofun)).1 x)
  case h_6 | h_7 => rfl

theorem clearLatch_sound (h : st.Sound e b) : (st.clearLatch b).Sound e b := by
  unfold CheckStatus.clearLatch
  split
  · next latched => exact cleared_sound (enabled_of_ne_off h (by rw [latched]; nofun)) b st
  · next unlatched =>
    exact { h with
      off_counts := fun off => ⟨(h.off_counts off).1, rfl⟩
      latched := fun latched => absurd latched unlatched
      below_limit := fun limit _ => limit
      tally_le := Nat.zero_le _ }

/-- The entry to ACTIVE, which latches a check whose tally comes to its limit (R89). -/
theorem enterActive_sound (on : e.enabled = true) (limit : e.tallyLimit ≤ 255)
    (below : 1 ≤ e.tallyLimit → st.tally < e.tallyLimit) : (enterActive e st).Sound e false := by
  rw [enterActive_eq]
  by_cases latches : 1 ≤ e.tallyLimit ∧ min (st.tally + 1) 255 = e.tallyLimit
  · rw [if_pos latches]
    exact ⟨⟨nofun, fun off => absurd (off.symm.trans on) Bool.false_ne_true⟩, nofun, nofun, nofun, fun _ _ => rfl,
      fun _ => latches, fun _ x => absurd rfl x, by simp, fun _ x => absurd rfl x⟩
  · rw [if_neg latches]
    refine sound_of_steady on (by simp) rfl (fun some => ?_) (by simp) (by simp)
    have := below some
    dsimp only
    omega

/-- An evaluation keeps a check that is not SUSPENDED sound (R87 to R92). -/
theorem stepState_sound (h : st.Sound e b) (on : e.enabled = true) (unsuspended : st.state ≠ .suspended)
    (persistence : 1 ≤ e.persistence) (release : 1 ≤ e.release) (limit : e.tallyLimit ≤ 255) (present : Bool) :
    (stepState e present st).Sound e b := by
  have off : st.state ≠ .off := fun x => absurd ((h.off_iff.1 x).symm.trans on) Bool.false_ne_true
  by_cases latched : st.state = .latched
  · rw [stepState_of_latched latched]
    exact h
  obtain rfl : b = false := by
    rw [← Bool.not_eq_true, ← h.suspended_iff on latched]
    exact unsuspended
  have below := fun some => h.below_limit some latched
  have enters := enterActive_sound on limit below
  have clear : ({ st with state := .clear, run := 0 } : CheckStatus).Sound e false :=
    sound_of_steady on (by simp) rfl below h.tally_le (by simp)
  have counts : ∀ (x : CheckState) (n : Nat), x = .rising ∧ n < e.persistence ∨ x = .falling ∧ n < e.release → 1 ≤ n →
      ({ st with state := x, run := n } : CheckStatus).Sound e false := by
    rintro x n (⟨rfl, lt⟩ | ⟨rfl, lt⟩) pos
    · exact ⟨⟨nofun, fun x => absurd (x.symm.trans on) Bool.false_ne_true⟩, nofun, fun _ => ⟨pos, lt⟩, nofun,
        fun x => absurd rfl x, nofun, fun some _ => below some, h.tally_le, fun _ _ => by simp⟩
    · exact ⟨⟨nofun, fun x => absurd (x.symm.trans on) Bool.false_ne_true⟩, nofun, nofun, fun _ => ⟨pos, lt⟩,
        fun _ x => absurd rfl x, nofun, fun some _ => below some, h.tally_le, fun _ _ => by simp⟩
  cases state : st.state with
  | off => exact absurd state off
  | suspended => exact absurd state unsuspended
  | latched => exact absurd state latched
  | clear =>
    rw [stepState_of_clear state]
    repeat' split
    · exact enters
    · exact counts .rising 1 (.inl ⟨rfl, by omega⟩) (by decide)
    · exact h
  | rising =>
    obtain ⟨pos, lt⟩ := h.rising state
    rw [stepState_of_rising state]
    repeat' split
    · exact enters
    · have := counts st.state (st.run + 1) (.inl ⟨state, by omega⟩) (by omega)
      exact this
    · exact clear
  | active =>
    rw [stepState_of_active state]
    repeat' split
    · exact h
    · exact clear
    · exact counts .falling 1 (.inr ⟨rfl, by omega⟩) (by decide)
  | falling =>
    obtain ⟨pos, lt⟩ := h.falling state
    rw [stepState_of_falling state]
    repeat' split
    · exact sound_of_steady on (by simp) rfl below h.tally_le (by simp)
    · exact clear
    · have := counts st.state (st.run + 1) (.inr ⟨state, by omega⟩) (by omega)
      exact this

end

/-! ### The causes of a check (R96) -/

variable {s t u : State}

/-- The causes of a check are read from its group's input, test and quiet counter, its tracker's mode and the plan. -/
theorem suspends_eq_of_group {i : CheckIx} (plan : t.plan = s.plan)
    (breaker : t.breakerOpen (s.plan.checkGroup i) = s.breakerOpen (s.plan.checkGroup i))
    (lock : t.noLock (s.plan.checkGroup i) = s.noLock (s.plan.checkGroup i))
    (quiet : 0 < t.quiet[s.plan.checkGroup i] ↔ 0 < s.quiet[s.plan.checkGroup i]) : t.suspends i = s.suspends i := by
  simp only [State.suspends, State.quietHolds, plan, breaker, lock, quiet]

theorem breakerOpen_congr {g : Group} (inService : t.inService[g] = s.inService[g])
    (tests : t.tests[g].isRunning = s.tests[g].isRunning) : t.breakerOpen g = s.breakerOpen g := by
  simp only [State.breakerOpen, inService, tests]

theorem noLock_congr {g : Group} (plan : t.plan = s.plan)
    (mode : (t.trackers.get s.plan.groups[g].ref).mode = .seeking ↔
      (s.trackers.get s.plan.groups[g].ref).mode = .seeking) : t.noLock g = s.noLock g := by
  rw [Bool.eq_iff_iff]
  simp only [State.noLock, plan, beq_iff_eq]
  exact mode

/-- A change of other parts leaves the causes of every check. -/
theorem suspends_of_changes {A : List Part} (h : State.ChangesOnly A s t)
    (apart : ∀ p ∈ [Part.inService, .tests, .trackers, .planStore, .quiet], p ∉ A) (i : CheckIx) :
    t.suspends i = s.suspends i :=
  suspends_congr (h .inService (apart _ (by decide))) (h .tests (apart _ (by decide)))
    (h .trackers (apart _ (by decide))) (h .planStore (apart _ (by decide))) (h .quiet (apart _ (by decide))) i

theorem plan_of_changes {A : List Part} (h : State.ChangesOnly A s t) (apart : Part.planStore ∉ A) : t.plan = s.plan :=
  congrArg PlanStore.active (h .planStore apart)

/-! ### Sound check tables -/

theorem checksSound_congr (h : s.ChecksSound) (checks : t.checks = s.checks) (plan : t.plan = s.plan)
    (causes : ∀ i, t.suspends i = s.suspends i) : t.ChecksSound := by
  intro i
  rw [checks, plan, causes]
  exact h i

theorem checksSound_of_changes {A : List Part} (h : s.ChecksSound) (changes : State.ChangesOnly A s t)
    (apart : ∀ p ∈ [Part.checks, .inService, .tests, .trackers, .planStore, .quiet], p ∉ A) : t.ChecksSound :=
  checksSound_congr h (changes .checks (apart _ (by decide))) (plan_of_changes changes (apart _ (by decide)))
    (suspends_of_changes changes fun p hp => apart p (.tail _ hp))

/-- A new check table, handed on with its verdicts and notices, is sound when each entry is sound for the causes as they
stand. -/
theorem checksSound_of_table {new : CheckIx → CheckStatus} (changes : State.ChangesOnly verdictParts u t)
    (table : t.checks = Vector.ofFn new) (h : ∀ i : CheckIx, (new i).Sound u.plan.checks[i] (u.suspends i)) :
    t.ChecksSound := by
  intro i
  rw [plan_of_changes changes (by decide), suspends_of_changes changes (by decide), table]
  simpa using h i

theorem checkEvent_checksSound {new : CheckIx → CheckStatus} (forced : Group → Bool)
    (change : Group → Verdict → Verdict) (checkCycle : CheckIx → Word) (groupCycle : Group → Word)
    (h : ∀ i : CheckIx, (new i).Sound u.plan.checks[i] (u.suspends i)) :
    (u.checkEvent new forced change checkCycle groupCycle).ChecksSound :=
  checksSound_of_table (checkEvent_changes u _ _ _ _ _) (checkEvent_checks u _ _ _ _ _) h

theorem commitChecks_checks (s : State) (new : CheckIx → CheckStatus) (cycle : CheckIx → Word) :
    (s.commitChecks new cycle).checks = Vector.ofFn new := by
  obtain ⟨p, h⟩ := commitChecks_eq s new cycle
  rw [h]

/-- The state `u` has of `s` the check table, the plan, and the causes of all checks outside the groups in `sel`. -/
structure State.CausesMoved (s u : State) (sel : Group → Bool) : Prop where
  checks : u.checks = s.checks
  plan : u.plan = s.plan
  others : ∀ i, sel (s.plan.checkGroup i) = false → u.suspends i = s.suspends i

/-- A check outside the groups in `sel`, or not enabled, has nothing to take notice of. -/
theorem sound_of_not_selected {sel : Group → Bool} (h : s.ChecksSound) (moved : s.CausesMoved u sel) {i : CheckIx}
    (not : ¬(s.plan.checks[i].enabled && sel (s.plan.checkGroup i)) = true) :
    s.checks[i].Sound s.plan.checks[i] (u.suspends i) := by
  cases on : s.plan.checks[i].enabled with
  | false => exact sound_of_disabled (h i) on _
  | true =>
    have apart : sel (s.plan.checkGroup i) = false := by
      rw [on, Bool.true_and, Bool.not_eq_true] at not
      exact not
    rw [moved.others i apart]
    exact h i

theorem examined_sound {sel : Group → Bool} (h : s.ChecksSound) (moved : s.CausesMoved u sel) (i : CheckIx) :
    (u.examined sel i).Sound u.plan.checks[i] (u.suspends i) := by
  unfold State.examined
  rw [moved.checks, moved.plan]
  split
  · next on => exact examine_sound (h i) (Bool.and_eq_true_iff.1 on).1 _
  · next off => exact sound_of_not_selected h moved off

theorem resetChecks_sound {sel : Group → Bool} (h : s.ChecksSound) (moved : s.CausesMoved u sel) (i : CheckIx) :
    (u.resetChecks sel i).Sound u.plan.checks[i] (u.suspends i) := by
  unfold State.resetChecks
  rw [moved.checks, moved.plan]
  split
  · next on => exact cleared_sound (Bool.and_eq_true_iff.1 on).1 _ _
  · next off => exact sound_of_not_selected h moved off

theorem examineEvent_checksSound {sel : Group → Bool} (h : s.ChecksSound) (moved : s.CausesMoved u sel)
    (change : Group → Verdict → Verdict) : (u.examineEvent sel change).ChecksSound :=
  checkEvent_checksSound _ _ _ _ (examined_sound h moved)

/-! ### The events that move causes -/

/-- Causes moved in one group: elsewhere its input, test and quiet counter stay, and so do the modes of the trackers. -/
theorem causesMoved_of_group {g : Group} (checks : u.checks = s.checks) (plan : u.planStore = s.planStore)
    (trackers : u.trackers = s.trackers)
    (others : ∀ g' : Group, g' ≠ g → u.inService[g'] = s.inService[g'] ∧ u.tests[g'].isRunning = s.tests[g'].isRunning ∧
      u.quiet[g'] = s.quiet[g']) : s.CausesMoved u (fun g' => g' == g) where
  checks := checks
  plan := congrArg PlanStore.active plan
  others i apart := by
    obtain ⟨inService, tests, quiet⟩ := others (s.plan.checkGroup i) (by simpa using apart)
    have samePlan : u.plan = s.plan := congrArg PlanStore.active plan
    exact suspends_eq_of_group samePlan (breakerOpen_congr inService tests) (noLock_congr samePlan (by rw [trackers]))
      (by rw [quiet])

theorem loadQuiet_causesMoved (s : State) (g : Group) : s.CausesMoved (s.loadQuiet g) (fun g' => g' == g) :=
  causesMoved_of_group rfl rfl rfl fun _ ne => ⟨rfl, rfl, vector_getElem_set_ne _ ne _⟩

theorem breakerClosed_causesMoved (s : State) (g : Group) : s.CausesMoved (s.breakerClosed g) (fun g' => g' == g) :=
  causesMoved_of_group rfl rfl rfl fun _ ne => ⟨vector_getElem_set_ne _ ne _, rfl, vector_getElem_set_ne _ ne _⟩

theorem closeTest_causesMoved {g : Group} (moved : s.CausesMoved u (fun g' => g' == g)) (cause : TestCause) :
    s.CausesMoved (u.closeTest g cause) (fun g' => g' == g) := by
  have changes := closeTest_changes u g cause
  have tests : (u.closeTest g cause).tests = u.tests.set g .idle := rfl
  have own : u.CausesMoved (u.closeTest g cause) (fun g' => g' == g) :=
    causesMoved_of_group (changes .checks (by decide)) (changes .planStore (by decide)) (changes .trackers (by decide))
      fun g' ne => ⟨by rw [show (u.closeTest g cause).inService = u.inService from changes .inService (by decide)],
        by rw [tests, vector_getElem_set_ne _ ne],
        by rw [show (u.closeTest g cause).quiet = u.quiet from changes .quiet (by decide)]⟩
  exact ⟨own.checks.trans moved.checks, own.plan.trans moved.plan, fun i apart =>
    (own.others i (by rw [moved.plan]; exact apart)).trans (moved.others i apart)⟩

theorem causesMoved_refl (s : State) (sel : Group → Bool) : s.CausesMoved s sel := ⟨rfl, rfl, fun _ _ => rfl⟩

theorem startQuiet_checksSound (h : s.ChecksSound) (g : Group) : (s.startQuiet g).ChecksSound :=
  examineEvent_checksSound h (loadQuiet_causesMoved s g) _

/-- The state in which the causes are examined once a quiet counter has made its last decrement (R102). -/
def State.quietCounted (s : State) (g : Group) : State :=
  { s with quiet := s.quiet.set g (s.quiet[g] - 1), quietEndDue := s.quietEndDue.set g false }

theorem quietCounted_causesMoved (s : State) (g : Group) : s.CausesMoved (s.quietCounted g) (fun g' => g' == g) :=
  causesMoved_of_group rfl rfl rfl fun _ ne => ⟨rfl, rfl, vector_getElem_set_ne _ ne _⟩

theorem endQuiet_checksSound (h : s.ChecksSound) (g : Group) : (s.endQuiet g).ChecksSound :=
  examineEvent_checksSound h (quietCounted_causesMoved s g) _

/-- The state in which the causes are examined once an in-service input has fallen (R123). -/
def State.breakerOpened (s : State) (g : Group) : State := { s with inService := s.inService.set g false }

theorem breakerOpened_causesMoved (s : State) (g : Group) : s.CausesMoved (s.breakerOpened g) (fun g' => g' == g) :=
  causesMoved_of_group rfl rfl rfl fun _ ne => ⟨vector_getElem_set_ne _ ne _, rfl, rfl⟩

theorem breakerOpens_checksSound (h : s.ChecksSound) (g : Group) : (s.breakerOpens g).ChecksSound :=
  examineEvent_checksSound h (breakerOpened_causesMoved s g) _

/-- The state in which the causes are examined once a test has started (R153). -/
def State.testStarted (s : State) (g : Group) (seconds : Nat) : State :=
  (s.setTest g (.running (s.clock + BitVec.ofNat 32 (seconds * 1000)))).raiseTest g .offered .running
    (.duration seconds)

theorem testStarted_causesMoved (s : State) (g : Group) (seconds : Nat) :
    s.CausesMoved (s.testStarted g seconds) (fun g' => g' == g) :=
  causesMoved_of_group rfl rfl rfl fun _ ne =>
    ⟨rfl, congrArg TestState.isRunning (vector_getElem_set_ne s.tests ne _), rfl⟩

theorem startTest_checksSound (h : s.ChecksSound) (g : Group) (seconds : Nat) : (s.startTest g seconds).ChecksSound :=
  examineEvent_checksSound h (testStarted_causesMoved s g seconds) _

/-- The end of a test of a group, in the state that an event at the group has brought about. -/
theorem endTest_checksSound {g : Group} (h : s.ChecksSound) (moved : s.CausesMoved u (fun g' => g' == g))
    (cause : TestCause) : (u.endTest g cause).ChecksSound :=
  checkEvent_checksSound _ _ _ _ (resetChecks_sound h (closeTest_causesMoved moved cause))

theorem breakerCloses_checksSound (h : s.ChecksSound) (g : Group) : (s.breakerCloses g).ChecksSound := by
  have moved := breakerClosed_causesMoved s g
  by_cases running : s.tests[g].isRunning = true
  · rw [breakerCloses_of_running running]
    exact endTest_checksSound h moved _
  · have examines : s.breakerCloses g = (s.breakerClosed g).examineEvent (fun g' => g' == g) (fun _ v => v) :=
      if_neg running
    rw [examines]
    exact examineEvent_checksSound h moved _

/-! ### The trackers and the quiet counters (R96, R97, R102) -/

/-- The countdown at a cycle start leaves no counter at 0 that was not there: the last decrement is QUIET_END's. -/
theorem countQuiet_pos (s : State) (r : Ref) (g : Group) : 0 < (s.countQuiet r).quiet[g] ↔ 0 < s.quiet[g] := by
  have counter : (s.countQuiet r).quiet[g] =
      if s.plan.groups[g].ref = r ∧ 1 < s.quiet[g] then s.quiet[g] - 1 else s.quiet[g] := by simp [State.countQuiet]
  rw [counter]
  split
  · next h => omega
  · rfl

/-- Causes moved by a tracker's entering or leaving SEEKING: those of the groups on its reference (R97). -/
theorem causesMoved_of_tracker {r : Ref} (checks : u.checks = s.checks) (plan : u.planStore = s.planStore)
    (tests : u.tests = s.tests) (inService : u.inService = s.inService)
    (quiet : ∀ g : Group, 0 < u.quiet[g] ↔ 0 < s.quiet[g])
    (others : ∀ r', r' ≠ r → u.trackers.get r' = s.trackers.get r') :
    s.CausesMoved u (fun g => u.plan.groups[g].ref == r) where
  checks := checks
  plan := congrArg PlanStore.active plan
  others i apart := by
    have samePlan : u.plan = s.plan := congrArg PlanStore.active plan
    have ne : s.plan.groups[s.plan.checkGroup i].ref ≠ r := by simpa [samePlan] using apart
    exact suspends_eq_of_group samePlan (breakerOpen_congr (by rw [inService]) (by rw [tests]))
      (noLock_congr samePlan (by rw [others _ ne])) (quiet _)

/-- The state in which the causes are examined once a tracker has locked (R6). -/
def State.locked (s : State) (r : Ref) (e : Tick) (interval : Nat) : State :=
  (s.enterLocked r e interval).raiseSync r .seeking .locked

theorem locked_causesMoved (s : State) (r : Ref) (e : Tick) (interval : Nat) :
    s.CausesMoved (s.locked r e interval) (fun g => (s.locked r e interval).plan.groups[g].ref == r) :=
  causesMoved_of_tracker rfl rfl rfl rfl (countQuiet_pos s r) fun _ ne =>
    (perRef_get_set_ne _ _ ne).trans (perRef_get_set_ne _ _ ne)

theorem lock_checksSound (h : s.ChecksSound) (r : Ref) (e : Tick) (interval : Nat) :
    (s.lock r e interval).ChecksSound := examineEvent_checksSound h (locked_causesMoved s r e interval) _

/-- The state in which the causes are examined once a reference is lost (R10). -/
def State.lost (s : State) (r : Ref) : State :=
  (s.setTracker r { s.trackers.get r with
    mode := .seeking, heldCount := 0, start := none, deadline := none, nextStrobe := none,
    counters := { (s.trackers.get r).counters with losses := bump16 (s.trackers.get r).counters.losses } }).raiseSync r
    .holding .seeking

theorem lost_causesMoved (s : State) (r : Ref) :
    s.CausesMoved (s.lost r) (fun g => (s.lost r).plan.groups[g].ref == r) :=
  causesMoved_of_tracker rfl rfl rfl rfl (fun _ => Iff.rfl) fun _ ne => perRef_get_set_ne _ _ ne

theorem loseReference_checksSound (h : s.ChecksSound) (r : Ref) : (s.loseReference r).ChecksSound :=
  examineEvent_checksSound h (lost_causesMoved s r) _

theorem setTracker_checksSound (h : s.ChecksSound) {r : Ref} {x : Tracker}
    (mode : x.mode = .seeking ↔ (s.trackers.get r).mode = .seeking) : (s.setTracker r x).ChecksSound := by
  refine checksSound_congr h rfl rfl fun i => suspends_eq_of_group rfl rfl (noLock_congr rfl ?_) Iff.rfl
  rw [setTracker_trackers]
  by_cases own : s.plan.groups[s.plan.checkGroup i].ref = r
  · rw [own, perRef_get_set_self]
    exact mode
  · rw [perRef_get_set_ne _ _ own]

theorem countQuiet_checksSound (h : s.ChecksSound) (r : Ref) : (s.countQuiet r).ChecksSound :=
  checksSound_congr h rfl rfl fun _ => suspends_eq_of_group rfl rfl rfl (countQuiet_pos s r _)

theorem setTest_checksSound (h : s.ChecksSound) {g : Group} {x : TestState}
    (running : x.isRunning = s.tests[g].isRunning) : (s.setTest g x).ChecksSound := by
  refine checksSound_congr h rfl rfl fun i => suspends_eq_of_group rfl (breakerOpen_congr rfl ?_) rfl Iff.rfl
  rw [show (s.setTest g x).tests = s.tests.set g x from rfl, vector_getElem_set]
  split
  · next own => rw [own, running]
  · rfl

/-! ### Evaluations and CLEAR LATCH (R84 to R92, R104) -/

theorem evaluated_sound (h : s.ChecksSound) (range : s.plan.InRange) (c : Channel) (rec : ResultRecord) (i : CheckIx) :
    (s.evaluated c rec i).Sound s.plan.checks[i] (s.suspends i) := by
  obtain ⟨-, -, persistence, -, release, -, limit⟩ := range.checks i
  unfold State.evaluated
  dsimp only
  split
  · next concerned =>
    obtain ⟨concerns, unsuspended⟩ := Bool.and_eq_true_iff.1 concerned
    have on : s.plan.checks[i].enabled = true := (Bool.and_eq_true_iff.1 concerns).1
    split
    · exact sound_with_last
        (stepState_sound (h i) on (bne_iff_ne.1 unsuspended) persistence release limit _) _
    · exact h i
  · exact h i

theorem evaluationEvent_checksSound (h : s.ChecksSound) (range : s.plan.InRange) (c : Channel) (rec : ResultRecord) :
    (s.evaluationEvent c rec).ChecksSound := checkEvent_checksSound _ _ _ _ (evaluated_sound h range c rec)

/-- The check table that CLEAR LATCH of check `i` hands on (R104). -/
def State.latchCleared (s : State) (i j : CheckIx) : CheckStatus :=
  if j = i then s.checks[j].clearLatch (s.suspends j) else s.checks[j]

theorem clearLatch_eq (s : State) (i : CheckIx) :
    s.clearLatch i = s.causeEvent (s.latchCleared i) (fun _ => false) (fun _ v => v) := rfl

theorem clearLatch_checksSound (h : s.ChecksSound) (i : CheckIx) : (s.clearLatch i).ChecksSound := by
  rw [clearLatch_eq]
  refine checkEvent_checksSound _ _ _ _ fun j => ?_
  unfold State.latchCleared
  split
  · exact clearLatch_sound (h j)
  · exact h j

/-! ### Activation (R145, R146, R157, R158) -/

/-- A check that does not restart has the entry it had. -/
theorem entry_of_not_restarts {old new : Plan} {i : CheckIx} (h : ¬old.restarts new i = true) :
    new.checks[i] = old.checks[i] := by
  simp only [Plan.restarts, Bool.or_eq_true, bne_iff_ne, not_or, not_not] at h
  obtain ⟨⟨⟨⟨entry, -⟩, -⟩, -⟩, -⟩ := h
  exact entry.symm

theorem activated_sound {old : Plan} (checks : u.checks = s.checks) (plan : s.plan = old) (h : s.ChecksSound)
    (i : CheckIx) : (u.activated old i).Sound u.plan.checks[i] (u.suspends i) := by
  subst plan
  unfold State.activated
  split
  · exact restart_sound _ _
  · next same =>
    have entry := entry_of_not_restarts same
    unfold State.examined
    rw [checks, entry]
    split
    · next on => exact examine_sound (h i) (Bool.and_eq_true_iff.1 on).1 _
    · next off => exact sound_of_disabled (h i) (by simpa using off) _

theorem closeTestByPlan_checksSound (h : s.ChecksSound) (g : Group) : (s.closeTestByPlan g).ChecksSound :=
  checksSound_of_table (u := s.closeTest g .plan) (changes_mono (commitChecks_changes _ _ _) (by decide))
    (commitChecks_checks _ _ _) (resetChecks_sound h (closeTest_causesMoved (causesMoved_refl s _) .plan))

theorem closeTestsByPlan_checksSound (gs : List Group) :
    ∀ s : State, s.ChecksSound → (gs.foldl State.closeTestByPlan s).ChecksSound := by
  induction gs with
  | nil => exact fun _ h => h
  | cons g gs ih => exact fun s h => ih _ (closeTestByPlan_checksSound h g)

/-- The parts that an activation changes while the channels act. -/
abbrev channelParts : List Part := removeParts ++ [.converters, .records]

/-- What an activation does to the channels, whose checks it leaves to the evaluator. -/
theorem activateChannels_changes (old : Plan) (cs : List Channel) (s : State) :
    State.ChangesOnly channelParts s (cs.foldl (State.activateChannel old) s) := by
  refine changes_foldl _ (fun s c => ?_) cs s
  have empty : State.ChangesOnly channelParts s (s.emptyChannel c) := emptyChannel_changes s c
  have disarm : ∀ u : State, State.ChangesOnly channelParts u (u.disarm c) := fun u =>
    changes_mono (setConverter_changes u c _) (by decide)
  have advance : State.ChangesOnly channelParts s (s.advanceEpoch c) :=
    changes_mono (setBuffers_changes s c _) (by decide)
  unfold State.activateChannel
  split
  · exact changes_refl _ s
  · exact changes_trans advance (disarm _)
  · exact changes_trans empty (disarm _)
  · split
    · exact empty
    · exact changes_trans empty (disarm _)

/-- The state in which an activation restarts and examines the checks: the plans are swapped and the channels have
acted. -/
def State.swapped (s : State) (l : Link) (p : Plan) (n : Half) : State :=
  (List.finRange 16).foldl (State.activateChannel s.plan)
    (({ s with planStore := { active := p, generation := n, staging := .empty } } : State).raisePlan (some l) .sealed
      .activated n)

theorem swapped_changes (s : State) (l : Link) (p : Plan) (n : Half) :
    State.ChangesOnly (channelParts ++ [.planStore]) s (s.swapped l p n) :=
  changes_trans (changes_trans (changes_mono (with_planStore s _) (by decide))
    (changes_mono (raisePlan_changes _ _ _ _ _) (by decide)))
    (changes_mono (activateChannels_changes s.plan _ _) (by decide))

/-- The state once the checks have restarted and their causes have been examined. -/
def State.restarted (s : State) (l : Link) (p : Plan) (n : Half) : State :=
  let u := s.swapped l p n
  u.commitChecks (u.activated s.plan) (fun i => u.groupCycle (u.plan.checkGroup i))

theorem restarted_checksSound (h : s.ChecksSound) (l : Link) (p : Plan) (n : Half) :
    (s.restarted l p n).ChecksSound :=
  checksSound_of_table (u := s.swapped l p n) (changes_mono (commitChecks_changes _ _ _) (by decide))
    (commitChecks_checks _ _ _) (activated_sound (swapped_changes s l p n .checks (by decide)) rfl h)

/-- The state once the tests that the activation ends have ended. -/
def State.testsClosed (s : State) (l : Link) (p : Plan) (n : Half) : State :=
  ((List.finRange 4).filter (s.restarted l p n).planEndsTest).foldl State.closeTestByPlan (s.restarted l p n)

theorem activate_eq (s : State) (l : Link) (p : Plan) (n : Half) : s.activate l p n =
    (s.testsClosed l p n).returnSources.activateVerdicts (s.restarted l p n).planEndsTest := rfl

/-- What follows the last change of a check at an activation. -/
theorem activate_changes_of_testsClosed (s : State) (l : Link) (p : Plan) (n : Half) :
    State.ChangesOnly [.sources, .verdicts, .ports, .alert] (s.testsClosed l p n) (s.activate l p n) :=
  changes_comp _ (returnSources_changes _) (activateVerdicts_changes _ _) (by decide) (by decide)

theorem activate_checksSound (h : s.ChecksSound) (l : Link) (p : Plan) (n : Half) :
    (s.activate l p n).ChecksSound :=
  checksSound_of_changes (closeTestsByPlan_checksSound _ _ (restarted_checksSound h l p n))
    (activate_changes_of_testsClosed s l p n) (by decide)

/-! ### Every step -/

theorem moves_checksSound (move : s.Moves t) (range : s.plan.InRange) (h : s.ChecksSound) : t.ChecksSound := by
  cases move with
  | aside changes => exact checksSound_of_changes h changes (by decide)
  | tracker r x mode => exact setTracker_checksSound h mode
  | lock r e n => exact lock_checksSound h r e n
  | loseReference r => exact loseReference_checksSound h r
  | countQuiet r => exact countQuiet_checksSound h r
  | startQuiet g => exact startQuiet_checksSound h g
  | endQuiet g => exact endQuiet_checksSound h g
  | breakerOpens g => exact breakerOpens_checksSound h g
  | breakerCloses g => exact breakerCloses_checksSound h g
  | test g x running => exact setTest_checksSound h running
  | startTest g n => exact startTest_checksSound h g n
  | endTest g cause => exact endTest_checksSound h (causesMoved_refl s _) cause
  | evaluation c rec => exact evaluationEvent_checksSound h range c rec
  | clearLatch i => exact clearLatch_checksSound h i
  | staging => exact checksSound_congr h rfl rfl fun _ => rfl
  | activate l => exact activate_checksSound h l _ _

theorem powerOn_checksSound (stop : Bool) (inService : Vector Bool 4) (pending : List Instr) (choices : Nat) :
    ({ State.powerOn stop inService pending with choices := choices } : State).ChecksSound := by
  intro i
  have status : (State.powerOn stop inService pending).checks[i] =
      { state := .off, run := 0, tally := 0, last := none } := by simp [State.powerOn]
  have entry : (State.powerOn stop inService pending).plan.checks[i].enabled = false := by
    simp [State.powerOn, State.plan, Plan.default, CheckEntry.default]
  have off := restart_sound (e := (State.powerOn stop inService pending).plan.checks[i])
    (({ State.powerOn stop inService pending with choices := choices } : State).suspends i)
    (State.powerOn stop inService pending).checks[i]
  rw [CheckStatus.restart, entry, if_neg Bool.false_ne_true, ← status] at off
  exact off

/-- Settles O57: a step is the power-on reset or a sequence of moves, and each move keeps the check table sound as long
as the plans are within their ranges, which they stay. -/
theorem checksStaySound : Obligations.ChecksStaySound := fun s _ inRange sound run =>
  (step_keeps s (P := fun u => u.PlansInRange ∧ u.ChecksSound)
    (fun stop inService pending choices =>
      ⟨powerOn_plansInRange stop inService pending choices, powerOn_checksSound stop inService pending choices⟩)
    (fun _ _ move ⟨plans, checks⟩ => ⟨moves_plansInRange move plans, moves_checksSound move plans.1 checks⟩)
    run ⟨inRange, sound⟩).2

end Sys2Proof.Machine
end

section
/-! SUPPORT. The events of the evaluator that are no evaluation (R97 to R104, R123): CLEAR LATCH, the quiet counters and
the edges of an in-service input, with the verdicts that follow and the notices. -/

namespace Sys2Proof.Machine

variable {s u : State}

/-! ### One event of the evaluator after a change of its own -/

/-- The parts that an event changes before the causes are examined: those that causes are read from. -/
abbrev causeParts : List Part := [.inService, .quiet, .quietEndDue]

/-- The notices of the event: CHECK, then PERMIT, each with the present cycle number of its group's reference (R105,
R125; log entry 15). -/
theorem causeEvent_ports_get (before : State.ChangesOnly causeParts s u) (new : CheckIx → CheckStatus)
    (forced : Group → Bool) (change : Group → Verdict → Verdict) (l : Link) :
    let t := u.causeEvent new forced change
    t.ports.get l = (s.ports.get l).offerAll s.clock
      (s.checkNotices t t.groupCycle ++ s.permitNotices t t.groupCycle) := by
  intro t
  have later : State.ChangesOnly verdictParts u t := causeEvent_changes u new forced change
  have cycle : t.groupCycle = u.groupCycle :=
    groupCycle_congr (later .trackers (by decide)) (later .planStore (by decide))
  have ports : u.ports = s.ports := before .ports (by decide)
  have clock : u.clock = s.clock := before .clock (by decide)
  have checks := checkNotices_congr (before .checks (by decide)) rfl (t := t) rfl u.groupCycle
  have permits := permitNotices_congr (before .verdicts (by decide)) rfl (t := t) u.groupCycle
  rw [cycle, ← checks, ← permits, ← ports, ← clock]
  exact checkEvent_ports_get u new forced change _ _ l

theorem causeEvent_verdictsSet (before : State.ChangesOnly causeParts s u) (new : CheckIx → CheckStatus)
    (forced : Group → Bool) (change : Group → Verdict → Verdict) :
    s.VerdictsSet (u.causeEvent new forced change) forced change :=
  verdictsSet_congr (checkEvent_verdictsSet u new forced change _ _) (plan_of_changes before (by decide)).symm
    (before .checks (by decide)).symm (before .verdicts (by decide)).symm (before .alert (by decide)).symm
    rfl rfl rfl rfl rfl

theorem examineEvent_causesExamined (before : State.ChangesOnly causeParts s u) (sel : Group → Bool)
    (change : Group → Verdict → Verdict) : s.CausesExaminedOn (u.examineEvent sel change) sel := by
  intro i
  have table : (u.examineEvent sel change).checks[i] = u.examined sel i := by
    rw [show (u.examineEvent sel change).checks = _ from checkEvent_checks u _ _ _ _ _]
    simp
  have causes : (u.examineEvent sel change).suspends i = u.suspends i :=
    suspends_of_changes (examineEvent_changes u sel change) (by decide) i
  have plan : u.plan = s.plan := plan_of_changes before (by decide)
  have checks : u.checks = s.checks := before .checks (by decide)
  rw [table, causes, State.examined, plan, checks]
  simp only [Bool.and_eq_true, CheckStatus.examine]
  cases s.checks[i].state <;> rfl

theorem examineEvent_ports_get (before : State.ChangesOnly causeParts s u) (sel : Group → Bool)
    (change : Group → Verdict → Verdict) (l : Link) :
    let t := u.examineEvent sel change
    t.ports.get l = (s.ports.get l).offerAll s.clock
      (s.checkNotices t t.groupCycle ++ s.permitNotices t t.groupCycle) :=
  causeEvent_ports_get before _ _ _ l

theorem examineEvent_verdictsSet (before : State.ChangesOnly causeParts s u) (sel : Group → Bool)
    (change : Group → Verdict → Verdict) : s.VerdictsSet (u.examineEvent sel change) (fun _ => false) change :=
  causeEvent_verdictsSet before _ _ _

/-! ### CLEAR LATCH (R104) -/

theorem clearLatch_checks (s : State) (i : CheckIx) :
    (s.clearLatch i).checks = s.checks.set i (s.checks[i].clearLatch (s.suspends i)) := by
  have table : (s.clearLatch i).checks = Vector.ofFn (s.latchCleared i) := by
    rw [clearLatch_eq]
    exact checkEvent_checks s _ _ _ _ _
  refine Vector.ext fun j hj => ?_
  have entry := vector_getElem_set s.checks i ⟨j, hj⟩ (s.checks[i].clearLatch (s.suspends i))
  simp only [table, Vector.getElem_ofFn]
  refine Eq.trans ?_ entry.symm
  unfold State.latchCleared
  split
  · next same => rw [same]
  · rfl

/-- Settles O22: CLEAR LATCH is one event of the evaluator at one check. -/
theorem clearLatchActs : Obligations.ClearLatchActs := by
  intro l tag check i s ready other hi
  have unmoved := changes_refl causeParts s
  have ports := causeEvent_ports_get unmoved (s.latchCleared i) (fun _ => false) (fun _ v => v)
  refine ⟨s.clearLatch i, ?_, clearLatch_checks s i, causeEvent_verdictsSet unmoved _ _ _, raised_of_offerAll ports,
    clearLatch_changes s i⟩
  exact exec_answered (c := .clearLatch check) (a := ⟨s.clearLatch i, .ok, []⟩) ready rfl rfl rfl (bne_iff_ne.2 other)
    nofun (by simp only [State.runCommand, runClearLatch, hi]) (calm_of_offerAll ready.1 ports)

/-! ### The quiet counters (R101 to R103) -/

theorem loadQuiet_causeParts (s : State) (g : Group) : State.ChangesOnly causeParts s (s.loadQuiet g) :=
  changes_mono (loadQuiet_changes s g) (by decide)

theorem quietCounted_causeParts (s : State) (g : Group) : State.ChangesOnly causeParts s (s.quietCounted g) :=
  fun p hp => by cases p <;> first | exact (hp (by decide)).elim | exact rfl

theorem quietEnd_quiet {s : State} {g : Group} (last : s.quiet[g] = 1) : (s.endQuiet g).quiet = s.quiet.set g 0 := by
  have counted : (s.endQuiet g).quiet = s.quiet.set g (s.quiet[g] - 1) :=
    examineEvent_changes (s.quietCounted g) _ _ .quiet (by decide)
  rw [counted, last]

/-- The counter that START QUIET loads (R101, R103). -/
theorem startQuiet_quiet (s : State) (g : Group) :
    (s.startQuiet g).quiet = s.quiet.set g (quietLoad s.plan.groups[g].quietCode) :=
  examineEvent_changes (s.loadQuiet g) _ _ .quiet (by decide)

/-- Settles O23: each counter is moved, and the causes of its group's checks are examined. -/
theorem quietCounters : Obligations.QuietCounters := by
  refine ⟨fun l tag group g s ready other hg => ?_, fun g s due last => ?_⟩
  · have before := loadQuiet_causeParts s g
    have ports := examineEvent_ports_get before (fun g' => g' == g) (fun _ v => v)
    refine ⟨s.startQuiet g, ?_, startQuiet_quiet s g, examineEvent_causesExamined before _ _,
      examineEvent_verdictsSet before _ _, raised_of_offerAll ports, changes_mono (startQuiet_changes s g) (by decide)⟩
    exact exec_answered (c := .startQuiet group) (a := ⟨s.startQuiet g, .ok, []⟩) ready rfl rfl rfl (bne_iff_ne.2 other)
      nofun (by simp only [State.runCommand, runStartQuiet, hg]) (calm_of_offerAll ready.1 ports)
  · have before := quietCounted_causeParts s g
    exact ⟨s.endQuiet g, congrArg Host.Outcome.next (if_pos due), quietEnd_quiet last,
      examineEvent_causesExamined before _ _, examineEvent_verdictsSet before _ _,
      raised_of_offerAll (examineEvent_ports_get before _ _), changes_mono (endQuiet_changes s g) (by decide)⟩

/-! ### The in-service inputs (R97, R123) -/

theorem breakerOpened_causeParts (s : State) (g : Group) : State.ChangesOnly causeParts s (s.breakerOpened g) :=
  changes_mono (with_inService s _) (by decide)

theorem breakerClosed_causeParts (s : State) (g : Group) : State.ChangesOnly causeParts s (s.breakerClosed g) :=
  changes_comp _ (with_inService s _) (loadQuiet_changes _ g) (by decide) (by decide)

theorem breakerCloses_of_not_running {s : State} {g : Group} (h : s.tests[g].isRunning = false) :
    s.breakerCloses g = (s.breakerClosed g).examineEvent (fun g' => g' == g) (fun _ v => v) :=
  if_neg (Bool.not_eq_true _ ▸ h)

/-- Settles O24: each edge moves the input, a rise the quiet counter with it, and the causes of the group's checks are
examined. -/
theorem inServiceInputs : Obligations.InServiceInputs := by
  refine ⟨fun g s low idle => ?_, fun g s high => ?_⟩
  · have before := breakerClosed_causeParts s g
    have later := examineEvent_changes (s.breakerClosed g) (fun g' => g' == g) (fun _ v => v)
    have exec : exec (.inServiceRise g) s =
        .next ((s.breakerClosed g).examineEvent (fun g' => g' == g) (fun _ v => v)) := by
      rw [← breakerCloses_of_not_running idle]
      exact congrArg Host.Outcome.next (if_pos (by simp [low]))
    exact ⟨_, exec, later .inService (by decide), later .quiet (by decide), examineEvent_causesExamined before _ _,
      examineEvent_verdictsSet before _ _, raised_of_offerAll (examineEvent_ports_get before _ _),
      changes_comp _ before later (by decide) (by decide)⟩
  · have before := breakerOpened_causeParts s g
    have later := examineEvent_changes (s.breakerOpened g) (fun g' => g' == g) (fun _ v => v)
    exact ⟨s.breakerOpens g, congrArg Host.Outcome.next (if_pos high), later .inService (by decide),
      examineEvent_causesExamined before _ _, examineEvent_verdictsSet before _ _,
      raised_of_offerAll (examineEvent_ports_get before _ _), changes_mono (breakerOpens_changes s g) (by decide)⟩

end Sys2Proof.Machine
end

section
/-! SUPPORT. The checks at an activation (R145, R146, R157, R158): which of them restart, what the tests that the
activation ends make of the others, and the command of the second accept. -/

namespace Sys2Proof.Machine

variable {s t u : State}

/-! ### The commands that wait while an activation runs -/

theorem queued_of_queue (h : ∀ l, (t.ports.get l).queue = (s.ports.get l).queue) : t.queued = s.queued := by
  have a : t.ports.a.queue = s.ports.a.queue := h .a
  have b : t.ports.b.queue = s.ports.b.queue := h .b
  have m : t.ports.m.queue = s.ports.m.queue := h .m
  rw [State.queued, State.queued, a, b, m]

theorem queued_of_ports (h : t.ports = s.ports) : t.queued = s.queued := queued_of_queue fun _ => by rw [h]

theorem foldl_queued {α : Type} {f : State → α → State} (h : ∀ (s : State) x, (f s x).queued = s.queued) (xs : List α)
    (s : State) : (xs.foldl f s).queued = s.queued := by
  induction xs generalizing s with
  | nil => rfl
  | cons x xs ih => exact (ih _).trans (h s x)

theorem portRemoved_queue (s : State) (c : Channel) (l : Link) : (s.portRemoved c l).queue = (s.ports.get l).queue := by
  unfold State.portRemoved
  split
  · rfl
  · split
    · split
      · split
        · exact settled_queue _ _
        · rfl
      · exact settled_queue _ _
    · rfl

theorem activateChannel_queued (old : Plan) (s : State) (c : Channel) :
    (State.activateChannel old s c).queued = s.queued := by
  have empty : (s.emptyChannel c).queued = s.queued :=
    queued_of_queue fun l => by rw [emptyChannel_ports_get, portRemoved_queue]
  have disarm : ∀ u : State, (u.disarm c).queued = u.queued := fun _ => rfl
  unfold State.activateChannel
  split
  · rfl
  · rfl
  · exact (disarm _).trans empty
  · split
    · exact empty
    · exact (disarm _).trans empty

theorem commitChecks_queued (s : State) (new : CheckIx → CheckStatus) (cycle : CheckIx → Word) :
    (s.commitChecks new cycle).queued = s.queued :=
  (raiseAll_queued _ { s with checks := Vector.ofFn new }).trans (queued_of_ports rfl)

theorem commitVerdicts_queued (s : State) (new : Group → Verdict) (cycle : Group → Word) :
    (s.commitVerdicts new cycle).queued = s.queued := by
  unfold State.commitVerdicts
  exact (raiseAll_queued _ _).trans (queued_of_ports rfl)

theorem closeTestByPlan_queued (s : State) (g : Group) : (s.closeTestByPlan g).queued = s.queued := by
  have closed : (s.closeTest g .plan).queued = s.queued := queued_of_queue fun l => by
    rw [closeTest_ports_get]
    exact (offerAll_keeps _ _ _).1
  rw [← closed]
  exact commitChecks_queued _ _ _

theorem swapped_queued (s : State) (l : Link) (p : Plan) (n : Half) : (s.swapped l p n).queued = s.queued := by
  unfold State.swapped
  rw [foldl_queued (activateChannel_queued s.plan), State.raisePlan, raise_queued]
  exact queued_of_ports rfl

theorem activate_queued (s : State) (l : Link) (p : Plan) (n : Half) : (s.activate l p n).queued = s.queued := by
  have alert : ∀ u : State, u.setAlert.queued = u.queued := fun _ => queued_of_ports rfl
  have verdicts : ∀ (u : State) ended, (u.activateVerdicts ended).queued = u.queued := fun u ended => by
    rw [State.activateVerdicts, alert, commitVerdicts_queued]
  have sources : ∀ u : State, u.returnSources.queued = u.queued := fun _ => queued_of_ports rfl
  have restarted : (s.restarted l p n).queued = (s.swapped l p n).queued := commitChecks_queued _ _ _
  rw [activate_eq, verdicts, sources, State.testsClosed, foldl_queued closeTestByPlan_queued, restarted, swapped_queued]

/-! ### The second accept (R141) -/

theorem acceptPlan_of_second {l l' : Link} {w : Word} {p : Plan} {n : Half} (other : l' ≠ l)
    (staging : s.planStore.staging = .sealed p n (some (l', w))) : s.acceptPlan l n = (s.activate l p n, .ok) := by
  unfold State.acceptPlan
  rw [staging]
  dsimp only
  rw [if_neg (not_not_intro rfl), if_neg other]

theorem half_of_bytes (n : Half) : half (n.extractLsb' 0 8) (n.extractLsb' 8 8) = n := by
  have low : (n.extractLsb' 0 8).toNat < 2 ^ 8 := (n.extractLsb' 0 8).isLt
  refine BitVec.eq_of_toNat_eq ?_
  rw [half, BitVec.toNat_append, ← Nat.shiftLeft_add_eq_or_of_lt low, Nat.shiftLeft_eq, extractByte_toNat,
    extractByte_toNat]
  have := n.isLt
  omega


/-- The command of the second accept activates the plan, and what a drain then frees runs after its reply (log entry
35). -/
theorem exec_acceptPlan_of_second {l l' : Link} {w : Word} {p : Plan} {n : Half} (tag : Byte) (ready : s.Ready l)
    (protection : l ≠ .m) (other : l' ≠ l) (staging : s.planStore.staging = .sealed p n (some (l', w))) :
    exec (.acceptPlan l tag n) s =
      .next ((s.activate l p n).reply l ((Command.acceptPlan n).frame tag) .ok []).runAll := by
  have parses : parse ((Command.acceptPlan n).frame tag) = some (.acceptPlan n) := by
    show some (Command.acceptPlan (half (n.extractLsb' 0 8) (n.extractLsb' 8 8))) = _
    rw [half_of_bytes]
  have allowed : permitted l (.acceptPlan n) = true := bne_iff_ne.2 protection
  have command : s.runCommand l (.acceptPlan n) = .plain (s.activate l p n, .ok) :=
    congrArg Answer.plain (acceptPlan_of_second other staging)
  have run : s.runFrame l ((Command.acceptPlan n).frame tag) =
      (s.activate l p n).reply l ((Command.acceptPlan n).frame tag) .ok [] := by
    unfold State.runFrame
    rw [parses]
    dsimp only
    rw [allowed, command, if_neg (by simp), if_neg (by simp)]
    rfl
  rw [exec_frameTaken rfl (command_frame_not_control (.acceptPlan n) tag)
    (payload_length_of_fits (c := .acceptPlan n) rfl), takeCommand_ready ready, run, State.runAll, reply_queued,
    activate_queued]

/-! ### Which checks restart (R145) -/

theorem restarts_iff (old new : Plan) (i : CheckIx) : old.restarts new i = true ↔
    old.checks[i] ≠ new.checks[i] ∨ old.channels[new.checks[i].channel] ≠ new.channels[new.checks[i].channel] ∨
    new.checks[i].quantity = .spread ∧
      old.channels[new.checks[i].second] ≠ new.channels[new.checks[i].second] ∨
    old.groups[new.channels[new.checks[i].channel].group] ≠ new.groups[new.channels[new.checks[i].channel].group] ∨
    new.checks[i].quantity = .weighted ∧ old.weights ≠ new.weights := by
  simp only [Plan.restarts, Plan.checkGroup, Plan.groupOf, Bool.or_eq_true, Bool.and_eq_true, bne_iff_ne, beq_iff_eq,
    or_assoc]

/-- A check that does not restart stands under the same settings, so its causes are those it had. -/
theorem suspends_of_not_restarts {i : CheckIx} (h : ¬s.plan.restarts u.plan i = true)
    (inService : u.inService = s.inService) (tests : u.tests = s.tests) (trackers : u.trackers = s.trackers)
    (quiet : u.quiet = s.quiet) : u.suspends i = s.suspends i := by
  rw [restarts_iff] at h
  simp only [not_or, not_not] at h
  obtain ⟨entry, channel, -, group, -⟩ := h
  simp only [State.suspends, State.breakerOpen, State.noLock, State.quietHolds, Plan.checkGroup, Plan.groupOf,
    inService, tests, trackers, quiet, entry, channel, group]

theorem examine_last (suspended : Bool) (st : CheckStatus) : (st.examine suspended).last = st.last := by
  unfold CheckStatus.examine
  split
  case h_6 | h_7 => rfl
  all_goals split <;> rfl

/-! ### The tests that an activation ends (R157, R158) -/

theorem closeTestByPlan_plan (s : State) (g : Group) : (s.closeTestByPlan g).plan = s.plan :=
  plan_of_changes (closeTestByPlan_changes s g) (by decide)

/-- One such end resets the enabled checks of its group and leaves the causes of all others. -/
theorem closeTestByPlan_checks (s : State) (g : Group) (i : CheckIx) : (s.closeTestByPlan g).checks[i] =
    if s.plan.checks[i].enabled = true ∧ s.plan.checkGroup i = g then
      s.checks[i].cleared ((s.closeTestByPlan g).suspends i)
    else s.checks[i] := by
  have moved := closeTest_causesMoved (causesMoved_refl s fun g' => g' == g) .plan
  have causes : (s.closeTestByPlan g).suspends i = (s.closeTest g .plan).suspends i :=
    suspends_of_changes (commitChecks_changes _ _ _) (by decide) i
  have table : (s.closeTestByPlan g).checks[i] = (s.closeTest g .plan).resetChecks (fun g' => g' == g) i := by
    rw [show (s.closeTestByPlan g).checks = _ from commitChecks_checks _ _ _]
    simp
  rw [table, causes]
  simp only [State.resetChecks, moved.checks, moved.plan, Bool.and_eq_true, beq_iff_eq]

theorem closeTestByPlan_suspends (s : State) {g : Group} {i : CheckIx} (apart : s.plan.checkGroup i ≠ g) :
    (s.closeTestByPlan g).suspends i = s.suspends i :=
  (suspends_of_changes (commitChecks_changes (s.closeTest g .plan) _ _) (by decide) i).trans
    ((closeTest_causesMoved (causesMoved_refl s fun g' => g' == g) .plan).others i (by simpa using apart))

theorem closeTestsByPlan_suspends {i : CheckIx} (gs : List Group) :
    ∀ s : State, s.plan.checkGroup i ∉ gs → (gs.foldl State.closeTestByPlan s).suspends i = s.suspends i := by
  induction gs with
  | nil => exact fun _ _ => rfl
  | cons g gs ih =>
    intro s apart
    rw [List.mem_cons, not_or] at apart
    exact (ih _ (by rw [closeTestByPlan_plan]; exact apart.2)).trans (closeTestByPlan_suspends s apart.1)

/-- Several such ends reset the enabled checks of their groups, as their causes stand after all of them. -/
theorem closeTestsByPlan_checks {i : CheckIx} (gs : List Group) :
    ∀ s : State, (gs.foldl State.closeTestByPlan s).checks[i] =
      if s.plan.checks[i].enabled = true ∧ s.plan.checkGroup i ∈ gs then
        s.checks[i].cleared ((gs.foldl State.closeTestByPlan s).suspends i)
      else s.checks[i] := by
  induction gs with
  | nil => exact fun s => (if_neg fun h => List.not_mem_nil h.2).symm
  | cons g gs ih =>
    intro s
    rw [List.foldl_cons, ih, closeTestByPlan_plan, closeTestByPlan_checks]
    by_cases on : s.plan.checks[i].enabled = true
    · by_cases own : s.plan.checkGroup i = g
      · by_cases later : s.plan.checkGroup i ∈ gs
        · rw [if_pos ⟨on, later⟩, if_pos ⟨on, own⟩, if_pos ⟨on, .tail g later⟩]
          rfl
        · rw [if_neg fun h => later h.2, if_pos ⟨on, own⟩, if_pos ⟨on, by simp [own]⟩,
            closeTestsByPlan_suspends gs _ (by rw [closeTestByPlan_plan]; exact later)]
      · simp only [List.mem_cons, own, false_or, and_false, if_false]
    · rw [if_neg fun h => on h.1, if_neg fun h => on h.1, if_neg fun h => on h.1]

theorem planEndsTest_iff (s : State) (g : Group) : s.planEndsTest g = true ↔ s.tests[g].isRunning = true ∧
    ¬∃ c : Channel, s.plan.channels[c].enabled = true ∧ s.plan.channels[c].group = g := by
  simp [State.planEndsTest, Plan.groupOf]

/-! ### The checks at an activation (R145, R146) -/

section
variable (s) (l : Link) (p : Plan) (n : Half)

theorem swapped_plan : (s.swapped l p n).plan = p :=
  (plan_of_changes (activateChannels_changes s.plan _ _) (by decide)).trans rfl

theorem restarted_changes : State.ChangesOnly [.checks, .ports] (s.swapped l p n) (s.restarted l p n) :=
  commitChecks_changes _ _ _

theorem restarted_plan : (s.restarted l p n).plan = p :=
  (plan_of_changes (restarted_changes s l p n) (by decide)).trans (swapped_plan s l p n)

theorem restarted_checks (i : CheckIx) : (s.restarted l p n).checks[i] =
    if s.plan.restarts p i = true then s.checks[i].restart p.checks[i].enabled ((s.swapped l p n).suspends i)
    else if p.checks[i].enabled = true then s.checks[i].examine ((s.swapped l p n).suspends i) else s.checks[i] := by
  have checks : (s.swapped l p n).checks = s.checks := swapped_changes s l p n .checks (by decide)
  have table : (s.restarted l p n).checks[i] = (s.swapped l p n).activated s.plan i := by
    rw [show (s.restarted l p n).checks = _ from commitChecks_checks _ _ _]
    simp
  rw [table]
  simp only [State.activated, State.examined, swapped_plan, checks, Bool.and_true]

/-- The group's test ends with the activation: it runs, and no channel of the group is enabled (R157). -/
def State.endsTestOf (s : State) (p : Plan) (g : Group) : Prop :=
  s.tests[g].isRunning = true ∧ ¬∃ c : Channel, p.channels[c].enabled = true ∧ p.channels[c].group = g

theorem mem_endedTests_iff (g : Group) :
    g ∈ (List.finRange 4).filter (s.restarted l p n).planEndsTest ↔ s.endsTestOf p g := by
  have tests : (s.restarted l p n).tests = s.tests :=
    (restarted_changes s l p n .tests (by decide)).trans (swapped_changes s l p n .tests (by decide))
  rw [List.mem_filter, planEndsTest_iff, tests, restarted_plan]
  exact and_iff_right (List.mem_finRange g)

theorem activate_suspends (i : CheckIx) : (s.activate l p n).suspends i = (s.testsClosed l p n).suspends i :=
  suspends_of_changes (activate_changes_of_testsClosed s l p n) (by decide) i

theorem activate_suspends_of_not_ended {i : CheckIx} (h : ¬s.endsTestOf p (p.checkGroup i)) :
    (s.activate l p n).suspends i = (s.swapped l p n).suspends i := by
  rw [activate_suspends, State.testsClosed, closeTestsByPlan_suspends]
  · exact suspends_of_changes (restarted_changes s l p n) (by decide) i
  · rw [restarted_plan, mem_endedTests_iff]
    exact h

theorem activate_checks_of_ended {i : CheckIx} (on : p.checks[i].enabled = true)
    (ends : s.endsTestOf p (p.checkGroup i)) : (s.activate l p n).checks[i] =
      { state := if (s.activate l p n).suspends i then .suspended else .clear, run := 0, tally := 0,
        last := (s.restarted l p n).checks[i].last } := by
  have last : (s.activate l p n).checks = (s.testsClosed l p n).checks :=
    activate_changes_of_testsClosed s l p n .checks (by decide)
  rw [last, activate_suspends, State.testsClosed, closeTestsByPlan_checks, restarted_plan,
    if_pos ⟨on, (mem_endedTests_iff s l p n _).2 ends⟩]
  rfl

theorem activate_checks_of_not_ended {i : CheckIx}
    (h : ¬(p.checks[i].enabled = true ∧ s.endsTestOf p (p.checkGroup i))) :
    (s.activate l p n).checks[i] = (s.restarted l p n).checks[i] := by
  have last : (s.activate l p n).checks = (s.testsClosed l p n).checks :=
    activate_changes_of_testsClosed s l p n .checks (by decide)
  rw [last, State.testsClosed, closeTestsByPlan_checks, restarted_plan,
    if_neg fun both => h ⟨both.1, (mem_endedTests_iff s l p n _).1 both.2⟩]

/-- What an activation leaves of a check that restarts (R146), whether its group's test ends or not. -/
theorem activate_checks_of_restarts {i : CheckIx} (h : s.plan.restarts p i = true) (on : p.checks[i].enabled = true) :
    (s.activate l p n).checks[i] =
      { state := if (s.activate l p n).suspends i then .suspended else .clear, run := 0, tally := 0,
        last := none } := by
  have first : (s.restarted l p n).checks[i] =
      { s.checks[i].cleared ((s.swapped l p n).suspends i) with last := none } := by
    rw [restarted_checks, if_pos h, CheckStatus.restart, if_pos on]
  by_cases ends : s.endsTestOf p (p.checkGroup i)
  · rw [activate_checks_of_ended s l p n on ends, first]
  · rw [activate_checks_of_not_ended s l p n fun both => ends both.2, activate_suspends_of_not_ended s l p n ends,
      first]
    rfl

theorem activate_checks_of_restarts_off {i : CheckIx} (h : s.plan.restarts p i = true)
    (off : p.checks[i].enabled = false) :
    (s.activate l p n).checks[i] = { state := .off, run := 0, tally := 0, last := none } := by
  have disabled : ¬p.checks[i].enabled = true := fun on => Bool.false_ne_true (off.symm.trans on)
  rw [activate_checks_of_not_ended s l p n fun both => disabled both.1, restarted_checks, if_pos h, CheckStatus.restart,
    if_neg disabled]

/-- A check that does not restart and whose group's test goes on finds its causes as they were. -/
theorem activate_checks_of_kept {i : CheckIx} (sound : s.ChecksSound) (h : ¬s.plan.restarts p i = true)
    (stays : ¬s.endsTestOf p (p.checkGroup i) ∨ p.checks[i].enabled = false) :
    (s.activate l p n).checks[i] = s.checks[i] := by
  have apart : ¬(p.checks[i].enabled = true ∧ s.endsTestOf p (p.checkGroup i)) := by
    rintro ⟨on, ends⟩
    rcases stays with stays | off
    · exact stays ends
    · exact Bool.false_ne_true (off.symm.trans on)
  rw [activate_checks_of_not_ended s l p n apart, restarted_checks, if_neg h]
  split
  · next on =>
    have changes := swapped_changes s l p n
    have causes : (s.swapped l p n).suspends i = s.suspends i :=
      suspends_of_not_restarts (by rw [swapped_plan]; exact h) (changes .inService (by decide))
        (changes .tests (by decide)) (changes .trackers (by decide)) (changes .quiet (by decide))
    rw [causes]
    exact examine_eq_self (sound i) (entry_of_not_restarts h ▸ on)
  · rfl

end

/-- Settles O36: whether a check restarts and whether its group's test ends decide what the activation leaves of it. -/
theorem activationRestartsChecks : Obligations.ActivationRestartsChecks := by
  intro l l' w tag p n s ready protection other staging sound
  refine ⟨s.activate l p n, exec_acceptPlan_of_second tag ready protection other staging, fun i => ?_⟩
  have restarts := restarts_iff s.plan p i
  refine ⟨fun restart on => ?_, fun restart off => ?_, fun keep ends on => ?_, fun keep stays => ?_⟩
  · exact activate_checks_of_restarts s l p n (restarts.2 restart) on
  · exact activate_checks_of_restarts_off s l p n (restarts.2 restart) off
  · have last : (s.restarted l p n).checks[i].last = s.checks[i].last := by
      rw [restarted_checks, if_neg fun h => keep (restarts.1 h), if_pos on, examine_last]
    rw [← last]
    exact activate_checks_of_ended s l p n on ends
  · exact activate_checks_of_kept s l p n sound (fun h => keep (restarts.1 h)) stays

end Sys2Proof.Machine
end

section
/-! SUPPORT. What the invariants of the verdicts and of the tests have in common (R110 to R124, R150, R155 to R158): each
as a matter of one group's verdict or test, and that one event of the evaluator keeps them all when what it does to a
single verdict does (`event_keepsVerdicts`). -/

namespace Sys2Proof.Machine

variable {s t u : State}

/-! ### The invariants group by group -/

/-- The terms, the trip condition, the WARN and the reason TRIP of a verdict are those of the checks (R110 to R112,
R116). -/
def State.FiguresFit (s : State) (g : Group) (v : Verdict) : Prop :=
  v.term1 = s.termState g .t1 ∧ v.term2 = s.termState g .t2 ∧ v.trip = s.tripCondition g ∧ v.warn = s.warns g ∧
  v.reasons.trip = s.tripCondition g

/-- STOP, BLIND, TEST and UNPLANNED stand in a reason set as their conditions require (R115, R120 to R122). -/
def State.ReasonsFit (s : State) (g : Group) (r : Reasons) : Prop :=
  r.stop = s.stopInput ∧ r.blind = s.isBlind g ∧ r.test = s.tests[g].isRunning ∧
  (s.plan.protects g = false → r.unplanned = true)

/-- A recorded restore is a protection channel's, and waits for RESTORE to go (R118). -/
def Verdict.RestoreSound (v : Verdict) : Prop := ∀ x, v.restore = some x → x.1 ≠ .m ∧ v.reasons.restore = true

/-- Two verdicts with the same terms, trip condition, WARN and reason TRIP. -/
def Verdict.SameFigures (v w : Verdict) : Prop :=
  w.term1 = v.term1 ∧ w.term2 = v.term2 ∧ w.trip = v.trip ∧ w.warn = v.warn ∧ w.reasons.trip = v.reasons.trip

/-- An offer is a protection channel's, its duration in range (R150). -/
def TestState.OfferSound (x : TestState) : Prop := ∀ l n w, x = .offered l n w → l ≠ .m ∧ 1 ≤ n ∧ n ≤ 900

theorem verdictsCurrent_iff : s.VerdictsCurrent ↔ (∀ g : Group, s.FiguresFit g s.verdicts[g]) ∧
    (s.alert = true ↔ ∃ g : Group, s.tripCondition g = true ∨ s.warns g = true) := Iff.rfl

theorem reasonsCurrent_iff : s.ReasonsCurrent ↔ ∀ g : Group, s.ReasonsFit g s.verdicts[g].reasons := Iff.rfl

theorem pairingsSound_iff :
    s.PairingsSound ↔ ∀ g : Group, s.tests[g].OfferSound ∧ s.verdicts[g].RestoreSound := Iff.rfl

theorem sameFigures_refl (v : Verdict) : v.SameFigures v := ⟨rfl, rfl, rfl, rfl, rfl⟩

theorem offerSound_idle : TestState.idle.OfferSound := fun _ _ _ h => by cases h

theorem offerSound_running (endAt : Word) : (TestState.running endAt).OfferSound := fun _ _ _ h => by cases h

theorem restoreSound_of_none {v : Verdict} (h : v.restore = none) : v.RestoreSound := fun x recorded => by
  rw [h] at recorded
  cases recorded

/-! ### What the conditions of a verdict are read from -/

/-- Terms, trip condition and WARN are read from the plan and from which checks of the group assert. -/
theorem figures_congr {g : Group} (plan : t.plan = s.plan)
    (asserts : ∀ i, s.plan.checkGroup i = g → t.checks[i].state.asserting = s.checks[i].state.asserting) :
    t.termState g = s.termState g ∧ t.tripCondition g = s.tripCondition g ∧ t.warns g = s.warns g := by
  have terms : t.termState g = s.termState g := by
    funext τ
    have member : ∀ i, (s.plan.tripCheck g i && s.plan.checks[i].term == τ && t.checks[i].state.asserting) =
        (s.plan.tripCheck g i && s.plan.checks[i].term == τ && s.checks[i].state.asserting) := fun i => by
      by_cases own : s.plan.checkGroup i = g
      · rw [asserts i own]
      · simp only [Plan.tripCheck, beq_eq_false_iff_ne.2 own, Bool.and_false, Bool.false_and]
    simp only [State.termState, plan, member]
  have member : ∀ i, (s.plan.checks[i].enabled && s.plan.checks[i].cls == .warn && s.plan.checkGroup i == g &&
      t.checks[i].state.asserting) = (s.plan.checks[i].enabled && s.plan.checks[i].cls == .warn &&
      s.plan.checkGroup i == g && s.checks[i].state.asserting) := fun i => by
    by_cases own : s.plan.checkGroup i = g
    · rw [asserts i own]
    · simp only [beq_eq_false_iff_ne.2 own, Bool.and_false, Bool.false_and]
  exact ⟨terms, by simp only [State.tripCondition, terms, plan], by simp only [State.warns, plan, member]⟩

theorem figuresFit_congr {g : Group} (plan : t.plan = s.plan)
    (asserts : ∀ i, s.plan.checkGroup i = g → t.checks[i].state.asserting = s.checks[i].state.asserting)
    (v : Verdict) : t.FiguresFit g v ↔ s.FiguresFit g v := by
  obtain ⟨terms, trip, warns⟩ := figures_congr plan asserts
  simp only [State.FiguresFit, terms, trip, warns]

theorem isBlind_congr {g : Group} (plan : t.plan = s.plan)
    (mode : (t.trackers.get s.plan.groups[g].ref).mode = .seeking ↔
      (s.trackers.get s.plan.groups[g].ref).mode = .seeking) : t.isBlind g = s.isBlind g := by
  simp only [State.isBlind, noLock_congr plan mode, plan]

theorem sourcesSound_congr (plan : t.plan = s.plan) (tests : t.tests = s.tests) (sources : t.sources = s.sources) :
    t.SourcesSound ↔ s.SourcesSound := by
  simp only [State.SourcesSound, plan, tests, sources]

/-! ### A recomputation (R113) -/

theorem recompute_figuresFit (s : State) (g : Group) (v : Verdict) : s.FiguresFit g (s.recompute g v) :=
  ⟨rfl, rfl, rfl, rfl, rfl⟩

theorem recompute_reasonsFit {g : Group} {v : Verdict} (h : s.ReasonsFit g v.reasons) :
    s.ReasonsFit g (t.recompute g v).reasons := h

/-- A recomputation removes no RESTORE (R117). -/
theorem recompute_restore {g : Group} {v : Verdict} (h : v.reasons.restore = true) :
    (t.recompute g v).reasons.restore = true := by
  simp [State.recompute, h]

/-- An addition of TRIP withdraws the recorded restore, and nothing else touches it (R119). -/
theorem recompute_restoreSound {v : Verdict} (h : v.RestoreSound) (t : State) (g : Group) :
    (t.recompute g v).RestoreSound := by
  intro x recorded
  have kept : v.restore = some x := by
    simp only [State.recompute] at recorded
    split at recorded
    · cases recorded
    · exact recorded
  exact ⟨(h x kept).1, recompute_restore (h x kept).2⟩

/-! ### What an operation keeps -/

/-- Between `s` and `t` the invariants of the verdicts and of the tests are kept, each from no more than the obligation
about it assumes. -/
structure State.KeepsVerdicts (s t : State) : Prop where
  permits : s.PermitsSound → t.PermitsSound
  current : s.VerdictsCurrent → s.ReasonsCurrent → t.VerdictsCurrent ∧ t.ReasonsCurrent
  tests : s.SourcesSound → s.PairingsSound → t.SourcesSound ∧ t.PairingsSound

theorem keepsVerdicts_refl (s : State) : s.KeepsVerdicts s := ⟨id, .intro, .intro⟩

theorem keepsVerdicts_trans (h : s.KeepsVerdicts t) (k : t.KeepsVerdicts u) : s.KeepsVerdicts u where
  permits := k.permits ∘ h.permits
  current verdicts reasons := (h.current verdicts reasons).elim k.current
  tests sources pairings := (h.tests sources pairings).elim k.tests

theorem keepsVerdicts_foldl {α : Type} {f : State → α → State} (h : ∀ (s : State) x, s.KeepsVerdicts (f s x))
    (xs : List α) (s : State) : s.KeepsVerdicts (xs.foldl f s) := by
  induction xs generalizing s with
  | nil => exact keepsVerdicts_refl s
  | cons x xs ih => exact keepsVerdicts_trans (h s x) (ih _)

/-- What an event has changed before the verdicts are set, `u` being the state then: the verdicts are as they were, and
unless every group is to be recomputed so is what they are computed from; and what the event does to a verdict besides
leaves its figures, fits its reasons to `u`, and records no restore that is not sound. -/
structure State.Prepares (s u : State) (forced : Group → Bool) (change : Group → Verdict → Verdict) : Prop where
  verdicts : u.verdicts = s.verdicts
  figures : (∀ g, forced g = true) ∨ u.plan = s.plan ∧ u.checks = s.checks ∧ u.alert = s.alert
  changeFigures : ∀ (g : Group) (v : Verdict), v.SameFigures (change g v)
  changeReasons : ∀ (g : Group) (v : Verdict), s.ReasonsFit g v.reasons → u.ReasonsFit g (change g v).reasons
  changeRestores : ∀ (g : Group) (v : Verdict), v.RestoreSound →
    (s.verdicts[g].reasons.restore = true → v.reasons.restore = true) → (change g v).RestoreSound
  sources : s.SourcesSound → u.SourcesSound
  offers : ∀ g : Group, s.tests[g].OfferSound → u.tests[g].OfferSound

section
variable {forced : Group → Bool} {change : Group → Verdict → Verdict}

/-- Each verdict after an event is the event's change of the old one or of its recomputation, the permit set once. -/
theorem verdictsSet_cases (h : u.VerdictsSet t forced change) (g : Group) :
    ∃ v, (v = t.recompute g u.verdicts[g] ∨ v = u.verdicts[g] ∧ forced g = false ∧
        ∀ i, u.plan.checkGroup i = g → t.checks[i].state = u.checks[i].state) ∧
      t.verdicts[g] = u.verdicts[g].settlePermit (change g v) := by
  have set := h.1 g
  dsimp only at set
  rw [← settlePermit_eq] at set
  refine ⟨_, ?_, set⟩
  split
  · exact .inl rfl
  · next unhit =>
    simp only [Bool.or_eq_true, decide_eq_true_eq, not_or, not_exists, not_and, not_not, Bool.not_eq_true] at unhit
    exact .inr ⟨rfl, unhit⟩

/-- A permit set from a reason set follows it, and one that is left has its reasons left (R114). -/
theorem settlePermit_of_sound {old : Verdict} (sound : old.given = old.reasons.isEmpty) (new : Verdict) :
    old.settlePermit new = { new with given := new.reasons.isEmpty } := by
  unfold Verdict.settlePermit
  split
  · next same => rw [same, sound]
  · rfl

theorem verdictsSet_permitsSound (h : u.VerdictsSet t forced change) (sound : u.PermitsSound) : t.PermitsSound := by
  intro g
  obtain ⟨v, -, set⟩ := verdictsSet_cases h g
  rw [set, settlePermit_of_sound (sound g)]

theorem verdictsSet_figuresFit (prepares : s.Prepares u forced change) (plan : t.plan = u.plan)
    (h : u.VerdictsSet t forced change) {g : Group} (fit : s.FiguresFit g s.verdicts[g]) :
    t.FiguresFit g t.verdicts[g] := by
  obtain ⟨v, origin, set⟩ := verdictsSet_cases h g
  have before : t.FiguresFit g v := by
    obtain rfl | ⟨rfl, unforced, untouched⟩ := origin
    · exact recompute_figuresFit t g _
    · obtain all | ⟨samePlan, checks, -⟩ := prepares.figures
      · exact absurd ((all g).symm.trans unforced) (by decide)
      · rw [prepares.verdicts]
        refine (figuresFit_congr (plan.trans samePlan) (fun i own => ?_) _).2 fit
        rw [untouched i (samePlan ▸ own), checks]
  obtain ⟨term1, term2, trip, warn, reason⟩ := prepares.changeFigures g v
  obtain ⟨fit1, fit2, fitTrip, fitWarn, fitReason⟩ := before
  rw [set]
  exact ⟨term1.trans fit1, term2.trans fit2, trip.trans fitTrip, warn.trans fitWarn, reason.trans fitReason⟩

/-- The alert output follows the recomputed verdicts, and stays where none has been recomputed (R124). -/
theorem verdictsSet_alert (prepares : s.Prepares u forced change) (plan : t.plan = u.plan)
    (h : u.VerdictsSet t forced change) (fit : ∀ g : Group, t.FiguresFit g t.verdicts[g])
    (alert : s.alert = true ↔ ∃ g : Group, s.tripCondition g = true ∨ s.warns g = true) :
    t.alert = true ↔ ∃ g : Group, t.tripCondition g = true ∨ t.warns g = true := by
  rw [h.2]
  split
  · rw [decide_eq_true_iff]
    refine exists_congr fun g => ?_
    obtain ⟨-, -, trip, warn, -⟩ := fit g
    rw [trip, warn]
  · next unhit =>
    simp only [Bool.or_eq_true, decide_eq_true_eq, not_exists, not_or, not_and, not_not] at unhit
    obtain all | ⟨samePlan, checks, sameAlert⟩ := prepares.figures
    · exact absurd (all 0) (unhit 0).1
    · rw [sameAlert, alert]
      refine exists_congr fun g => ?_
      obtain ⟨-, trip, warns⟩ := figures_congr (g := g) (plan.trans samePlan) fun i own => by
        rw [(unhit g).2 i (samePlan ▸ own), checks]
      rw [trip, warns]

/-- One event of the evaluator, after what it has prepared, keeps the invariants of the verdicts and of the tests. -/
theorem event_keepsVerdicts (prepares : s.Prepares u forced change) (new : CheckIx → CheckStatus)
    (checkCycle : CheckIx → Word) (groupCycle : Group → Word) :
    s.KeepsVerdicts (u.checkEvent new forced change checkCycle groupCycle) := by
  have set := checkEvent_verdictsSet u new forced change checkCycle groupCycle
  have frame := checkEvent_changes u new forced change checkCycle groupCycle
  generalize u.checkEvent new forced change checkCycle groupCycle = t at set frame
  have plan : t.plan = u.plan := plan_of_changes frame (by decide)
  have tests : t.tests = u.tests := frame .tests (by decide)
  have sources : t.sources = u.sources := frame .sources (by decide)
  refine ⟨fun sound => ?_, fun figures reasons => ⟨verdictsCurrent_iff.2 ?_, reasonsCurrent_iff.2 fun g => ?_⟩,
    fun inTests pairings => ⟨(sourcesSound_congr plan tests sources).2 (prepares.sources inTests),
      pairingsSound_iff.2 fun g => ?_⟩⟩
  · refine verdictsSet_permitsSound set fun g => ?_
    rw [prepares.verdicts]
    exact sound g
  · have fit := fun g => verdictsSet_figuresFit prepares plan set (figures.1 g)
    exact ⟨fit, verdictsSet_alert prepares plan set fit figures.2⟩
  · obtain ⟨v, origin, verdict⟩ := verdictsSet_cases set g
    have before : s.ReasonsFit g v.reasons := by
      obtain rfl | ⟨rfl, -, -⟩ := origin
      · rw [prepares.verdicts]
        exact recompute_reasonsFit (reasonsCurrent_iff.1 reasons g)
      · rw [prepares.verdicts]
        exact reasonsCurrent_iff.1 reasons g
    obtain ⟨stop, blind, test, unplanned⟩ := prepares.changeReasons g v before
    rw [verdict]
    exact ⟨stop.trans (frame .stopInput (by decide)).symm,
      blind.trans (isBlind_congr plan (by rw [show t.trackers = u.trackers from frame .trackers (by decide)])).symm,
      by rw [tests]; exact test, by rw [plan]; exact unplanned⟩
  · obtain ⟨offer, restore⟩ := pairingsSound_iff.1 pairings g
    obtain ⟨v, origin, verdict⟩ := verdictsSet_cases set g
    refine ⟨by rw [tests]; exact prepares.offers g offer, ?_⟩
    rw [verdict]
    obtain rfl | ⟨rfl, -, -⟩ := origin
    · rw [prepares.verdicts]
      exact prepares.changeRestores g _ (recompute_restoreSound restore t g) recompute_restore
    · rw [prepares.verdicts]
      exact prepares.changeRestores g _ restore id

end

end Sys2Proof.Machine
end

section
/-! SUPPORT. What the events of the evaluator, of a tracker's lock and of the test unit keep of the verdicts and of the
tests (R97 to R105, R115, R117, R121, R122, R150 to R158). -/

namespace Sys2Proof.Machine

variable {s t u : State}

/-! ### Operations the verdicts and the tests are not read from -/

/-- The parts that the invariants of the verdicts and of the tests are read from. -/
abbrev keptParts : List Part := [.checks, .verdicts, .alert, .planStore, .tests, .sources, .stopInput, .trackers]

/-- A change that leaves the active plan, the checks, the verdicts, the tests and the sources, and moves no tracker into
or out of SEEKING. -/
theorem keepsVerdicts_of_same (plan : t.plan = s.plan) (checks : t.checks = s.checks)
    (verdicts : t.verdicts = s.verdicts) (alert : t.alert = s.alert) (tests : t.tests = s.tests)
    (sources : t.sources = s.sources) (stop : t.stopInput = s.stopInput)
    (modes : ∀ r, (t.trackers.get r).mode = .seeking ↔ (s.trackers.get r).mode = .seeking) : s.KeepsVerdicts t where
  permits sound g := by
    rw [verdicts]
    exact sound g
  current figures reasons := by
    have same := fun g : Group => figures_congr (g := g) plan fun i _ => by rw [checks]
    refine ⟨⟨fun g => ?_, ?_⟩, fun g => ?_⟩
    · rw [verdicts]
      exact (figuresFit_congr plan (fun i _ => by rw [checks]) _).2 (figures.1 g)
    · rw [alert, figures.2]
      refine exists_congr fun g => ?_
      rw [(same g).2.1, (same g).2.2]
    · rw [verdicts, stop, isBlind_congr plan (modes _), tests, plan]
      exact reasons g
  tests inTests pairings := by
    refine ⟨(sourcesSound_congr plan tests sources).2 inTests, fun g => ?_⟩
    rw [tests, verdicts]
    exact pairings g

theorem keepsVerdicts_of_changes {A : List Part} (h : State.ChangesOnly A s t) (apart : ∀ p ∈ keptParts, p ∉ A) :
    s.KeepsVerdicts t :=
  keepsVerdicts_of_same (plan_of_changes h (apart _ (by decide))) (h .checks (apart _ (by decide)))
    (h .verdicts (apart _ (by decide))) (h .alert (apart _ (by decide))) (h .tests (apart _ (by decide)))
    (h .sources (apart _ (by decide))) (h .stopInput (apart _ (by decide)))
    fun r => by rw [show t.trackers = s.trackers from h .trackers (apart _ (by decide))]

/-- A change of the staging leaves the active plan. -/
theorem keepsVerdicts_of_staging (h : State.ChangesOnly stagingParts s t) (plan : t.plan = s.plan) :
    s.KeepsVerdicts t :=
  keepsVerdicts_of_same plan (h .checks (by decide)) (h .verdicts (by decide)) (h .alert (by decide))
    (h .tests (by decide)) (h .sources (by decide)) (h .stopInput (by decide))
    fun r => by rw [show t.trackers = s.trackers from h .trackers (by decide)]

theorem setTracker_keepsVerdicts {r : Ref} {x : Tracker}
    (mode : x.mode = .seeking ↔ (s.trackers.get r).mode = .seeking) : s.KeepsVerdicts (s.setTracker r x) := by
  refine keepsVerdicts_of_same rfl rfl rfl rfl rfl rfl rfl fun r' => ?_
  rw [setTracker_trackers]
  by_cases own : r' = r
  · rw [own, perRef_get_set_self]
    exact mode
  · rw [perRef_get_set_ne _ _ own]

/-! ### Events of the evaluator (R97 to R105, R115) -/

/-- An event that prepares nothing. -/
theorem prepares_self {change : Group → Verdict → Verdict} (forced : Group → Bool)
    (figures : ∀ (g : Group) (v : Verdict), v.SameFigures (change g v))
    (reasons : ∀ (g : Group) (v : Verdict), s.ReasonsFit g v.reasons → s.ReasonsFit g (change g v).reasons)
    (restores : ∀ (g : Group) (v : Verdict), v.RestoreSound →
      (s.verdicts[g].reasons.restore = true → v.reasons.restore = true) → (change g v).RestoreSound) :
    s.Prepares s forced change :=
  ⟨rfl, .inr ⟨rfl, rfl, rfl⟩, figures, reasons, restores, id, fun _ => id⟩

/-- An event that changes checks and nothing else of its own. -/
theorem causeEvent_keepsVerdicts (s : State) (new : CheckIx → CheckStatus) (forced : Group → Bool) :
    s.KeepsVerdicts (s.causeEvent new forced (fun _ v => v)) :=
  event_keepsVerdicts (prepares_self forced (fun _ _ => ⟨rfl, rfl, rfl, rfl, rfl⟩) (fun _ _ => id) fun _ _ h _ => h)
    _ _ _

theorem startQuiet_keepsVerdicts (s : State) (g : Group) : s.KeepsVerdicts (s.startQuiet g) :=
  keepsVerdicts_trans (keepsVerdicts_of_changes (loadQuiet_changes s g) (by decide)) (causeEvent_keepsVerdicts _ _ _)

theorem endQuiet_keepsVerdicts (s : State) (g : Group) : s.KeepsVerdicts (s.endQuiet g) :=
  keepsVerdicts_trans (keepsVerdicts_of_changes (quietCounted_causeParts s g) (by decide))
    (causeEvent_keepsVerdicts (s.quietCounted g) _ _)

theorem breakerOpens_keepsVerdicts (s : State) (g : Group) : s.KeepsVerdicts (s.breakerOpens g) :=
  keepsVerdicts_trans (keepsVerdicts_of_changes (breakerOpened_causeParts s g) (by decide))
    (causeEvent_keepsVerdicts (s.breakerOpened g) _ _)

/-- UNPLANNED goes, if at all, where the plan protects the group (R115). -/
theorem afterEvaluation_cases (s : State) (c : Channel) (g : Group) (v : Verdict) : s.afterEvaluation c g v = v ∨
    s.plan.protects g = true ∧
      s.afterEvaluation c g v = { v with reasons := { v.reasons with unplanned := false } } := by
  unfold State.afterEvaluation
  split
  · next own => exact .inr ⟨own.2, rfl⟩
  · exact .inl rfl

theorem evaluationEvent_keepsVerdicts (s : State) (c : Channel) (rec : ResultRecord) :
    s.KeepsVerdicts (s.evaluationEvent c rec) := by
  rw [evaluationEvent_eq]
  refine event_keepsVerdicts (prepares_self _ (fun g v => ?_) (fun g v fit => ?_) fun g v sound _ => ?_) _ _ _
  · obtain same | ⟨-, cleared⟩ := afterEvaluation_cases s c g v
    · rw [same]; exact sameFigures_refl v
    · rw [cleared]; exact sameFigures_refl v
  · obtain same | ⟨protects, cleared⟩ := afterEvaluation_cases s c g v
    · rw [same]; exact fit
    · obtain ⟨stop, blind, test, -⟩ := fit
      rw [cleared]
      exact ⟨stop, blind, test, fun unprotected => absurd (unprotected.symm.trans protects) (by decide)⟩
  · obtain same | ⟨-, cleared⟩ := afterEvaluation_cases s c g v
    · rw [same]; exact sound
    · rw [cleared]; exact sound

/-! ### A lock and a loss of lock (R97, R121) -/

/-- What follows a tracker's entering or leaving SEEKING: BLIND is examined for the groups on its reference, and for the
others it is what it was. -/
theorem lockEvent_keepsVerdicts {A : List Part} {r : Ref} (h : State.ChangesOnly A s u)
    (apart : ∀ p ∈ [Part.checks, .verdicts, .alert, .planStore, .tests, .sources, .stopInput], p ∉ A)
    (others : ∀ r', r' ≠ r → u.trackers.get r' = s.trackers.get r') : s.KeepsVerdicts (u.lockEvent r) := by
  have plan : u.plan = s.plan := plan_of_changes h (apart _ (by decide))
  have tests : u.tests = s.tests := h .tests (apart _ (by decide))
  have sources : u.sources = s.sources := h .sources (apart _ (by decide))
  have stopInput : u.stopInput = s.stopInput := h .stopInput (apart _ (by decide))
  refine event_keepsVerdicts (change := fun g v => if u.plan.groups[g].ref = r then v.setBlind (u.isBlind g) else v)
    { verdicts := h .verdicts (apart _ (by decide))
      figures := .inr ⟨plan, h .checks (apart _ (by decide)), h .alert (apart _ (by decide))⟩
      changeFigures := fun g v => ?_
      changeReasons := fun g v fit => ?_
      changeRestores := fun g v sound _ => ?_
      sources := (sourcesSound_congr plan tests sources).2
      offers := fun g => by rw [tests]; exact id } _ _ _
  · split <;> exact sameFigures_refl v
  · obtain ⟨stop, blind, test, unplanned⟩ := fit
    split
    · exact ⟨stop.trans stopInput.symm, rfl, by rw [tests]; exact test, by rw [plan]; exact unplanned⟩
    · next apart =>
      exact ⟨stop.trans stopInput.symm,
        blind.trans (isBlind_congr plan (by rw [others _ (plan ▸ apart)])).symm,
        by rw [tests]; exact test, by rw [plan]; exact unplanned⟩
  · split <;> exact sound

theorem lock_keepsVerdicts (s : State) (r : Ref) (e : Tick) (interval : Nat) :
    s.KeepsVerdicts (s.lock r e interval) :=
  lockEvent_keepsVerdicts (u := s.locked r e interval)
    (changes_comp (cycleStartParts ++ [.ports]) (enterLocked_changes s r e interval) (raiseSync_changes _ r _ _)
      (by decide) (by decide)) (by decide)
    fun _ ne => (perRef_get_set_ne _ _ ne).trans (perRef_get_set_ne _ _ ne)

theorem loseReference_keepsVerdicts (s : State) (r : Ref) : s.KeepsVerdicts (s.loseReference r) :=
  lockEvent_keepsVerdicts (u := s.lost r)
    (changes_comp [.trackers, .ports] (setTracker_changes s r _) (raiseSync_changes _ r _ _) (by decide) (by decide))
    (by decide) fun _ ne => perRef_get_set_ne _ _ ne

/-! ### The start and the end of a test (R117, R122, R153, R158) -/

/-- An event at one group whose test state it has set, the verdict of that group being changed by `f`. -/
theorem testEvent_keepsVerdicts {A : List Part} {g : Group} {x : TestState} {f : Verdict → Verdict}
    {forced : Group → Bool} (h : State.ChangesOnly A s u)
    (apart : ∀ p ∈ [Part.checks, .verdicts, .alert, .planStore, .stopInput, .trackers], p ∉ A)
    (tests : u.tests = s.tests.set g x) (sources : s.SourcesSound → u.SourcesSound) (offer : x.OfferSound)
    (figures : ∀ v : Verdict, v.SameFigures (f v))
    (reasons : ∀ v : Verdict, (f v).reasons.stop = v.reasons.stop ∧ (f v).reasons.blind = v.reasons.blind ∧
      (f v).reasons.unplanned = v.reasons.unplanned ∧ (f v).reasons.test = x.isRunning)
    (restores : ∀ v : Verdict, v.RestoreSound → (f v).RestoreSound) (new : CheckIx → CheckStatus) :
    s.KeepsVerdicts (u.causeEvent new forced (onGroup g f)) := by
  have plan : u.plan = s.plan := plan_of_changes h (apart _ (by decide))
  have trackers : u.trackers = s.trackers := h .trackers (apart _ (by decide))
  have stopInput : u.stopInput = s.stopInput := h .stopInput (apart _ (by decide))
  have test : ∀ g' : Group, u.tests[g'] = if g' = g then x else s.tests[g'] := fun g' => by
    rw [tests, vector_getElem_set]
  refine event_keepsVerdicts
    { verdicts := h .verdicts (apart _ (by decide))
      figures := .inr ⟨plan, h .checks (apart _ (by decide)), h .alert (apart _ (by decide))⟩
      changeFigures := fun g' v => ?_
      changeReasons := fun g' v fit => ?_
      changeRestores := fun g' v sound _ => ?_
      sources := sources
      offers := fun g' sound => ?_ } _ _ _
  · unfold onGroup
    split
    · exact figures v
    · exact sameFigures_refl v
  · obtain ⟨stop, blind, running, unplanned⟩ := fit
    have sameBlind : u.isBlind g' = s.isBlind g' := isBlind_congr plan (by rw [trackers])
    unfold State.ReasonsFit onGroup
    rw [stopInput, sameBlind, plan, test]
    split
    · obtain ⟨stop', blind', unplanned', test'⟩ := reasons v
      exact ⟨stop'.trans stop, blind'.trans blind, test', fun off => unplanned'.trans (unplanned off)⟩
    · exact ⟨stop, blind, running, unplanned⟩
  · unfold onGroup
    split
    · exact restores v sound
    · exact sound
  · rw [test]
    split
    · exact offer
    · exact sound

/-- Where a group's test state changes, its channels' patterns go with its test (R155 to R158). -/
theorem sourcesSound_of_setTest {g : Group} {x : TestState} (plan : u.plan = s.plan) (tests : u.tests = s.tests.set g x)
    (sources : ∀ c : Channel, u.sources[c] ≠ .live →
      s.sources[c] ≠ .live ∧ (s.plan.groupOf c = g → x.isRunning = true)) (h : s.SourcesSound) : u.SourcesSound := by
  intro c pattern
  obtain ⟨old, own⟩ := sources c pattern
  simp only [plan, tests]
  rw [vector_getElem_set]
  split
  · next same => exact own same
  · exact h c old

theorem startTest_keepsVerdicts (s : State) (g : Group) (seconds : Nat) : s.KeepsVerdicts (s.startTest g seconds) := by
  have changes : State.ChangesOnly [.tests, .ports] s (s.testStarted g seconds) :=
    changes_comp _ (setTest_changes s g _) (raiseTest_changes _ g _ _ _) (by decide) (by decide)
  have inTests : s.SourcesSound → (s.testStarted g seconds).SourcesSound :=
    sourcesSound_of_setTest (plan_of_changes changes (by decide)) rfl fun _ pattern => ⟨pattern, fun _ => rfl⟩
  exact testEvent_keepsVerdicts (f := Verdict.startTest) changes (by decide) rfl inTests (offerSound_running _)
    (fun v => sameFigures_refl v) (fun _ => ⟨rfl, rfl, rfl, rfl⟩) (fun _ => id) _

/-- The sources of a group whose test ends return to LIVE (R158). -/
theorem closeTest_sourcesSound (h : s.SourcesSound) (g : Group) (cause : TestCause) :
    (s.closeTest g cause).SourcesSound := by
  refine sourcesSound_of_setTest (plan_of_changes (closeTest_changes s g cause) (by decide)) rfl (fun c pattern => ?_) h
  have source : (s.closeTest g cause).sources[c] = if s.plan.groupOf c = g then .live else s.sources[c] :=
    Vector.getElem_ofFn _
  rw [source] at pattern
  split at pattern
  · exact absurd rfl pattern
  · next other => exact ⟨pattern, fun own => absurd own other⟩

theorem endTest_keepsVerdicts (s : State) (g : Group) (cause : TestCause) : s.KeepsVerdicts (s.endTest g cause) :=
  testEvent_keepsVerdicts (f := Verdict.endTest) (closeTest_changes s g cause) (by decide) rfl
    (fun inTests => closeTest_sourcesSound inTests g cause) offerSound_idle (fun v => sameFigures_refl v)
    (fun _ => ⟨rfl, rfl, rfl, rfl⟩) (fun v _ => restoreSound_of_none (v := v.endTest) rfl) _

theorem breakerCloses_keepsVerdicts (s : State) (g : Group) : s.KeepsVerdicts (s.breakerCloses g) := by
  have closed : s.KeepsVerdicts (s.breakerClosed g) :=
    keepsVerdicts_of_changes (breakerClosed_causeParts s g) (by decide)
  cases running : s.tests[g].isRunning with
  | true =>
    rw [breakerCloses_of_running running]
    exact keepsVerdicts_trans closed (endTest_keepsVerdicts _ g _)
  | false =>
    rw [breakerCloses_of_not_running running]
    exact keepsVerdicts_trans closed (causeEvent_keepsVerdicts _ _ _)

/-! ### Offers and sources (R150, R152, R155) -/

/-- An offer that is made or ends, the group's test neither running before nor after. -/
theorem setTest_keepsVerdicts {g : Group} {x : TestState} (old : s.tests[g].isRunning = false)
    (new : x.isRunning = false) (offer : x.OfferSound) : s.KeepsVerdicts (s.setTest g x) := by
  have running : ∀ g' : Group, (s.setTest g x).tests[g'].isRunning = s.tests[g'].isRunning := fun g' => by
    rw [setTest_tests, vector_getElem_set]
    split
    · next own => rw [new, own, old]
    · rfl
  refine ⟨id, fun figures reasons => ⟨figures, fun g' => ?_⟩,
    fun inTests pairings => ⟨fun c pattern => ?_, fun g' => ?_⟩⟩
  · rw [running]
    exact reasons g'
  · rw [running]
    exact inTests c pattern
  · obtain ⟨sound, restore⟩ := pairings g'
    refine ⟨?_, restore⟩
    rw [setTest_tests, vector_getElem_set]
    split
    · exact offer
    · exact sound

theorem endOffer_keepsVerdicts {g : Group} (waits : s.tests[g].isRunning = false) (cause : TestCause) :
    s.KeepsVerdicts (s.endOffer g cause) :=
  keepsVerdicts_trans (setTest_keepsVerdicts waits rfl offerSound_idle)
    (keepsVerdicts_of_changes (raiseTest_changes _ g _ _ _) (by decide))

theorem switchSource_keepsVerdicts (s : State) (c : Channel) (x : Source) :
    s.KeepsVerdicts (s.switchSource c x).1 := by
  unfold State.switchSource
  split
  · next running =>
    refine ⟨id, .intro, fun inTests pairings => ⟨fun d pattern => ?_, pairings⟩⟩
    by_cases own : d = c
    · rw [own]; exact running
    · refine inTests d ?_
      rw [setSource_sources, vector_getElem_set_ne _ own] at pattern
      exact pattern
  · exact keepsVerdicts_refl s

end Sys2Proof.Machine
end

section
/-! SUPPORT. What the events at which no check changes keep of the verdicts and of the tests: the restores (R118, R119),
the stop input (R120), and the verdicts at an activation (R144). -/

namespace Sys2Proof.Machine

variable {s t u : State}

/-! ### Events at which no check changes (R114, R118 to R120, R144) -/

theorem commitChecks_self (s : State) (cycle : CheckIx → Word) : s.commitChecks (fun i => s.checks[i]) cycle = s := by
  have table : Vector.ofFn (fun i : CheckIx => s.checks[i]) = s.checks := Vector.ext fun i hi => by simp
  unfold State.commitChecks checkNotice
  rw [table]
  simp only [if_true, List.filterMap_none]
  rfl

theorem touches_self (s : State) (g : Group) : s.touches (fun i => s.checks[i]) g = false := by
  simp [State.touches]

/-- An event that is no evaluator's is one of the evaluator at which no check changes and no group is recomputed. -/
theorem reasonEvent_eq_causeEvent (s : State) (change : Group → Verdict → Verdict) :
    s.reasonEvent change = s.causeEvent (fun i => s.checks[i]) (fun _ => false) change := by
  have unhit : (List.finRange 4).any (fun g => false || s.touches (fun i => s.checks[i]) g) = false := by
    simp only [touches_self, Bool.or_self, List.any_eq_false, Bool.false_eq_true, not_false_eq_true, implies_true]
  simp only [State.causeEvent, State.checkEvent, commitChecks_self, unhit]
  simp only [touches_self, Bool.or_self, Bool.false_eq_true, if_false]
  rfl

/-- What the verdict unit does at an activation is an event at which no check changes and every group is recomputed. -/
theorem activateVerdicts_eq_causeEvent (s : State) (ended : Group → Bool) : s.activateVerdicts ended =
    s.causeEvent (fun i => s.checks[i]) (fun _ => true) (s.activateVerdict ended) := by
  simp only [State.causeEvent, State.checkEvent, commitChecks_self, Bool.true_or, if_true]
  rfl

/-- An event that changes recorded restores and the reason RESTORE and nothing else. -/
theorem reasonEvent_keepsVerdicts {change : Group → Verdict → Verdict}
    (figures : ∀ (g : Group) (v : Verdict), v.SameFigures (change g v))
    (reasons : ∀ (g : Group) (v : Verdict), s.ReasonsFit g v.reasons → s.ReasonsFit g (change g v).reasons)
    (restores : ∀ (g : Group) (v : Verdict), v.RestoreSound →
      (s.verdicts[g].reasons.restore = true → v.reasons.restore = true) → (change g v).RestoreSound) :
    s.KeepsVerdicts (s.reasonEvent change) := by
  rw [reasonEvent_eq_causeEvent]
  exact event_keepsVerdicts (prepares_self _ figures reasons restores) _ _ _

/-- Such an event at one group. -/
theorem groupEvent_keepsVerdicts {g : Group} {f : Verdict → Verdict} (figures : ∀ v : Verdict, v.SameFigures (f v))
    (reasons : ∀ v : Verdict, s.ReasonsFit g v.reasons → s.ReasonsFit g (f v).reasons)
    (restores : ∀ v : Verdict, v.RestoreSound →
      (s.verdicts[g].reasons.restore = true → v.reasons.restore = true) → (f v).RestoreSound) :
    s.KeepsVerdicts (s.reasonEvent (onGroup g f)) := by
  refine reasonEvent_keepsVerdicts (fun g' v => ?_) (fun g' v fit => ?_) fun g' v sound kept => ?_
  · unfold onGroup
    split
    · exact figures v
    · exact sameFigures_refl v
  · unfold onGroup
    split
    · next own => subst own; exact reasons v fit
    · exact fit
  · unfold onGroup
    split
    · next own => subst own; exact restores v sound kept
    · exact sound

/-- A restore is recorded while RESTORE is present, and the second of a pair removes RESTORE and the record (R118). -/
theorem restorePermit_keepsVerdicts {l : Link} (protection : l ≠ .m) (g : Group) :
    s.KeepsVerdicts (s.restorePermit l g).1 := by
  unfold State.restorePermit
  dsimp only
  split
  · exact keepsVerdicts_refl s
  · split
    · exact keepsVerdicts_refl s
    · next present =>
      have restore : s.verdicts[g].reasons.restore = true := by simpa using present
      split
      · refine groupEvent_keepsVerdicts (f := fun v => { v with restore := some (l, s.clock) })
          (fun v => sameFigures_refl v) (fun _ => id) fun v _ kept x recorded => ?_
        cases recorded
        exact ⟨protection, kept restore⟩
      · split
        · exact keepsVerdicts_refl s
        · exact groupEvent_keepsVerdicts (f := Verdict.pairRestore) sameFigures_refl (fun _ => id)
            fun v _ _ => restoreSound_of_none (v := v.pairRestore) rfl

theorem expireRestore_keepsVerdicts (s : State) (g : Group) : s.KeepsVerdicts (s.expireRestore g) :=
  groupEvent_keepsVerdicts (f := Verdict.withdrawRestore) sameFigures_refl (fun _ => id)
    fun v _ _ => restoreSound_of_none (v := v.withdrawRestore) rfl

/-- What a link reset does to a verdict: the recorded restore stays or goes (R119). -/
theorem withdrawRestoreOf_eq (l : Link) (v : Verdict) : v.withdrawRestoreOf l = { v with
    restore := match v.restore with
      | some x => if x.1 = l then none else some x
      | none => none } := by
  obtain ⟨_, _, _, _, _, restore, _, _⟩ := v
  cases restore with
  | none => rfl
  | some x =>
    simp only [Verdict.withdrawRestoreOf, Verdict.withdrawRestore]
    split <;> rfl

theorem withdrawRestoresOf_keepsVerdicts (s : State) (l : Link) :
    s.KeepsVerdicts (s.reasonEvent (fun _ => Verdict.withdrawRestoreOf l)) := by
  refine reasonEvent_keepsVerdicts (fun g v => ?_) (fun g v fit => ?_) fun g v sound _ => ?_
  · rw [withdrawRestoreOf_eq]
    exact sameFigures_refl v
  · rw [withdrawRestoreOf_eq]
    exact fit
  · rw [withdrawRestoreOf_eq]
    intro x recorded
    refine sound x ?_
    dsimp only at recorded
    split at recorded
    · next y present =>
      split at recorded
      · cases recorded
      · exact present.trans recorded
    · cases recorded

/-- The state in which the verdicts follow a change of the stop input (R120). -/
def State.stopSet (s : State) (asserted : Bool) : State := { s with stopInput := asserted }

theorem changeStop_eq (s : State) (asserted : Bool) :
    s.changeStop asserted = (s.stopSet asserted).reasonEvent (fun _ => Verdict.setStop asserted) := rfl

theorem changeStop_keepsVerdicts (s : State) (asserted : Bool) : s.KeepsVerdicts (s.changeStop asserted) := by
  rw [changeStop_eq, reasonEvent_eq_causeEvent]
  have prepares : s.Prepares (s.stopSet asserted) (fun _ => false) (fun _ => Verdict.setStop asserted) :=
    { verdicts := rfl
      figures := .inr ⟨rfl, rfl, rfl⟩
      changeFigures := fun _ v => sameFigures_refl v
      changeReasons := fun _ _ ⟨_, blind, test, unplanned⟩ => ⟨rfl, blind, test, unplanned⟩
      changeRestores := fun _ _ sound _ => sound
      sources := id
      offers := fun _ => id }
  exact event_keepsVerdicts prepares _ _ _

/-! ### Activation (R115, R121, R122, R144, R156, R157) -/

/-- The parts that the tests an activation ends, and the sources it returns, leave to the verdict unit. -/
theorem closeTestByPlan_changes_tests (s : State) (g : Group) :
    State.ChangesOnly [.sources, .tests, .ports, .buffers, .checks] s (s.closeTestByPlan g) :=
  changes_comp _ (closeTest_changes s g _) (commitChecks_changes _ _ _) (by decide) (by decide)

theorem closeTestByPlan_tests (s : State) (g : Group) : (s.closeTestByPlan g).tests = s.tests.set g .idle :=
  commitChecks_changes (s.closeTest g .plan) _ _ .tests (by decide)

theorem closeTestsByPlan_tests (g : Group) (gs : List Group) :
    ∀ s : State, (gs.foldl State.closeTestByPlan s).tests[g] = if g ∈ gs then .idle else s.tests[g] := by
  induction gs with
  | nil => exact fun s => by simp
  | cons g' gs ih =>
    intro s
    rw [List.foldl_cons, ih, closeTestByPlan_tests, vector_getElem_set]
    by_cases own : g = g'
    · simp [own]
    · simp [own]

/-- A channel whose group's test does not run under the new plan is LIVE (R156). -/
theorem returnSources_sourcesSound (s : State) : s.returnSources.SourcesSound := by
  intro c pattern
  have source : s.returnSources.sources[c] = if s.tests[s.plan.groupOf c].isRunning then s.sources[c] else .live :=
    Vector.getElem_ofFn _
  have plan : s.returnSources.plan = s.plan := plan_of_changes (returnSources_changes s) (by decide)
  have tests : s.returnSources.tests = s.tests := returnSources_changes s .tests (by decide)
  rw [source] at pattern
  simp only [plan, tests]
  split at pattern
  · next running => exact running
  · exact absurd rfl pattern

/-- The state in which the verdict unit acts at an activation. -/
def State.replanned (s : State) (l : Link) (p : Plan) (n : Half) : State := (s.testsClosed l p n).returnSources

section
variable (s : State) (l : Link) (p : Plan) (n : Half)

theorem testsClosed_changes :
    State.ChangesOnly [.sources, .tests, .ports, .buffers, .checks] (s.restarted l p n) (s.testsClosed l p n) :=
  changes_foldl _ closeTestByPlan_changes_tests _ _

theorem replanned_changes :
    State.ChangesOnly (channelParts ++ [.planStore, .sources, .tests, .checks]) s (s.replanned l p n) :=
  changes_trans (changes_comp _ (swapped_changes s l p n) (restarted_changes s l p n) (by decide) (by decide))
    (changes_comp _ (testsClosed_changes s l p n) (returnSources_changes (s.testsClosed l p n)) (by decide) (by decide))

theorem replanned_tests (g : Group) : (s.replanned l p n).tests[g] =
    if (s.restarted l p n).planEndsTest g = true then .idle else s.tests[g] := by
  have before : (s.restarted l p n).tests = s.tests :=
    (restarted_changes s l p n .tests (by decide)).trans (swapped_changes s l p n .tests (by decide))
  have later : (s.replanned l p n).tests = (s.testsClosed l p n).tests := returnSources_changes _ .tests (by decide)
  rw [later, State.testsClosed, closeTestsByPlan_tests, before]
  simp [List.mem_filter]

theorem activateVerdict_sameFigures (ended : Group → Bool) (g : Group) (v : Verdict) :
    v.SameFigures (s.activateVerdict ended g v) := by
  unfold State.activateVerdict
  cases ended g <;> exact sameFigures_refl v

theorem activateVerdict_restoreSound {v : Verdict} (h : v.RestoreSound) (ended : Group → Bool) (g : Group) :
    (s.activateVerdict ended g v).RestoreSound := by
  unfold State.activateVerdict
  cases ended g with
  | true => exact restoreSound_of_none rfl
  | false => exact h

theorem activateVerdict_reasons (ended : Group → Bool) (g : Group) (v : Verdict) :
    (s.activateVerdict ended g v).reasons.stop = v.reasons.stop ∧
    (s.activateVerdict ended g v).reasons.blind = s.isBlind g ∧
    (s.activateVerdict ended g v).reasons.test = (!ended g && v.reasons.test) ∧
    (s.activateVerdict ended g v).reasons.unplanned = (v.reasons.unplanned || !s.plan.protects g) := by
  unfold State.activateVerdict
  cases ended g <;> exact ⟨rfl, rfl, rfl, rfl⟩

theorem activate_keepsVerdicts : s.KeepsVerdicts (s.activate l p n) := by
  rw [activate_eq, activateVerdicts_eq_causeEvent]
  have changes := replanned_changes s l p n
  exact event_keepsVerdicts (u := s.replanned l p n)
    { verdicts := changes .verdicts (by decide)
      figures := .inl fun _ => rfl
      changeFigures := activateVerdict_sameFigures _ _
      changeReasons := fun g v ⟨stop, _, test, _⟩ => by
        obtain ⟨stop', blind', test', unplanned'⟩ :=
          activateVerdict_reasons (s.replanned l p n) (s.restarted l p n).planEndsTest g v
        refine ⟨(stop'.trans stop).trans (changes .stopInput (by decide)).symm, blind', test'.trans ?_, fun off => ?_⟩
        · rw [replanned_tests, test]
          cases (s.restarted l p n).planEndsTest g <;> rfl
        · refine unplanned'.trans ?_
          rw [off, Bool.not_false, Bool.or_true]
      changeRestores := fun g v sound _ => activateVerdict_restoreSound _ sound _ g
      sources := fun _ => returnSources_sourcesSound _
      offers := fun g sound => by
        rw [replanned_tests]
        split
        · exact offerSound_idle
        · exact sound } _ _ _

end

end Sys2Proof.Machine
end

section
/-! SUPPORT. What the engines, the trackers, the plan store and every command keep of the verdicts and of the tests (R4 to
R11, R54, R63 to R74, R132 to R143, R150 to R157, R165, R168). -/

namespace Sys2Proof.Machine

variable {s t u : State}

/-! ### Results and engines (R54, R63, R66, R71 to R74) -/

theorem arrive_keepsVerdicts (s : State) (res : TransformResult) : s.KeepsVerdicts (s.arrive res) := by
  have drop : s.KeepsVerdicts (s.dropResult res) := keepsVerdicts_of_changes (dropResult_changes s res) (by decide)
  have store : s.KeepsVerdicts (s.storeResult res) := keepsVerdicts_of_changes (storeResult_changes s res) (by decide)
  unfold State.arrive
  split
  · exact drop
  · split
    · exact drop
    · split
      · exact store
      · exact keepsVerdicts_trans store (evaluationEvent_keepsVerdicts _ _ _)

theorem setKept_keepsVerdicts (s : State) (c : Channel) (k : Option Kept) : s.KeepsVerdicts (s.setKept c k) :=
  keepsVerdicts_of_changes (setKept_changes s c k) (by decide)

theorem routeResult_keepsVerdicts (s : State) (e : Engine) (role : AuditRole) (res : TransformResult) :
    s.KeepsVerdicts (s.routeResult e role res) := by
  have compare : ∀ (u : State) (k : Kept), u.KeepsVerdicts (u.compare k e res) := fun u k => by
    unfold State.compare
    dsimp only
    split
    · exact keepsVerdicts_of_changes (mismatch_changes _ _ _ _ _) (by decide)
    · exact arrive_keepsVerdicts u _
  unfold State.routeResult
  split
  · exact arrive_keepsVerdicts s _
  · exact arrive_keepsVerdicts s _
  · exact keepsVerdicts_of_changes (dropResult_changes s res) (by decide)
  · split
    · exact setKept_keepsVerdicts s _ _
    · exact keepsVerdicts_trans (setKept_keepsVerdicts s _ _) (compare _ _)

theorem completeTransform_keepsVerdicts (s : State) (e : Engine) (h : Hand) (wrong : Option Figures) :
    s.KeepsVerdicts (s.completeTransform e h wrong) :=
  keepsVerdicts_trans (keepsVerdicts_of_changes (setEngine_changes s e _) (by decide))
    (keepsVerdicts_trans (routeResult_keepsVerdicts _ e h.role _)
      (keepsVerdicts_of_changes (afterCompletion_changes _ e) (by decide)))

theorem abandonAudit_keepsVerdicts (s : State) (e : Engine) (c : Channel) : s.KeepsVerdicts (s.abandonAudit e c) := by
  unfold State.abandonAudit
  dsimp only
  refine keepsVerdicts_trans (keepsVerdicts_of_changes (dequeue_changes s c) (by decide)) ?_
  split
  · exact keepsVerdicts_trans (setKept_keepsVerdicts _ c none) (arrive_keepsVerdicts _ _)
  · exact keepsVerdicts_of_changes (setRole_changes _ _ _ _) (by decide)

theorem serviceOut_keepsVerdicts (s : State) (e : Engine) : s.KeepsVerdicts (s.serviceOut e).1 := by
  by_cases inService : (s.engines.get e).service = .inService
  · by_cases other : (s.engines.get e.other).service = .inService
    · rw [serviceOut_of_both inService other]
      exact keepsVerdicts_trans (keepsVerdicts_of_changes (serviceChanged_changes _ _ _ _) (by decide))
        (keepsVerdicts_foldl (fun u c => abandonAudit_keepsVerdicts u e c) _ _)
    · rw [serviceOut_of_last inService other]
      exact keepsVerdicts_refl s
  · rw [serviceOut_of_not_inService inService]
    exact keepsVerdicts_refl s

/-! ### The trackers (R4 to R11) -/

theorem endCycleFrames_keepsVerdicts (s : State) (r : Ref) (o : Outcome) : s.KeepsVerdicts (s.endCycleFrames r o) :=
  keepsVerdicts_of_changes (endCycleFrames_changes s r o) (by decide)

/-- The tracker whose cycle starts stays in its state. -/
theorem startCycle_keepsVerdicts (s : State) (r : Ref) (st : Tick) : s.KeepsVerdicts (s.startCycle r st) := by
  have changes := startCycle_changes s r st
  have trackers : (s.startCycle r st).trackers = s.trackers.set r { s.trackers.get r with
      cycle := (s.trackers.get r).cycle + 1, start := some st, nextStrobe := some 1 } := rfl
  refine keepsVerdicts_of_same (plan_of_changes changes (by decide)) (changes .checks (by decide))
    (changes .verdicts (by decide)) (changes .alert (by decide)) (changes .tests (by decide))
    (changes .sources (by decide)) (changes .stopInput (by decide)) fun r' => ?_
  rw [trackers]
  by_cases same : r' = r
  · rw [same, perRef_get_set_self]
  · rw [perRef_get_set_ne _ _ same]

/-- A cycle that starts once the tracker has been written, neither into nor out of SEEKING. -/
theorem setTracker_startCycle_keepsVerdicts {r : Ref} {x : Tracker}
    (mode : x.mode = .seeking ↔ (s.trackers.get r).mode = .seeking) (st : Tick) :
    s.KeepsVerdicts ((s.setTracker r x).startCycle r st) :=
  keepsVerdicts_trans (setTracker_keepsVerdicts mode) (startCycle_keepsVerdicts _ r st)

theorem lockedEdge_keepsVerdicts (s : State) (r : Ref) (e : Tick) (interval : Nat) :
    s.KeepsVerdicts (s.lockedEdge r e interval) :=
  keepsVerdicts_trans (endCycleFrames_keepsVerdicts s r _) (setTracker_startCycle_keepsVerdicts (by rfl) e)

theorem relock_keepsVerdicts {r : Ref} (mode : (s.trackers.get r).mode = .holding) (e : Tick) (interval : Nat) :
    s.KeepsVerdicts (s.relock r e interval) := by
  refine keepsVerdicts_trans (endCycleFrames_keepsVerdicts s r .short)
    (keepsVerdicts_trans (setTracker_startCycle_keepsVerdicts ?_ e)
      (keepsVerdicts_of_changes (raiseSync_changes _ r _ _) (by decide)))
  rw [endCycleFrames_trackers, mode]
  simp

theorem expireDeadline_keepsVerdicts {r : Ref} (mode : (s.trackers.get r).mode = .locked) :
    s.KeepsVerdicts (s.expireDeadline r) := by
  refine keepsVerdicts_trans (endCycleFrames_keepsVerdicts s r .held)
    (keepsVerdicts_trans (setTracker_startCycle_keepsVerdicts ?_ _)
      (keepsVerdicts_of_changes (raiseSync_changes _ r _ _) (by decide)))
  rw [endCycleFrames_trackers, mode]
  simp

theorem endHeldCycle_keepsVerdicts (s : State) (r : Ref) : s.KeepsVerdicts (s.endHeldCycle r) := by
  unfold State.endHeldCycle
  dsimp only
  refine keepsVerdicts_trans (endCycleFrames_keepsVerdicts s r .held) ?_
  split
  · exact loseReference_keepsVerdicts _ r
  · exact setTracker_startCycle_keepsVerdicts (by rfl) _

theorem acceptEdge_keepsVerdicts (s : State) (r : Ref) (e : Tick) : s.KeepsVerdicts (s.acceptEdge r e) := by
  have own : ∀ x : Tracker, x.mode = (s.trackers.get r).mode → s.KeepsVerdicts (s.setTracker r x) := fun x h =>
    setTracker_keepsVerdicts (by rw [h])
  unfold State.acceptEdge
  dsimp only
  split
  · exact own _ rfl
  · exact own _ rfl
  · exact own _ rfl
  · split
    · exact keepsVerdicts_trans (own _ (by rfl)) (lock_keepsVerdicts _ r e _)
    · exact keepsVerdicts_trans (own _ (by rfl)) (lockedEdge_keepsVerdicts _ r e _)
    · next mode =>
      refine keepsVerdicts_trans (own _ (by rfl)) (relock_keepsVerdicts ?_ e _)
      rw [setTracker_trackers, perRef_get_set_self]
      exact mode

theorem nextStrobe_keepsVerdicts (s : State) (r : Ref) : s.KeepsVerdicts (s.nextStrobe r) := by
  unfold State.nextStrobe
  dsimp only
  split
  · split
    · exact keepsVerdicts_trans (setTracker_keepsVerdicts (by rfl))
        (keepsVerdicts_of_changes (issueStrobe_changes _ r _) (by decide))
    · exact keepsVerdicts_refl s
  · exact keepsVerdicts_refl s

/-! ### The test unit and the plan store (R132 to R143, R150 to R157) -/

theorem grantTest_keepsVerdicts {l : Link} (protection : l ≠ .m) (g : Group) (seconds : Nat) :
    s.KeepsVerdicts (s.grantTest l g (clampDuration seconds)).1 := by
  unfold State.grantTest
  split
  · next idle =>
    split
    · exact keepsVerdicts_refl s
    · refine keepsVerdicts_trans (setTest_keepsVerdicts (by rw [idle]; rfl) rfl fun l' n w offered => ?_)
        (keepsVerdicts_of_changes (raiseTest_changes _ g _ _ _) (by decide))
      cases offered
      exact ⟨protection, by unfold clampDuration; omega, by unfold clampDuration; omega⟩
  · next offered =>
    split
    · exact keepsVerdicts_refl s
    · split
      · exact keepsVerdicts_refl s
      · split
        · exact endOffer_keepsVerdicts (by rw [offered]; rfl) _
        · exact startTest_keepsVerdicts s g _
  · exact keepsVerdicts_refl s

theorem stopTest_keepsVerdicts (s : State) (g : Group) : s.KeepsVerdicts (s.stopTest g).1 := by
  unfold State.stopTest
  split
  · exact endTest_keepsVerdicts s g _
  · next offered => exact endOffer_keepsVerdicts (by rw [offered]; rfl) _
  · exact keepsVerdicts_refl s

theorem openStaging_plan (s : State) (l : Link) : (s.openStaging l).1.plan = s.plan := by
  unfold State.openStaging
  repeat' split
  all_goals rfl

theorem writeEntry_plan (s : State) (l : Link) (kind number : Byte) (item : List Byte) :
    (s.writeEntry l kind number item).1.plan = s.plan := by
  unfold State.writeEntry
  repeat' split
  all_goals rfl

theorem sealStaging_plan (s : State) (l : Link) : (s.sealStaging l).1.plan = s.plan := by
  unfold State.sealStaging
  dsimp only
  repeat' split
  all_goals rfl

theorem discardStaging_plan (s : State) (l : Link) : (s.discardStaging l).1.plan = s.plan := by
  unfold State.discardStaging
  repeat' split
  all_goals rfl

theorem expireAccept_plan (s : State) : s.expireAccept.plan = s.plan := by
  unfold State.expireAccept
  split <;> rfl

theorem resetStaging_plan (s : State) (l : Link) : (s.resetStaging l).plan = s.plan := by
  unfold State.resetStaging
  repeat' split
  all_goals rfl

theorem acceptPlan_keepsVerdicts (s : State) (l : Link) (n : Half) : s.KeepsVerdicts (s.acceptPlan l n).1 := by
  unfold State.acceptPlan
  split
  · exact keepsVerdicts_refl s
  · exact keepsVerdicts_refl s
  · split
    · exact keepsVerdicts_refl s
    · split
      · exact keepsVerdicts_of_staging (changes_mono (setStaging_changes s _) (by decide)) rfl
      · split
        · exact keepsVerdicts_refl s
        · exact activate_keepsVerdicts s l _ _

/-! ### Commands (R165) -/

theorem runReadStats_keepsVerdicts (s : State) (kind number clear : Byte) :
    s.KeepsVerdicts (runReadStats s kind number clear).state := by
  have clears : ∀ (u : State), s.KeepsVerdicts u → s.KeepsVerdicts (if bitOf clear 0 then u else s) := fun u h => by
    split
    · exact h
    · exact keepsVerdicts_refl s
  unfold runReadStats
  split
  · split
    · exact clears _ (keepsVerdicts_of_changes (setBuffers_changes s _ _) (by decide))
    · exact keepsVerdicts_refl s
  · split
    · exact clears _ (setTracker_keepsVerdicts (by rfl))
    · exact keepsVerdicts_refl s
  · exact keepsVerdicts_refl s

theorem runEngineService_keepsVerdicts (s : State) (engine direction : Byte) :
    s.KeepsVerdicts (runEngineService s engine direction).state := by
  unfold runEngineService
  split
  · exact keepsVerdicts_refl s
  · split
    · exact serviceOut_keepsVerdicts s _
    · exact keepsVerdicts_of_changes (serviceIn_changes s _) (by decide)
    · exact keepsVerdicts_refl s

theorem runLoadPattern_keepsVerdicts (s : State) (store slot : Byte) (samples : List Half) :
    s.KeepsVerdicts (runLoadPattern s store slot samples).state := by
  unfold runLoadPattern
  split
  · exact keepsVerdicts_refl s
  · split
    · exact keepsVerdicts_refl s
    · split
      · exact keepsVerdicts_refl s
      · exact keepsVerdicts_of_changes (loadPattern_changes s _ _ _) (by decide)

theorem runTestSource_keepsVerdicts (s : State) (channel source : Byte) :
    s.KeepsVerdicts (runTestSource s channel source).state := by
  unfold runTestSource
  split
  · exact switchSource_keepsVerdicts s _ _
  · exact keepsVerdicts_refl s

theorem runCommand_keepsVerdicts {l : Link} {c : Command} (allowed : permitted l c = true) :
    s.KeepsVerdicts (s.runCommand l c).state := by
  have port : ∀ p, s.KeepsVerdicts (s.setPort l p) := fun p =>
    keepsVerdicts_of_changes (setPort_changes s l p) (by decide)
  cases c with
  | readStatus | drainWait | readEntry => exact keepsVerdicts_refl s
  | readStats kind number clear => exact runReadStats_keepsVerdicts s kind number clear
  | readNotices | setNoticeMask | clearOverflow => exact port _
  | readResult channel orders =>
    simp only [State.runCommand, runReadResult]
    split
    · exact keepsVerdicts_refl s
    · split <;> exact keepsVerdicts_refl s
  | readChecks =>
    simp only [State.runCommand, runReadChecks]
    split <;> exact keepsVerdicts_refl s
  | readGroup =>
    simp only [State.runCommand, runReadGroup]
    split <;> exact keepsVerdicts_refl s
  | openStaging => exact keepsVerdicts_of_staging (openStaging_changes s l) (openStaging_plan s l)
  | writeEntry kind number item =>
    exact keepsVerdicts_of_staging (writeEntry_changes s l kind number item) (writeEntry_plan s l kind number item)
  | discardStaging => exact keepsVerdicts_of_staging (discardStaging_changes s l) (discardStaging_plan s l)
  | acceptPlan n => exact acceptPlan_keepsVerdicts s l n
  | clearLatch =>
    simp only [State.runCommand, runClearLatch]
    split
    · exact keepsVerdicts_refl s
    · exact causeEvent_keepsVerdicts s _ _
  | startQuiet =>
    simp only [State.runCommand, runStartQuiet]
    split
    · exact keepsVerdicts_refl s
    · exact startQuiet_keepsVerdicts s _
  | restorePermit =>
    simp only [State.runCommand, runRestorePermit]
    split
    · exact keepsVerdicts_refl s
    · exact restorePermit_keepsVerdicts (bne_iff_ne.1 allowed) _
  | clearFaults => exact keepsVerdicts_of_changes (clearFaults_changes s) (by decide)
  | engineService engine direction => exact runEngineService_keepsVerdicts s engine direction
  | testGrant =>
    simp only [State.runCommand, runTestGrant]
    split
    · exact keepsVerdicts_refl s
    · exact grantTest_keepsVerdicts (bne_iff_ne.1 allowed) _ _
  | testEnd =>
    simp only [State.runCommand, runTestEnd]
    split
    · exact keepsVerdicts_refl s
    · exact stopTest_keepsVerdicts s _
  | loadPattern store slot samples => exact runLoadPattern_keepsVerdicts s store slot samples
  | testSource channel source => exact runTestSource_keepsVerdicts s channel source
  -- SEAL is left, whose name is a word of Lean.
  | _ => exact keepsVerdicts_of_staging (sealStaging_changes s l) (sealStaging_plan s l)

/-! ### A link reset (R168) -/

theorem endOffers_keepsVerdicts (cause : TestCause) (gs : List Group) :
    ∀ s : State, (∀ g ∈ gs, s.tests[g].isRunning = false) →
      s.KeepsVerdicts (gs.foldl (fun s g => s.endOffer g cause) s) := by
  induction gs with
  | nil => exact fun s _ => keepsVerdicts_refl s
  | cons g gs ih =>
    refine fun s idle => keepsVerdicts_trans (endOffer_keepsVerdicts (idle g (.head gs)) cause) (ih _ fun g' hg' => ?_)
    rw [endOffer_tests, vector_getElem_set]
    split
    · rfl
    · exact idle g' (.tail g hg')

theorem resetLink_keepsVerdicts (s : State) (l : Link) : s.KeepsVerdicts (s.resetLink l) := by
  have port : s.KeepsVerdicts (s.setPort l Port.reset) := keepsVerdicts_of_changes (setPort_changes s l _) (by decide)
  have staging : ∀ u : State, u.KeepsVerdicts (u.resetStaging l) := fun u =>
    keepsVerdicts_of_staging (resetStaging_changes u l) (resetStaging_plan u l)
  refine keepsVerdicts_trans port (keepsVerdicts_trans (staging _)
    (keepsVerdicts_trans (withdrawRestoresOf_keepsVerdicts _ l) ?_))
  exact endOffers_keepsVerdicts .linkReset _ _ fun g hg => not_running_of_offeredBy _ (List.mem_filter.1 hg).2

end Sys2Proof.Machine
end

section
/-! SUPPORT. What holds of every command holds of the ports that execute them (R162 to R169): said once for any relation
between states, and with it what every step keeps of the verdicts and of the tests, and the invariants that follow. -/

namespace Sys2Proof.Machine

variable {s t : State}

/-! ### The ports -/

/-- A relation that holds of the ports' own bookkeeping, of every permitted command and of every link reset. -/
structure HoldsAtPorts (R : State → State → Prop) : Prop where
  refl : ∀ s, R s s
  trans : ∀ {s t u}, R s t → R t u → R s u
  ports : ∀ {s t}, State.ChangesOnly [.ports, .choices] s t → R s t
  command : ∀ (s : State) {l c}, permitted l c = true → R s (s.runCommand l c).state
  reset : ∀ (s : State) (l : Link), R s (s.resetLink l)

section
variable {R : State → State → Prop} (h : HoldsAtPorts R) (s : State)
include h

theorem runFrame_holds (l : Link) (f : CmdFrame) : R s (s.runFrame l f) := by
  have reply : ∀ (u : State) code body, R u (u.reply l f code body) := fun u code body =>
    h.ports (changes_mono (reply_changes u l f code body) (by decide))
  unfold State.runFrame
  split
  · exact reply s _ _
  · split
    · exact reply s _ _
    · next allowed =>
      split
      · exact h.ports (changes_mono (startDrain_changes s l f) (by decide))
      · exact h.trans (h.command s (by simpa using allowed)) (reply _ _ _)

theorem runHead_holds (l : Link) : R s (s.runHead l) := by
  unfold State.runHead
  dsimp only
  split
  · exact h.refl s
  · exact h.trans (h.ports (changes_mono (setPort_changes s l _) (by decide))) (runFrame_holds h _ l _)

theorem runOne_holds : R s s.runOne := by
  unfold State.runOne
  split
  · exact h.refl s
  · exact runHead_holds h s _
  · exact h.trans (h.ports (changes_mono (with_choices s _) (by decide))) (runHead_holds h _ _)

theorem runPorts_holds (n : Nat) : ∀ s : State, R s (State.runPorts n s) := by
  induction n with
  | zero => exact h.refl
  | succ n ih => exact fun s => h.trans (runOne_holds h s) (ih _)

theorem runAll_holds : R s s.runAll := runPorts_holds h _ s

theorem takeCommand_holds (l : Link) (f : CmdFrame) : R s (s.takeCommand l f) := by
  unfold State.takeCommand
  dsimp only
  have port : ∀ p, R s (s.setPort l p) := fun p => h.ports (changes_mono (setPort_changes s l p) (by decide))
  split
  · exact port _
  · exact h.trans (port _) (runAll_holds h _)

theorem resumeLink_holds (l : Link) : R s (s.resumeLink l) := by
  unfold State.resumeLink
  dsimp only
  split
  · exact h.trans (h.ports (changes_mono (setPort_changes s l _) (by decide))) (runAll_holds h _)
  · exact h.refl s

theorem clockIn_holds (l : Link) (bytes : List Byte) : R s (s.clockIn l bytes) := by
  unfold State.clockIn State.frameTaken
  split
  · split
    · split
      · exact resumeLink_holds h s l
      · exact h.reset s l
    · exact takeCommand_holds h s l _
  · exact h.refl s

end

theorem keepsVerdicts_holdsAtPorts : HoldsAtPorts State.KeepsVerdicts where
  refl := keepsVerdicts_refl
  trans := keepsVerdicts_trans
  ports changes := keepsVerdicts_of_changes changes (by decide)
  command _ := runCommand_keepsVerdicts
  reset := resetLink_keepsVerdicts

/-! ### Every row of the table, and every step -/

theorem whenDue_keepsVerdicts {due : Bool} {effect : State} (h : due = true → s.KeepsVerdicts effect)
    (run : whenDue due effect s = .next t) : s.KeepsVerdicts t := by
  cases run
  split
  · next isDue => exact h isDue
  · exact keepsVerdicts_refl s

theorem next_keepsVerdicts {effect : State} (h : s.KeepsVerdicts effect) (run : (.next effect : Result) = .next t) :
    s.KeepsVerdicts t := by
  cases run
  exact h

theorem runAll_keepsVerdicts (s : State) : s.KeepsVerdicts s.runAll := runAll_holds keepsVerdicts_holdsAtPorts s

theorem afterJoins_keepsVerdicts (s : State) : s.KeepsVerdicts s.afterJoins :=
  keepsVerdicts_of_changes (afterJoins_changes s) (by decide)

theorem settleDown_keepsVerdicts (s : State) : s.KeepsVerdicts s.afterJoins.runAll :=
  keepsVerdicts_trans (afterJoins_keepsVerdicts s) (runAll_keepsVerdicts _)

theorem exec_keepsVerdicts {i : Instr} (running : i ≠ .powerOnReset) (h : exec i s = .next t) : s.KeepsVerdicts t := by
  cases hf : i.frame with
  | some x =>
    rw [exec_of_frame s hf] at h
    exact next_keepsVerdicts (clockIn_holds keepsVerdicts_holdsAtPorts s _ _) h
  | none =>
    cases i with
    | powerOnReset => exact absurd rfl running
    | edgeAccepted r =>
      unfold exec execEdgeAccepted at h
      dsimp only at h
      split at h
      · exact whenDue_keepsVerdicts
          (fun _ => keepsVerdicts_trans (acceptEdge_keepsVerdicts s r _) (settleDown_keepsVerdicts _)) h
      · exact next_keepsVerdicts (keepsVerdicts_refl s) h
    | deadlineExpiry r =>
      exact whenDue_keepsVerdicts (fun due => keepsVerdicts_trans
        (expireDeadline_keepsVerdicts (locked_of_deadlineDue s due)) (settleDown_keepsVerdicts _)) h
    | heldCycleEnd r =>
      exact whenDue_keepsVerdicts
        (fun _ => keepsVerdicts_trans (endHeldCycle_keepsVerdicts s r) (settleDown_keepsVerdicts _)) h
    | strobe r => exact whenDue_keepsVerdicts (fun _ => nextStrobe_keepsVerdicts s r) h
    | sampleArrival c cycle slot analog =>
      unfold exec execSampleArrival at h
      dsimp only at h
      split at h
      · exact next_keepsVerdicts (keepsVerdicts_trans
          (keepsVerdicts_of_changes (arriveSample_changes s c _ _) (by decide)) (settleDown_keepsVerdicts _)) h
      · exact next_keepsVerdicts (keepsVerdicts_refl s) h
    | transformComplete e wrong =>
      unfold exec execTransformComplete at h
      dsimp only at h
      split at h
      · exact next_keepsVerdicts
          (keepsVerdicts_trans (completeTransform_keepsVerdicts s e _ wrong) (runAll_keepsVerdicts _)) h
      · exact next_keepsVerdicts (keepsVerdicts_refl s) h
    | stopInputChange asserted => exact whenDue_keepsVerdicts (fun _ => changeStop_keepsVerdicts s asserted) h
    | inServiceRise g => exact whenDue_keepsVerdicts (fun _ => breakerCloses_keepsVerdicts s g) h
    | inServiceFall g => exact whenDue_keepsVerdicts (fun _ => breakerOpens_keepsVerdicts s g) h
    | quietEnd g => exact whenDue_keepsVerdicts (fun _ => endQuiet_keepsVerdicts s g) h
    | drainTimeout l =>
      exact whenDue_keepsVerdicts (fun _ => keepsVerdicts_trans
        (keepsVerdicts_of_changes (endDrain_changes s l) (by decide)) (runAll_keepsVerdicts _)) h
    | acceptWindowExpiry =>
      exact whenDue_keepsVerdicts (fun _ => keepsVerdicts_of_staging (expireAccept_changes s) (expireAccept_plan s)) h
    | restoreWindowExpiry g => exact whenDue_keepsVerdicts (fun _ => expireRestore_keepsVerdicts s g) h
    | offerWindowExpiry g =>
      exact whenDue_keepsVerdicts (fun due => endOffer_keepsVerdicts (not_running_of_offerDue s due) _) h
    | testRunExpiry g => exact whenDue_keepsVerdicts (fun _ => endTest_keepsVerdicts s g _) h
    | droppedFrame l => exact next_keepsVerdicts (keepsVerdicts_of_changes (dropFrame_changes s l) (by decide)) h
    | transferOut l => exact next_keepsVerdicts (keepsVerdicts_of_changes (transferOut_changes s l) (by decide)) h
    | replyRead l => exact next_keepsVerdicts (keepsVerdicts_of_changes (readReply_changes s l) (by decide)) h
    | resume l => exact next_keepsVerdicts (resumeLink_holds keepsVerdicts_holdsAtPorts s l) h
    | linkReset l => exact next_keepsVerdicts (resetLink_keepsVerdicts s l) h
    | syncInputSample r high =>
      exact whenDue_keepsVerdicts
        (fun _ => keepsVerdicts_trans (setTracker_keepsVerdicts (by rfl)) (afterJoins_keepsVerdicts _)) h
    | _ => cases hf

/-- What a step keeps of the verdicts and of the tests, the power-on reset apart. -/
theorem step_keepsVerdicts (h : step s = .next t) :
    (∃ stop inService pending choices, t = { State.powerOn stop inService pending with choices := choices }) ∨
    s.KeepsVerdicts t := by
  unfold step at h
  split at h
  · exact .inr (next_keepsVerdicts (keepsVerdicts_of_changes (tick_changes s) (by decide)) h)
  · next i rest waiting =>
    have pending : s.KeepsVerdicts { s with pending := rest } :=
      keepsVerdicts_of_same rfl rfl rfl rfl rfl rfl rfl fun _ => Iff.rfl
    by_cases reset : i = .powerOnReset
    · subst reset
      exact .inl ⟨_, _, _, _, (Host.Outcome.next.inj h).symm⟩
    · exact .inr (keepsVerdicts_trans pending (exec_keepsVerdicts reset h))

/-! ### Power-on (R3, R109, R120) -/

section
variable (stop : Bool) (inService : Vector Bool 4) (pending : List Instr) (choices : Nat)

theorem powerOn_verdict (g : Group) : (State.powerOn stop inService pending).verdicts[g] = Verdict.reset stop := by
  simp [State.powerOn]

theorem powerOn_test (g : Group) : (State.powerOn stop inService pending).tests[g] = .idle := by
  simp [State.powerOn]

/-- The default plan has no enabled check, so no check of it asserts a term or a WARN (R129). -/
theorem powerOn_figures (g : Group) :
    (State.powerOn stop inService pending).FiguresFit g (Verdict.reset stop) ∧
    (State.powerOn stop inService pending).tripCondition g = false ∧
    (State.powerOn stop inService pending).warns g = false := by
  have disabled : ∀ i : CheckIx, (State.powerOn stop inService pending).plan.checks[i].enabled = false := fun i => by
    simp [State.powerOn, State.plan, Plan.default, CheckEntry.default]
  have terms : ∀ τ, (State.powerOn stop inService pending).termState g τ = .empty := fun τ => by
    simp only [State.termState, Plan.termUsed, Plan.tripCheck, disabled, Bool.false_and]
    simp
  have trip : (State.powerOn stop inService pending).tripCondition g = false := by
    simp only [State.tripCondition, terms]
    split <;> rfl
  have warns : (State.powerOn stop inService pending).warns g = false := by
    simp only [State.warns, disabled, Bool.false_and]
    simp
  exact ⟨⟨(terms .t1).symm, (terms .t2).symm, trip.symm, warns.symm, trip.symm⟩, trip, warns⟩

theorem powerOn_verdictsCurrent :
    ({ State.powerOn stop inService pending with choices := choices } : State).VerdictsCurrent := by
  refine ⟨fun g => ?_, ⟨nofun, ?_⟩⟩
  · have fit := (powerOn_figures stop inService pending g).1
    rw [← powerOn_verdict stop inService pending g] at fit
    exact fit
  · rintro ⟨g, asserts⟩
    obtain ⟨-, trip, warns⟩ := powerOn_figures stop inService pending g
    obtain asserts | asserts := asserts
    · exact absurd (trip.symm.trans asserts) Bool.false_ne_true
    · exact absurd (warns.symm.trans asserts) Bool.false_ne_true

theorem powerOn_permitsSound :
    ({ State.powerOn stop inService pending with choices := choices } : State).PermitsSound := fun g => by
  show (State.powerOn stop inService pending).verdicts[g].given =
    (State.powerOn stop inService pending).verdicts[g].reasons.isEmpty
  rw [powerOn_verdict]
  rfl

/-- A reference is not locked at power-on, and every group of the default plan is BLIND without a lock (R3, R121,
R129). -/
theorem powerOn_isBlind (g : Group) : (State.powerOn stop inService pending).isBlind g = true := by
  simp [State.isBlind, State.noLock, State.powerOn, State.plan, Plan.default, PerRef.get, Tracker.reset]

theorem powerOn_reasonsCurrent :
    ({ State.powerOn stop inService pending with choices := choices } : State).ReasonsCurrent := fun g => by
  show (State.powerOn stop inService pending).ReasonsFit g (State.powerOn stop inService pending).verdicts[g].reasons
  rw [powerOn_verdict]
  exact ⟨rfl, (powerOn_isBlind stop inService pending g).symm, by rw [powerOn_test]; rfl, fun _ => rfl⟩

theorem powerOn_sourcesSound :
    ({ State.powerOn stop inService pending with choices := choices } : State).SourcesSound := fun c pattern =>
  absurd (show (State.powerOn stop inService pending).sources[c] = .live by simp [State.powerOn]) pattern

theorem powerOn_pairingsSound :
    ({ State.powerOn stop inService pending with choices := choices } : State).PairingsSound := fun g => by
  show (State.powerOn stop inService pending).tests[g].OfferSound ∧
    (State.powerOn stop inService pending).verdicts[g].RestoreSound
  rw [powerOn_test, powerOn_verdict]
  exact ⟨offerSound_idle, restoreSound_of_none rfl⟩

end

/-! ### The invariants of every step -/

/-- Settles O58: every operation sets a permit from its reason set, or leaves both. -/
theorem permitsFollowTheReasons : Obligations.PermitsFollowTheReasons := by
  intro s t sound run
  obtain ⟨stop, inService, pending, choices, rfl⟩ | keeps := step_keepsVerdicts run
  · exact powerOn_permitsSound stop inService pending choices
  · exact keeps.permits sound

/-- Settles O59: an event's change of the verdicts follows all that the event has changed before it, and each group of which
a check changes is recomputed. -/
theorem verdictsStayCurrent : Obligations.VerdictsStayCurrent := by
  intro s t figures reasons run
  obtain ⟨stop, inService, pending, choices, rfl⟩ | keeps := step_keepsVerdicts run
  · exact ⟨powerOn_verdictsCurrent stop inService pending choices,
      powerOn_reasonsCurrent stop inService pending choices⟩
  · exact keeps.current figures reasons

/-- Settles O60: a pattern is selected while the group's test runs and goes with it, and only protection channels offer
and restore. -/
theorem testsStaySound : Obligations.TestsStaySound := by
  intro s t sources pairings run
  obtain ⟨stop, inService, pending, choices, rfl⟩ | keeps := step_keepsVerdicts run
  · exact ⟨powerOn_sourcesSound stop inService pending choices, powerOn_pairingsSound stop inService pending choices⟩
  · exact keeps.tests sources pairings

end Sys2Proof.Machine
end

section
/-! SUPPORT. A recomputation of a group (R110 to R113, R116, R117, R119): the checks that its terms, its trip condition and
its WARN are read from, and what it makes of a verdict. -/

namespace Sys2Proof.Machine

variable {s : State} {g : Group}

/-! ### Terms, trip condition and WARN (R110 to R112) -/

theorem asserting_iff (x : CheckState) : x.asserting = true ↔ x = .active ∨ x = .falling ∨ x = .latched := by
  cases x <;> decide

/-- Check `i` belongs to a term of a group: it is an enabled TRIP check of the group with that term (R110). -/
def Plan.inTerm (p : Plan) (g : Group) (τ : Term) (i : CheckIx) : Prop :=
  p.tripCheck g i = true ∧ p.checks[i].term = τ

theorem inTerm_iff (p : Plan) (g : Group) (τ : Term) (i : CheckIx) : p.inTerm g τ i ↔
    p.checks[i].enabled = true ∧ p.checks[i].cls = .trip ∧ p.channels[p.checks[i].channel].group = g ∧
    p.checks[i].term = τ := by
  rw [Plan.inTerm, tripCheck_iff, and_assoc, and_assoc]
  rfl

theorem termUsed_iff (p : Plan) (g : Group) (τ : Term) : p.termUsed g τ = true ↔ ∃ i, p.inTerm g τ i := by
  simp [Plan.termUsed, Plan.inTerm]

/-- The three states of a term: by whether the plan has a check of it and whether one of them asserts (R110). -/
theorem termState_cases (s : State) (g : Group) (τ : Term) :
    s.termState g τ = .empty ∧ (¬∃ i, s.plan.inTerm g τ i) ∨
    s.termState g τ = .asserting ∧ (∃ i, s.plan.inTerm g τ i ∧ s.checks[i].state.asserting = true) ∨
    s.termState g τ = .notAsserting ∧ (∃ i, s.plan.inTerm g τ i) ∧
      ¬∃ i, s.plan.inTerm g τ i ∧ s.checks[i].state.asserting = true := by
  have asserts : ((List.finRange 64).any fun i =>
      s.plan.tripCheck g i && s.plan.checks[i].term == τ && s.checks[i].state.asserting) = true ↔
      ∃ i, s.plan.inTerm g τ i ∧ s.checks[i].state.asserting = true := by
    simp [Plan.inTerm]
  unfold State.termState
  split
  · next used =>
    split
    · next h => exact .inr (.inl ⟨rfl, asserts.1 h⟩)
    · next h => exact .inr (.inr ⟨rfl, (termUsed_iff _ g τ).1 used, mt asserts.2 h⟩)
  · next unused => exact .inl ⟨rfl, mt (termUsed_iff _ g τ).2 unused⟩

theorem termState_eq_empty_iff (τ : Term) : s.termState g τ = .empty ↔ ¬∃ i, s.plan.inTerm g τ i := by
  obtain ⟨state, none⟩ | ⟨state, i, own, -⟩ | ⟨state, some, -⟩ := termState_cases s g τ
  · exact ⟨fun _ => none, fun _ => state⟩
  · exact ⟨fun h => absurd (state.symm.trans h) (by decide), fun none => absurd ⟨i, own⟩ none⟩
  · exact ⟨fun h => absurd (state.symm.trans h) (by decide), fun none => absurd some none⟩

theorem termState_eq_asserting_iff (τ : Term) : s.termState g τ = .asserting ↔
    ∃ i, s.plan.inTerm g τ i ∧ s.checks[i].state.asserting = true := by
  obtain ⟨state, none⟩ | ⟨state, some⟩ | ⟨state, -, none⟩ := termState_cases s g τ
  · exact ⟨fun h => absurd (state.symm.trans h) (by decide), fun ⟨i, own, _⟩ => absurd ⟨i, own⟩ none⟩
  · exact ⟨fun _ => some, fun _ => state⟩
  · exact ⟨fun h => absurd (state.symm.trans h) (by decide), fun some => absurd some none⟩

theorem termState_eq_notAsserting_iff (τ : Term) : s.termState g τ = .notAsserting ↔
    (∃ i, s.plan.inTerm g τ i) ∧ ¬∃ i, s.plan.inTerm g τ i ∧ s.checks[i].state.asserting = true := by
  obtain ⟨state, none⟩ | ⟨state, some⟩ | ⟨state, some⟩ := termState_cases s g τ
  · exact ⟨fun h => absurd (state.symm.trans h) (by decide), fun some => absurd some.1 none⟩
  · exact ⟨fun h => absurd (state.symm.trans h) (by decide), fun none => absurd some none.2⟩
  · exact ⟨fun _ => some, fun _ => state⟩

theorem tripCondition_of_or (combine : s.plan.groups[g].combine = .or) : s.tripCondition g = true ↔
    s.termState g .t1 = .asserting ∨ s.termState g .t2 = .asserting := by
  simp only [State.tripCondition, combine, Bool.or_eq_true, beq_iff_eq]

theorem tripCondition_of_and (combine : s.plan.groups[g].combine = .and) : s.tripCondition g = true ↔
    s.termState g .t1 = .asserting ∧ s.termState g .t2 = .asserting := by
  simp only [State.tripCondition, combine, Bool.and_eq_true, beq_iff_eq]

theorem warns_iff : s.warns g = true ↔ ∃ i : CheckIx, s.plan.checks[i].enabled = true ∧
    s.plan.checks[i].cls = .warn ∧ s.plan.checkGroup i = g ∧ s.checks[i].state.asserting = true := by
  simp [State.warns, and_assoc]

/-! ### What a recomputation makes of a verdict (R113, R116, R117, R119) -/

/-- TRIP is added at a recomputation: the trip condition has come to hold (R116). -/
def State.addsTrip (s : State) (g : Group) (v : Verdict) : Prop := s.tripCondition g = true ∧ v.reasons.trip = false

theorem recompute_of_addsTrip_manual {v : Verdict} (added : s.addsTrip g v)
    (manual : s.plan.groups[g].repermit = .manual) :
    s.recompute g v = { term1 := s.termState g .t1, term2 := s.termState g .t2, trip := true, warn := s.warns g
                        reasons := { v.reasons with trip := true, restore := true }, restore := none
                        restoreDuringTest := v.restoreDuringTest ||
                          (s.tests[g].isRunning && decide (v.reasons.restore = false))
                        given := v.given } := by
  obtain ⟨trip, absent⟩ := added
  simp only [State.recompute, trip, absent, manual]
  cases v.reasons.restore <;> simp

theorem recompute_of_addsTrip_auto {v : Verdict} (added : s.addsTrip g v) (auto : s.plan.groups[g].repermit = .auto) :
    s.recompute g v = { v with
      term1 := s.termState g .t1, term2 := s.termState g .t2, trip := true, warn := s.warns g
      reasons := { v.reasons with trip := true }, restore := none } := by
  obtain ⟨trip, absent⟩ := added
  simp only [State.recompute, trip, absent, auto]
  simp

theorem recompute_of_not_addsTrip {v : Verdict} (h : ¬s.addsTrip g v) : s.recompute g v = { v with
    term1 := s.termState g .t1, term2 := s.termState g .t2, trip := s.tripCondition g, warn := s.warns g
    reasons := { v.reasons with trip := s.tripCondition g } } := by
  have added : (s.tripCondition g && !v.reasons.trip) = false := by simpa [State.addsTrip] using h
  simp [State.recompute, added]

/-- Settles O28: the terms, the trip condition and the WARN by the checks that make them, and a recomputation by whether
it adds TRIP and under which re-permit mode. -/
theorem termsTripAndWarn : Obligations.TermsTripAndWarn := by
  refine fun s g => ⟨fun v => ⟨rfl, rfl, rfl, rfl, fun added manual => ?_, fun added auto => ?_, fun added => ?_,
    fun unchanged => ?_, rfl⟩, fun τ => ?_, tripCondition_of_or, tripCondition_of_and, ?_⟩
  · rw [recompute_of_addsTrip_manual added manual]
    exact ⟨rfl, rfl⟩
  · rw [recompute_of_addsTrip_auto added auto]
    exact ⟨rfl, rfl⟩
  · cases mode : s.plan.groups[g].repermit with
    | manual => rw [recompute_of_addsTrip_manual added mode]
    | auto => rw [recompute_of_addsTrip_auto added mode]
  · rw [recompute_of_not_addsTrip unchanged]
    exact ⟨rfl, rfl, rfl⟩
  · dsimp only
    simp only [← inTerm_iff, ← asserting_iff]
    exact ⟨termState_eq_empty_iff τ, termState_eq_asserting_iff τ, termState_eq_notAsserting_iff τ⟩
  · simp only [← asserting_iff]
    exact warns_iff

end Sys2Proof.Machine
end

section
/-! SUPPORT. The stop input, RESTORE PERMIT and the pairing windows (R114, R118 to R120, R125, R142, R152): what an event
that changes reasons and recorded restores leaves of each verdict, and its notices. -/

namespace Sys2Proof.Machine

variable {s : State}

/-! ### An event that is no evaluation (R114, R125) -/

theorem settlePermit_self (v : Verdict) : v.settlePermit v = v := by
  rw [Verdict.settlePermit, if_pos rfl]

theorem reasonEvent_verdict (s : State) (change : Group → Verdict → Verdict) (g : Group) :
    (s.reasonEvent change).verdicts[g] = s.verdicts[g].settlePermit (change g s.verdicts[g]) := by
  obtain ⟨p, h⟩ := commitVerdicts_eq s (fun g => change g s.verdicts[g]) s.groupCycle
  rw [State.reasonEvent, h]
  simp

theorem reasonEvent_ports_get (s : State) (change : Group → Verdict → Verdict) (l : Link) :
    let t := s.reasonEvent change
    t.ports.get l = (s.ports.get l).offerAll s.clock (s.permitNotices t t.groupCycle) := by
  intro t
  have changes := reasonEvent_changes s change
  have cycle : t.groupCycle = s.groupCycle :=
    groupCycle_congr (changes .trackers (by decide)) (changes .planStore (by decide))
  rw [cycle]
  exact commitVerdicts_ports_get s _ _ l

/-- An event that leaves every reason set and every permit raises no notice, and leaves all but the verdicts. -/
theorem reasonEvent_of_same {change : Group → Verdict → Verdict}
    (same : ∀ g : Group, (change g s.verdicts[g]).reasons = s.verdicts[g].reasons ∧
      (change g s.verdicts[g]).given = s.verdicts[g].given) :
    s.reasonEvent change = { s with verdicts := Vector.ofFn fun g : Group => change g s.verdicts[g] } := by
  have permit : ∀ g : Group, s.verdicts[g].settlePermit (change g s.verdicts[g]) = change g s.verdicts[g] := fun g => by
    obtain ⟨reasons, given⟩ := same g
    rw [Verdict.settlePermit, if_pos reasons, ← given]
  have silent : ∀ g : Group, permitNotice g (s.groupCycle g) s.verdicts[g] (change g s.verdicts[g]) = none := fun g =>
    if_pos (same g).2.symm
  simp only [State.reasonEvent, State.commitVerdicts, permit, silent, List.filterMap_none]
  rfl

/-- The verdicts with that of one group changed. -/
theorem ofFn_onGroup (v : Vector Verdict 4) (g : Group) (f : Verdict → Verdict) :
    (Vector.ofFn fun g' : Group => onGroup g f g' v[g']) = v.set g (f v[g]) := by
  refine Vector.ext fun i hi => ?_
  have set := vector_getElem_set v g ⟨i, hi⟩ (f v[g])
  rw [Fin.getElem_fin] at set
  rw [Vector.getElem_ofFn, set, onGroup]
  split
  · next own => rw [own]
  · rfl

/-- Such an event at one group. -/
theorem groupEvent_of_same {g : Group} {f : Verdict → Verdict}
    (reasons : (f s.verdicts[g]).reasons = s.verdicts[g].reasons) (given : (f s.verdicts[g]).given = s.verdicts[g].given) :
    s.reasonEvent (onGroup g f) = { s with verdicts := s.verdicts.set g (f s.verdicts[g]) } := by
  rw [← ofFn_onGroup]
  refine reasonEvent_of_same fun g' => ?_
  unfold onGroup
  split
  · next own => subst own; exact ⟨reasons, given⟩
  · exact ⟨rfl, rfl⟩

/-- An event at one group leaves the verdicts of the others. -/
theorem groupEvent_verdicts (s : State) (g : Group) (f : Verdict → Verdict) : (s.reasonEvent (onGroup g f)).verdicts =
    s.verdicts.set g (s.verdicts[g].settlePermit (f s.verdicts[g])) := by
  rw [← ofFn_onGroup s.verdicts g fun v => v.settlePermit (f v)]
  refine Vector.ext fun i hi => ?_
  have verdict := reasonEvent_verdict s (onGroup g f) ⟨i, hi⟩
  rw [Fin.getElem_fin] at verdict
  rw [verdict, Vector.getElem_ofFn]
  unfold onGroup
  split
  · rfl
  · exact settlePermit_self _

/-! ### The stop input (R120) -/

/-- Settles O25: STOP follows the input in every group's set, and each permit its own set. -/
theorem stopInputChanges : Obligations.StopInputChanges := by
  intro asserted s sound changed
  have verdict : ∀ g : Group, (s.changeStop asserted).verdicts[g] =
      s.verdicts[g].settlePermit (s.verdicts[g].setStop asserted) :=
    reasonEvent_verdict (s.stopSet asserted) fun _ => Verdict.setStop asserted
  exact ⟨s.changeStop asserted, congrArg Host.Outcome.next (if_pos (bne_iff_ne.2 changed)),
    reasonEvent_changes (s.stopSet asserted) _ .stopInput (by decide),
    fun g => (verdict g).trans (settlePermit_of_sound (sound g) _),
    raised_of_offerAll (reasonEvent_ports_get (s.stopSet asserted) _),
    changes_mono (changeStop_changes s asserted) (by decide)⟩

/-! ### RESTORE PERMIT (R118) -/

theorem exec_restorePermit {l : Link} {tag group : Byte} {g : Group} {t : State} {code : ReplyCode} (ready : s.Ready l)
    (other : l ≠ .m) (hg : indexFrom1 4 group = some g) (answer : s.restorePermit l g = (t, code)) (calm : t.calm) :
    exec (.restorePermit l tag group) s = .next (t.reply l ((Command.restorePermit group).frame tag) code []) :=
  exec_answered (c := .restorePermit group) (a := ⟨t, code, []⟩) ready rfl rfl rfl (bne_iff_ne.2 other) nofun
    (by simp only [State.runCommand, runRestorePermit, hg, answer]; rfl) calm

/-- Settles O26: the rows of R118 in the order of its tests. -/
theorem restorePermitPairs : Obligations.RestorePermitPairs := by
  refine fun l tag group g s ready other hg => ⟨fun trip => ?_, fun trip absent => ?_, fun trip restore fresh => ?_,
    fun w trip restore own => ?_, fun l' w first trip restore recorded => ?_⟩
  · exact exec_restorePermit ready other hg (by simp only [State.restorePermit, trip, if_true]) ready.1
  · exact exec_restorePermit ready other hg
      (by simp only [State.restorePermit, trip, absent, Bool.false_eq_true, if_false, Bool.not_false, if_true]) ready.1
  · have event : s.reasonEvent (onGroup g fun v => { v with restore := some (l, s.clock) }) = { s with
        verdicts := s.verdicts.set g { s.verdicts[g] with restore := some (l, s.clock) } } :=
      groupEvent_of_same rfl rfl
    refine exec_restorePermit ready other hg ?_ ready.1
    simp only [State.restorePermit, trip, restore, fresh, Bool.false_eq_true, if_false, Bool.not_true, event]
  · exact exec_restorePermit ready other hg
      (by simp only [State.restorePermit, trip, restore, own, Bool.false_eq_true, if_false, Bool.not_true, if_true])
      ready.1
  · have ports := reasonEvent_ports_get s (onGroup g Verdict.pairRestore)
    refine ⟨s.reasonEvent (onGroup g Verdict.pairRestore), exec_restorePermit ready other hg ?_
      (calm_of_offerAll ready.1 ports), ?_, raised_of_offerAll ports, reasonEvent_changes s _⟩
    · simp only [State.restorePermit, trip, restore, recorded, first, Bool.false_eq_true, if_false, Bool.not_true]
    · have removed : s.verdicts[g].pairRestore.reasons ≠ s.verdicts[g].reasons := fun same =>
        Bool.false_ne_true ((congrArg Reasons.restore same).trans restore)
      rw [groupEvent_verdicts, Verdict.settlePermit, if_neg removed]
      rfl

/-! ### The pairing windows (R119, R142, R152) -/

/-- Settles O27: each window has run when the clock stands 5000 ms after its start. -/
theorem pairingWindowsExpire : Obligations.PairingWindowsExpire := by
  refine ⟨fun g s l w recorded run => ?_, fun s p n l w staging run => ?_, fun g s l n w offered run => ?_⟩
  · have due : s.restoreDue g = true := by simp only [State.restoreDue, recorded, run]; exact beq_self_eq_true _
    have expires : s.expireRestore g = { s with
        verdicts := s.verdicts.set g { s.verdicts[g] with restore := none } } :=
      groupEvent_of_same (f := Verdict.withdrawRestore) rfl rfl
    exact congrArg Host.Outcome.next ((if_pos due).trans expires)
  · have due : s.acceptDue = true := by simp only [State.acceptDue, staging, run]; exact beq_self_eq_true _
    have expires : s.expireAccept = s.abandonSealed none n := by simp only [State.expireAccept, staging]
    exact congrArg Host.Outcome.next ((if_pos due).trans expires)
  · have due : s.offerDue g = true := by simp only [State.offerDue, offered, run]; exact beq_self_eq_true _
    exact congrArg Host.Outcome.next (if_pos due)

end Sys2Proof.Machine
end

section
/-! SUPPORT. TEST GRANT (R150, R151, R153): the offer, the refusals, and the start of a test with its verdicts and
notices. -/

namespace Sys2Proof.Machine

variable {s : State} {g : Group}

/-! ### The command at a port at rest -/

theorem exec_testGrant {l : Link} {group : Byte} {seconds : Half} {t : State} {code : ReplyCode} (tag : Byte)
    (ready : s.Ready l) (other : l ≠ .m) (hg : indexFrom1 4 group = some g)
    (answer : s.grantTest l g (clampDuration seconds.toNat) = (t, code)) (calm : t.calm) :
    exec (.testGrant l tag group seconds) s =
      .next (t.reply l ((Command.testGrant group seconds).frame tag) code []) := by
  have parses : parse ((Command.testGrant group seconds).frame tag) = some (.testGrant group seconds) := by
    show some (Command.testGrant group (half (seconds.extractLsb' 0 8) (seconds.extractLsb' 8 8))) = _
    rw [half_of_bytes]
  refine exec_answered (c := .testGrant group seconds) (a := ⟨t, code, []⟩) ready rfl rfl parses (bne_iff_ne.2 other)
    nofun ?_ calm
  simp only [State.runCommand, runTestGrant, hg, answer]
  rfl

/-! ### The rows of R150 and R151 -/

section
variable {l l' : Link} {n : Nat} {w : Word}

theorem grantTest_of_idle_inService (n : Nat) (l : Link) (idle : s.tests[g] = .idle) (high : s.inService[g] = true) :
    s.grantTest l g n = (s, .notOutOfService) := by
  simp only [State.grantTest, idle, high, if_true]

theorem grantTest_of_idle (n : Nat) (l : Link) (idle : s.tests[g] = .idle) (low : s.inService[g] = false) :
    s.grantTest l g n =
      ((s.setTest g (.offered l n s.clock)).raise (.test g .idle .offered (.duration n)), .ok) := by
  simp only [State.grantTest, idle, low, Bool.false_eq_true, if_false]
  rfl

theorem grantTest_of_own (n m : Nat) (offered : s.tests[g] = .offered l m w) : s.grantTest l g n = (s, .ok) := by
  simp only [State.grantTest, offered, if_true]

theorem grantTest_of_other_duration {m : Nat} (other : l' ≠ l) (offered : s.tests[g] = .offered l' m w)
    (differs : m ≠ n) : s.grantTest l g n = (s, .wrongState) := by
  simp only [State.grantTest, offered, other, differs, if_false, ne_eq, not_false_eq_true, if_true]

theorem grantTest_of_match_inService (other : l' ≠ l) (offered : s.tests[g] = .offered l' n w)
    (high : s.inService[g] = true) : s.grantTest l g n =
      ((s.setTest g .idle).raise (.test g .offered .idle (.cause .notOutOfService)), .notOutOfService) := by
  simp only [State.grantTest, offered, other, high, if_false, ne_eq, not_true_eq_false, if_true]
  rfl

theorem grantTest_of_match (other : l' ≠ l) (offered : s.tests[g] = .offered l' n w) (low : s.inService[g] = false) :
    s.grantTest l g n = (s.startTest g n, .ok) := by
  simp only [State.grantTest, offered, other, low, if_false, ne_eq, not_true_eq_false, Bool.false_eq_true]

theorem grantTest_of_running (n : Nat) (l : Link) (running : s.tests[g] = .running w) :
    s.grantTest l g n = (s, .wrongState) := by
  simp only [State.grantTest, running]

end

/-! ### The start of a test (R113, R114, R117, R122, R153) -/

section
variable (s : State) (g : Group) (seconds : Nat)

theorem startTest_eq : s.startTest g seconds =
    (s.testStarted g seconds).examineEvent (fun g' => g' == g) (onGroup g Verdict.startTest) := rfl

theorem testStarted_ports_get (l : Link) : (s.testStarted g seconds).ports.get l =
    (s.ports.get l).offerAll s.clock [.test g .offered .running (.duration seconds)] := raise_ports_get _ _ l

theorem startTest_tests : (s.startTest g seconds).tests =
    s.tests.set g (.running (s.clock + BitVec.ofNat 32 (seconds * 1000))) :=
  examineEvent_changes (s.testStarted g seconds) _ _ .tests (by decide)

theorem startTest_causesExamined : s.CausesExamined (s.startTest g seconds) g :=
  examineEvent_causesExamined (changes_refl causeParts (s.testStarted g seconds)) _ _

theorem startTest_verdictsSet : s.VerdictsSet (s.startTest g seconds) (fun _ => false) (onGroup g Verdict.startTest) :=
  verdictsSet_congr
    (examineEvent_verdictsSet (changes_refl causeParts (s.testStarted g seconds)) (fun g' => g' == g)
      (onGroup g Verdict.startTest))
    rfl rfl rfl rfl rfl rfl rfl rfl rfl

/-- TEST first, then CHECK, then PERMIT (R153; log entry 15). -/
theorem startTest_ports_get (l : Link) :
    let t := s.startTest g seconds
    t.ports.get l = (s.ports.get l).offerAll s.clock ([.test g .offered .running (.duration seconds)]
      ++ s.checkNotices t t.groupCycle ++ s.permitNotices t t.groupCycle) := by
  intro t
  have later : t.ports.get l = ((s.testStarted g seconds).ports.get l).offerAll s.clock
      (s.checkNotices t t.groupCycle ++ s.permitNotices t t.groupCycle) :=
    examineEvent_ports_get (changes_refl causeParts (s.testStarted g seconds)) _ _ l
  rw [later, testStarted_ports_get, ← offerAll_append, List.append_assoc]

/-- The group's verdict once its test has started: TEST is in its set, so its permit is withdrawn (R114, R122). -/
theorem startTest_verdict {s : State} (sound : s.PermitsSound) (g : Group) (seconds : Nat) :
    (s.startTest g seconds).verdicts[g].reasons.test = true ∧ (s.startTest g seconds).verdicts[g].given = false ∧
    (s.startTest g seconds).verdicts[g].restoreDuringTest = false := by
  obtain ⟨v, -, set⟩ := verdictsSet_cases (startTest_verdictsSet s g seconds) g
  rw [set, settlePermit_of_sound (sound g), onGroup, if_pos rfl]
  exact ⟨rfl, by simp [Verdict.startTest, Reasons.isEmpty], rfl⟩

end

/-- Settles O37: the rows of R150 and R151 by the group's test state, and the start of the test. -/
theorem testGrantActs : Obligations.TestGrantActs := by
  refine fun l tag group seconds g s ready protection hg => ⟨fun idle high => ?_, fun idle low => ?_, fun m w own => ?_,
    fun l' m w other offered differs => ?_, fun l' w other offered high => ?_,
    fun l' w sound other offered low => ?_, fun w running => ?_⟩
  · exact exec_testGrant tag ready protection hg (grantTest_of_idle_inService _ l idle high) ready.1
  · exact exec_testGrant tag ready protection hg (grantTest_of_idle _ l idle low) ((raise_calm _ _).2 ready.1)
  · exact exec_testGrant tag ready protection hg (grantTest_of_own _ m own) ready.1
  · exact exec_testGrant tag ready protection hg (grantTest_of_other_duration other offered differs) ready.1
  · exact exec_testGrant tag ready protection hg (grantTest_of_match_inService other offered high)
      ((raise_calm _ _).2 ready.1)
  · have ports := startTest_ports_get s g (clampDuration seconds.toNat)
    obtain ⟨test, given, during⟩ := startTest_verdict sound g (clampDuration seconds.toNat)
    exact ⟨s.startTest g (clampDuration seconds.toNat),
      exec_testGrant tag ready protection hg (grantTest_of_match other offered low) (calm_of_offerAll ready.1 ports),
      startTest_tests s g _, test, given, startTest_causesExamined s g _, during, startTest_verdictsSet s g _,
      raised_of_offerAll ports,
      changes_comp [.tests, .checks, .verdicts, .alert, .ports]
        (changes_comp [.tests, .ports] (setTest_changes s g _) (raiseTest_changes _ g _ _ _) (by decide) (by decide))
        (examineEvent_changes _ _ _) (by decide) (by decide)⟩
  · exact exec_testGrant tag ready protection hg (grantTest_of_running _ l running) ready.1

end Sys2Proof.Machine
end

section
/-! SUPPORT. LINK RESET (R168): the staging, the accept, the restores and the offers of the link are withdrawn (R119,
R143, R152), with their notices, over a port at its values after power-on reset (R161). -/

namespace Sys2Proof.Machine

variable {s : State}

/-! ### The notices of a link reset -/

/-- The PLAN notice of a link reset: the link holds the staging (R143). -/
def State.stagingNotices (s : State) (l : Link) : List NoticeBody :=
  match s.planStore.staging with
  | .opened _ holder => if holder = l then [.plan (some l) .opened .empty s.planStore.generation] else []
  | .empty | .sealed _ _ _ => []

/-- The TEST notices of a link reset: the link's offers among the groups given (R152). -/
def State.offerNotices (s : State) (l : Link) (gs : List Group) : List NoticeBody :=
  gs.filterMap fun g => match s.tests[g] with
    | .offered l' _ _ => if l' = l then some (.test g .offered .idle (.cause .linkReset)) else none
    | .idle | .running _ => none

def State.resetNotices (s : State) (l : Link) : List NoticeBody :=
  s.stagingNotices l ++ s.offerNotices l (List.finRange 4)

theorem offerNotices_eq (s : State) (l : Link) (gs : List Group) : s.offerNotices l gs =
    (gs.filter (s.offeredBy l)).map fun g => .test g .offered .idle (.cause .linkReset) := by
  rw [← List.filterMap_eq_map, List.filterMap_filter]
  refine List.filterMap_congr fun g _ => ?_
  unfold State.offeredBy
  cases s.tests[g] with
  | offered l' n w => by_cases own : l' = l <;> simp [own]
  | idle => rfl
  | running w => rfl

/-! ### The staging and the accept (R143) -/

theorem resetStaging_ports_get (s : State) (l l' : Link) :
    (s.resetStaging l).ports.get l' = (s.ports.get l').offerAll s.clock (s.stagingNotices l) := by
  unfold State.resetStaging State.stagingNotices
  cases s.planStore.staging with
  | empty => rfl
  | opened p holder =>
    dsimp only
    split
    · exact raise_ports_get _ _ l'
    · rfl
  | sealed p n accept =>
    cases accept with
    | none => rfl
    | some a =>
      dsimp only
      split <;> rfl

theorem resetStaging_staging (s : State) (l : Link) :
    (∀ p, s.planStore.staging = .opened p l → (s.resetStaging l).planStore.staging = .empty) ∧
    (∀ p n w, s.planStore.staging = .sealed p n (some (l, w)) →
      (s.resetStaging l).planStore.staging = .sealed p n none) ∧
    ((∀ p, s.planStore.staging ≠ .opened p l) → (∀ p n w, s.planStore.staging ≠ .sealed p n (some (l, w))) →
      (s.resetStaging l).planStore.staging = s.planStore.staging) := by
  refine ⟨fun p opened => ?_, fun p n w staged => ?_, fun unheld unaccepted => ?_⟩
  · simp only [State.resetStaging, opened, if_true]
    rfl
  · simp only [State.resetStaging, staged, if_true]
    rfl
  · unfold State.resetStaging
    split
    · next staging =>
      split
      · next own => exact absurd (own ▸ staging) (unheld _)
      · rfl
    · next _ _ accept staging =>
      obtain ⟨holder, w⟩ := accept
      split
      · next own =>
        cases own
        exact absurd staging (unaccepted _ _ _)
      · rfl
    · rfl
    · rfl

theorem resetStaging_active (s : State) (l : Link) : (s.resetStaging l).planStore.active = s.planStore.active ∧
    (s.resetStaging l).planStore.generation = s.planStore.generation := by
  unfold State.resetStaging
  repeat' split
  all_goals exact ⟨rfl, rfl⟩

/-! ### The restores and the offers (R119, R152) -/

/-- Recorded restores go without a notice (R119). -/
theorem withdrawRestoresOf_eq (s : State) (l : Link) : s.reasonEvent (fun _ => Verdict.withdrawRestoreOf l) =
    { s with verdicts := Vector.ofFn fun g : Group => s.verdicts[g].withdrawRestoreOf l } :=
  reasonEvent_of_same fun g => by rw [withdrawRestoreOf_eq]; exact ⟨rfl, rfl⟩

theorem endOffers_ports_get (cause : TestCause) (l : Link) (gs : List Group) : ∀ s : State,
    (gs.foldl (fun s g => s.endOffer g cause) s).ports.get l =
      (s.ports.get l).offerAll s.clock (gs.map fun g => .test g .offered .idle (.cause cause)) := by
  induction gs with
  | nil => exact fun _ => rfl
  | cons g gs ih =>
    intro s
    rw [List.foldl_cons, ih]
    exact congrArg (Port.offerAll · s.clock _) (raise_ports_get (s.setTest g .idle) _ l)

theorem endOffers_tests (cause : TestCause) (g : Group) (gs : List Group) : ∀ s : State,
    (gs.foldl (fun s g => s.endOffer g cause) s).tests[g] = if g ∈ gs then .idle else s.tests[g] := by
  induction gs with
  | nil => exact fun s => by simp
  | cons g' gs ih =>
    intro s
    rw [List.foldl_cons, ih, endOffer_tests, vector_getElem_set]
    by_cases own : g = g' <;> simp [own]

/-! ### The port after power-on reset (R161) -/

/-- Notices fit the log of a port at its values after power-on reset, which keeps every kind (R161, R171). -/
theorem offerAll_of_room {p : Port} (mask : p.mask = Port.reset.mask) (overflow : p.overflow = false) (clock : Word)
    (bs : List NoticeBody) (room : p.log.length + bs.length ≤ logRoom) :
    p.offerAll clock bs = { p with log := p.log ++ bs.map fun b => { stamp := clock, body := b } } := by
  induction bs generalizing p with
  | nil => simp [Port.offerAll]
  | cons b bs ih =>
    have kept : p.mask.keeps b = true := by rw [mask]; cases b <;> rfl
    rw [List.length_cons] at room
    have joins : p.offer { stamp := clock, body := b } = { p with log := p.log ++ [{ stamp := clock, body := b }] } := by
      rw [Port.offer, kept, overflow, if_neg (by decide), if_pos (by omega)]
    have others := ih (p := { p with log := p.log ++ [{ stamp := clock, body := b }] }) mask overflow
      (by simp only [List.length_append, List.length_singleton]; omega)
    refine (congrArg (Port.offerAll · clock bs) joins).trans (others.trans ?_)
    simp

theorem resetNotices_length (s : State) (l : Link) : (s.resetNotices l).length ≤ logRoom := by
  have staging : (s.stagingNotices l).length ≤ 1 := by
    unfold State.stagingNotices
    split
    · split <;> simp
    · simp
    · simp
  have offers : (s.offerNotices l (List.finRange 4)).length ≤ 4 :=
    (List.length_filterMap_le _ _).trans (by simp)
  simp only [State.resetNotices, List.length_append, logRoom]
  omega

/-! ### The link reset as a whole (R168) -/

/-- The state in which a link reset ends the link's offers. -/
def State.linkWithdrawn (s : State) (l : Link) : State :=
  ((s.setPort l Port.reset).resetStaging l).reasonEvent (fun _ => Verdict.withdrawRestoreOf l)

theorem linkWithdrawn_changes (s : State) (l : Link) :
    State.ChangesOnly [.ports, .planStore, .verdicts] s (s.linkWithdrawn l) :=
  changes_trans (changes_comp _ (setPort_changes s l _) (resetStaging_changes _ l) (by decide) (by decide))
    (changes_mono (reasonEvent_changes _ _) (by decide))

theorem resetLink_eq (s : State) (l : Link) : s.resetLink l =
    ((List.finRange 4).filter (s.offeredBy l)).foldl (fun u g => u.endOffer g .linkReset) (s.linkWithdrawn l) := by
  have offered : (s.linkWithdrawn l).offeredBy l = s.offeredBy l := by
    funext g
    rw [State.offeredBy, State.offeredBy,
      show (s.linkWithdrawn l).tests = s.tests from linkWithdrawn_changes s l .tests (by decide)]
  rw [← offered]
  rfl

theorem resetLink_changes_of_withdrawn (s : State) (l : Link) :
    State.ChangesOnly [.tests, .ports] (s.linkWithdrawn l) (s.resetLink l) := by
  rw [resetLink_eq]
  exact changes_foldl _ (fun u g => endOffer_changes u g .linkReset) _ _

theorem resetLink_ports_get (s : State) (l l' : Link) : (s.resetLink l).ports.get l' =
    ((s.setPort l Port.reset).ports.get l').offerAll s.clock (s.resetNotices l) := by
  have ports : (s.linkWithdrawn l).ports = ((s.setPort l Port.reset).resetStaging l).ports := by
    rw [State.linkWithdrawn, withdrawRestoresOf_eq]
  have clock : (s.linkWithdrawn l).clock = s.clock := linkWithdrawn_changes s l .clock (by decide)
  rw [resetLink_eq, endOffers_ports_get, ports, clock, resetStaging_ports_get, ← offerNotices_eq, State.resetNotices,
    offerAll_append]
  rfl

theorem resetLink_verdicts (s : State) (l : Link) (g : Group) :
    (s.resetLink l).verdicts[g] = s.verdicts[g].withdrawRestoreOf l := by
  have later : (s.resetLink l).verdicts = (s.linkWithdrawn l).verdicts :=
    resetLink_changes_of_withdrawn s l .verdicts (by decide)
  have before : ((s.setPort l Port.reset).resetStaging l).verdicts = s.verdicts :=
    resetStaging_changes (s.setPort l Port.reset) l .verdicts (by decide)
  rw [later, State.linkWithdrawn, withdrawRestoresOf_eq]
  simp [before]

theorem resetLink_tests (s : State) (l : Link) (g : Group) :
    (s.resetLink l).tests[g] = if s.offeredBy l g = true then .idle else s.tests[g] := by
  have before : (s.linkWithdrawn l).tests = s.tests := linkWithdrawn_changes s l .tests (by decide)
  rw [resetLink_eq, endOffers_tests, before]
  simp [List.mem_filter]

theorem resetLink_planStore (s : State) (l : Link) :
    (s.resetLink l).planStore = ((s.setPort l Port.reset).resetStaging l).planStore :=
  (resetLink_changes_of_withdrawn s l .planStore (by decide)).trans (reasonEvent_changes _ _ .planStore (by decide))

/-- Settles O47: what the link holds goes, with its notices, over a port at its values after power-on reset. -/
theorem linkResetActs : Obligations.LinkResetActs := by
  intro l s
  obtain ⟨empties, withdraws, stays⟩ := resetStaging_staging (s.setPort l Port.reset) l
  obtain ⟨active, generation⟩ := resetStaging_active (s.setPort l Port.reset) l
  refine ⟨s.resetLink l, rfl, ?_, fun l' ne => ?_, rfl, ?_, ?_, ?_, ?_, ?_, fun g => ?_, fun g => ?_,
    resetLink_changes s l⟩
  · have room := resetNotices_length s l
    rw [resetLink_ports_get, setPort_ports, perLink_get_set_self]
    exact offerAll_of_room rfl rfl s.clock _ (by simpa [Port.reset] using room)
  · have port : (s.resetLink l).ports.get l' = (s.ports.get l').offerAll s.clock (s.resetNotices l) := by
      rw [resetLink_ports_get, setPort_ports, perLink_get_set_ne _ _ ne]
    obtain ⟨queue, replies, drain, mask, halted, dropped⟩ :=
      offerAll_keeps (s.ports.get l') s.clock (s.resetNotices l)
    rw [raiseAll_ports_get, port]
    exact ⟨rfl, rfl, queue, mask, halted, dropped, replies, drain⟩
  · rw [resetLink_planStore]; exact active
  · rw [resetLink_planStore]; exact generation
  · rw [resetLink_planStore]; exact empties
  · rw [resetLink_planStore]; exact withdraws
  · rw [resetLink_planStore]; exact stays
  · exact (resetLink_verdicts s l g).trans (withdrawRestoreOf_eq l s.verdicts[g])
  · rw [resetLink_tests, State.offeredBy]
    cases s.tests[g] with
    | idle => rfl
    | running w => rfl
    | offered l' n w => by_cases own : l' = l <;> simp [own]

end Sys2Proof.Machine
end

section
/-! SUPPORT. The commands of the plan store at a port at rest: OPEN STAGING, SEAL, DISCARD STAGING and ACCEPT PLAN
short of a pair (R132, R135, R140, R141). -/

namespace Sys2Proof.Machine

section
variable {s t : State} {l : Link} {code : ReplyCode}

/-! ### The four commands answered -/

theorem restage_calm (h : s.calm) (x : Staging) (subject : Option Link) (old new : PlanPhase) (n : Half) :
    ((s.setStaging x).raisePlan subject old new n).calm :=
  (raise_calm (s.setStaging x) (.plan subject old new n)).2 h

theorem exec_openStaging (tag : Byte) (ready : s.Ready l) (answer : s.openStaging l = (t, code)) (calm : t.calm) :
    exec (.openStaging l tag) s = .next (t.reply l (Command.openStaging.frame tag) code []) :=
  exec_answered (a := .plain (t, code)) ready rfl rfl rfl rfl nofun (congrArg Answer.plain answer) calm

theorem exec_seal {body : List Byte} (tag : Byte) (ready : s.Ready l) (answer : s.sealStaging l = (t, code, body))
    (calm : t.calm) : exec (.seal l tag) s = .next (t.reply l (Command.seal.frame tag) code body) := by
  refine exec_answered (c := .seal) (a := ⟨t, code, body⟩) ready rfl rfl rfl rfl nofun ?_ calm
  simp only [State.runCommand, runSeal, answer]

theorem exec_discardStaging (tag : Byte) (ready : s.Ready l) (answer : s.discardStaging l = (t, code))
    (calm : t.calm) :
    exec (.discardStaging l tag) s = .next (t.reply l (Command.discardStaging.frame tag) code []) :=
  exec_answered (a := .plain (t, code)) ready rfl rfl rfl rfl nofun (congrArg Answer.plain answer) calm

theorem parse_acceptPlan_frame (tag : Byte) (n : Half) :
    parse ((Command.acceptPlan n).frame tag) = some (.acceptPlan n) :=
  congrArg (fun m => some (Command.acceptPlan m)) (half_of_bytes n)

theorem exec_acceptPlan {n : Half} (tag : Byte) (ready : s.Ready l) (protection : l ≠ .m)
    (answer : s.acceptPlan l n = (t, code)) (calm : t.calm) :
    exec (.acceptPlan l tag n) s = .next (t.reply l ((Command.acceptPlan n).frame tag) code []) :=
  exec_answered (a := .plain (t, code)) ready rfl rfl (parse_acceptPlan_frame tag n) (bne_iff_ne.2 protection) nofun
    (congrArg Answer.plain answer) calm

/-! ### The lock (R131) -/

theorem editedBy_holder (p : Plan) (l : Link) : (Staging.opened p l).editedBy l = some p := if_pos rfl

theorem editedBy_eq_none {x : Staging} (h : ∀ p, x ≠ .opened p l) : x.editedBy l = none :=
  Option.eq_none_iff_forall_ne_some.2 fun p edited => h p (editedBy_eq_some edited)

end

/-! ### OPEN STAGING (R132) -/

section
variable {s : State} {l : Link}

theorem openStaging_of_guarded (h : s.plan.guardLevel = 3 ∨ 1 ≤ s.plan.guardLevel ∧ l = .m) :
    s.openStaging l = (s, .guarded) := by
  obtain frozen | supervised := h
  · exact if_pos frozen
  · rw [State.openStaging, if_pos supervised, ite_self]

/-- Settles O29: the guard first, then the state of the staging. -/
theorem openStagingTests : Obligations.OpenStagingTests := by
  intro l tag s ready
  refine ⟨fun guarded => exec_openStaging tag ready (openStaging_of_guarded guarded) ready.1, fun free => ?_⟩
  obtain ⟨notFrozen, notSupervised⟩ := not_or.1 free
  refine ⟨fun p l' staging other => ?_, fun p staging => ?_, fun p n a staging => ?_, fun staging => ?_⟩
  · refine exec_openStaging tag ready ?_ ready.1
    simp only [State.openStaging, notFrozen, notSupervised, staging, other, if_false]
  · refine exec_openStaging tag ready ?_ ready.1
    simp only [State.openStaging, notFrozen, notSupervised, staging, if_false, if_true]
  · refine exec_openStaging tag ready ?_ ready.1
    simp only [State.openStaging, notFrozen, notSupervised, staging, if_false]
  · refine exec_openStaging tag ready ?_ (restage_calm ready.1 (.opened s.plan l) _ _ _ _)
    simp only [State.openStaging, notFrozen, notSupervised, staging, if_false]
    rfl

end

/-! ### SEAL (R135) -/

theorem errorBody_eq (es : List SealError) : errorBody es =
    le16 (halfOf es.length) ++ [byteOf (min 8 es.length)] ++ (es.take 8).flatMap SealError.bytes := by
  rw [errorBody, List.length_take]

/-- Settles O31: by who holds the lock, then by what the validation finds. -/
theorem sealActs : Obligations.SealActs := by
  refine fun l tag s ready => ⟨fun notHolder => ?_, fun p staging invalid => ?_, fun p staging valid => ?_⟩
  · refine exec_seal tag ready ?_ ready.1
    rw [State.sealStaging, editedBy_eq_none notHolder]
  · refine exec_seal tag ready ?_ ready.1
    rw [← errorBody_eq]
    simp only [State.sealStaging, staging, editedBy_holder, List.isEmpty_iff, invalid, if_false]
  · refine exec_seal tag ready ?_
      (restage_calm ready.1 (.sealed p (nextGeneration s.planStore.generation) none) _ _ _ _)
    simp only [State.sealStaging, staging, editedBy_holder, valid, List.isEmpty_nil, if_true]
    rfl

/-! ### DISCARD STAGING (R140) -/

/-- Settles O33: a case for each row of the table of R140. -/
theorem discardStagingActs : Obligations.DiscardStagingActs := by
  refine fun l tag s ready => ⟨fun staging => ?_, fun p staging => ?_, fun p l' other staging => ?_,
    fun p n a protection staging => ?_, fun p n a supervisory staging => ?_⟩
  · exact exec_discardStaging tag ready (by rw [State.discardStaging, staging]) ready.1
  · exact exec_discardStaging tag ready (by rw [State.discardStaging, staging]; exact if_pos rfl)
      (restage_calm ready.1 _ _ _ _ _)
  · exact exec_discardStaging tag ready (by rw [State.discardStaging, staging]; exact if_neg other) ready.1
  · exact exec_discardStaging tag ready (by rw [State.discardStaging, staging]; exact if_neg protection)
      (restage_calm ready.1 _ _ _ _ _)
  · exact exec_discardStaging tag ready (by rw [State.discardStaging, staging]; exact if_pos supervisory) ready.1

/-! ### ACCEPT PLAN (R141) -/

section
variable {s : State} {l : Link} {p : Plan} {n : Half}

theorem acceptPlan_of_not_sealed (m : Half) (h : ∀ p n a, s.planStore.staging ≠ .sealed p n a) :
    s.acceptPlan l m = (s, .wrongState) := by
  unfold State.acceptPlan
  cases staging : s.planStore.staging with
  | empty => rfl
  | opened p holder => rfl
  | sealed p n a => exact absurd staging (h p n a)

theorem acceptPlan_of_stale {m : Half} {a : Option (Link × Word)} (staging : s.planStore.staging = .sealed p n a)
    (other : m ≠ n) : s.acceptPlan l m = (s, .stale) := by
  rw [State.acceptPlan, staging]
  exact if_pos other

theorem acceptPlan_of_first (staging : s.planStore.staging = .sealed p n none) :
    s.acceptPlan l n = (s.setStaging (.sealed p n (some (l, s.clock))), .ok) := by
  rw [State.acceptPlan, staging]
  exact if_neg (not_not_intro rfl)

theorem acceptPlan_of_own {w : Word} (staging : s.planStore.staging = .sealed p n (some (l, w))) :
    s.acceptPlan l n = (s, .ok) := by
  rw [State.acceptPlan, staging]
  exact (if_neg (not_not_intro rfl)).trans (if_pos rfl)

end

/-- Settles O34: the rows of R141 that end short of an activation. -/
theorem acceptPlanFirst : Obligations.AcceptPlanFirst := by
  refine fun l tag n s ready protection => ⟨fun unsealed => ?_, fun p m a staging stale => ?_, fun p staging => ?_,
    fun p w staging => ?_⟩
  · exact exec_acceptPlan tag ready protection (acceptPlan_of_not_sealed n unsealed) ready.1
  · exact exec_acceptPlan tag ready protection (acceptPlan_of_stale staging stale) ready.1
  · exact exec_acceptPlan tag ready protection (acceptPlan_of_first staging) ready.1
  · exact exec_acceptPlan tag ready protection (acceptPlan_of_own staging) ready.1

end Sys2Proof.Machine
end

section
/-! SUPPORT. The validation of a staged plan (R136 to R139): which errors each item has, and their order in the list. -/

namespace Sys2Proof.Machine

/-! ### The items of a plan -/

/-- The items of a plan (11.3). -/
inductive ItemIx where
  | check (i : CheckIx)
  | channel (c : Channel)
  | group (g : Group)
  | reference (r : Ref)
  | weights (b : Fin 8)
  | global
deriving DecidableEq

def ItemIx.kind : ItemIx → ItemKind
  | .check _ => .check
  | .channel _ => .channel
  | .group _ => .group
  | .reference _ => .reference
  | .weights _ => .weights
  | .global => .global

/-- The number under which an item travels (R133). -/
def ItemIx.number : ItemIx → Nat
  | .check i => i.val
  | .channel c => c.val + 1
  | .group g => g.val + 1
  | .reference r => r.number.toNat
  | .weights b => b.val + 1
  | .global => 0

theorem itemIx_ext {a b : ItemIx} (kind : a.kind = b.kind) (number : a.number = b.number) : a = b := by
  cases a <;> cases b <;> cases kind
  case check => exact congrArg ItemIx.check (Fin.ext number)
  case channel => exact congrArg ItemIx.channel (Fin.ext (Nat.succ.inj number))
  case group => exact congrArg ItemIx.group (Fin.ext (Nat.succ.inj number))
  case reference r r' => exact congrArg ItemIx.reference (by revert number; cases r <;> cases r' <;> decide)
  case weights => exact congrArg ItemIx.weights (Fin.ext (Nat.succ.inj number))
  case global => rfl

/-- The order of the kinds of items in a validation (R137). -/
def ItemKind.rank : ItemKind → Nat
  | .check => 0
  | .channel => 1
  | .group => 2
  | .reference => 3
  | .weights => 4
  | .global => 5

/-- An item stands before another in a validation: kind by kind, and within a kind by number. -/
def ItemIx.Before (a b : ItemIx) : Prop :=
  a.kind.rank < b.kind.rank ∨ a.kind.rank = b.kind.rank ∧ a.number < b.number

/-- The items in the order in which a validation examines them. -/
def validated : List ItemIx :=
  (List.finRange 64).map .check ++ (List.finRange 16).map .channel ++ (List.finRange 4).map .group
    ++ [Ref.r1, .r2].map .reference ++ (List.finRange 8).map .weights ++ [.global]

theorem mem_validated (a : ItemIx) : a ∈ validated := by
  cases a with
  | reference r => cases r <;> simp [validated]
  | _ => simp [validated]

theorem pairwise_map_before {n : Nat} {f : Fin n → ItemIx} {k : ItemKind} (kind : ∀ i, (f i).kind = k)
    (number : ∀ i j, i < j → (f i).number < (f j).number) :
    ((List.finRange n).map f).Pairwise ItemIx.Before :=
  List.pairwise_map.2 ((List.pairwise_lt_finRange n).imp fun {i j} lt =>
    .inr ⟨by rw [kind i, kind j], number i j lt⟩)

theorem validated_pairwise : validated.Pairwise ItemIx.Before := by
  have succ : ∀ n (i j : Fin n), i < j → i.val + 1 < j.val + 1 := fun _ _ _ => Nat.succ_lt_succ
  have checks := pairwise_map_before (f := ItemIx.check) (fun _ => rfl) (fun _ _ lt => lt)
  have channels := pairwise_map_before (f := ItemIx.channel) (fun _ => rfl) (succ _)
  have groups := pairwise_map_before (f := ItemIx.group) (fun _ => rfl) (succ _)
  have references : ([Ref.r1, .r2].map ItemIx.reference).Pairwise ItemIx.Before := by
    simp [ItemIx.Before, ItemIx.kind, ItemIx.number, Ref.number]
  have weights := pairwise_map_before (f := ItemIx.weights) (fun _ => rfl) (succ _)
  simp only [validated, List.pairwise_append, checks, channels, groups, references, weights, List.pairwise_singleton,
    List.mem_append, List.mem_map, true_and]
  refine ⟨⟨⟨⟨?_, ?_⟩, ?_⟩, ?_⟩, ?_⟩ <;>
    simp +contextual [or_imp, forall_and, ItemIx.Before, ItemIx.kind, ItemKind.rank]

/-! ### The errors of one item -/

/-- The kinds of error that an item can have (R136, R138, R139), in the order of their codes. -/
def ItemKind.errorKinds : ItemKind → List ErrorKind
  | .check => [.bandInverted, .channelDisabled, .spreadSameChannel, .spreadCrossReference, .guardFrozen]
  | .group => [.emptyTerm, .guardFrozen]
  | .channel | .reference | .weights => [.guardFrozen]
  | .global => [.guardLowered]

/-- Whether a validation finds an error of the kind at the item; `errors_eq_flatMap` ties it to the model. -/
def Plan.finds (staged active : Plan) : ItemIx → ErrorKind → Bool
  | .check i, .bandInverted => staged.checks[i].enabled && staged.checks[i].bandInverted
  | .check i, .channelDisabled => staged.checks[i].enabled && staged.namesDisabled staged.checks[i]
  | .check i, .spreadSameChannel => staged.checks[i].enabled && staged.checks[i].spreadSame
  | .check i, .spreadCrossReference => staged.checks[i].enabled && staged.spreadCross staged.checks[i]
  | .check i, .guardFrozen => active.freezesChecks &&
      staged.checks[i] != { active.checks[i] with enabled := staged.checks[i].enabled }
  | .channel c, .guardFrozen => active.freezesSettings && staged.channels[c] != active.channels[c]
  | .group g, .emptyTerm => staged.emptyTerm g
  | .group g, .guardFrozen => active.freezesChecks && staged.groups[g] != active.groups[g]
  | .reference r, .guardFrozen => active.freezesSettings && staged.refs.get r != active.refs.get r
  | .weights b, .guardFrozen => active.freezesSettings && staged.weightBlock b != active.weightBlock b
  | .global, .guardLowered => decide (staged.guardLevel < active.guardLevel)
  | _, _ => false

def Plan.itemErrors (staged active : Plan) (a : ItemIx) : List SealError :=
  a.kind.errorKinds.flatMap fun k => found (staged.finds active a k) k a.kind a.number

section
variable {staged active : Plan}

theorem errors_eq_flatMap : staged.errors active = validated.flatMap (staged.itemErrors active) := by
  have check : staged.checkErrors active = fun i => staged.itemErrors active (.check i) := funext fun i => by
    simp [Plan.checkErrors, Plan.itemErrors, ItemIx.kind, ItemKind.errorKinds, Plan.finds, ItemIx.number]
  have channel : staged.channelErrors active = fun c => staged.itemErrors active (.channel c) := funext fun c =>
    (List.append_nil _).symm
  have group : staged.groupErrors active = fun g => staged.itemErrors active (.group g) := funext fun g => by
    simp [Plan.groupErrors, Plan.itemErrors, ItemIx.kind, ItemKind.errorKinds, Plan.finds, ItemIx.number]
  have reference : staged.referenceErrors active = fun r => staged.itemErrors active (.reference r) :=
    funext fun r => (List.append_nil _).symm
  have weights : staged.weightErrors active = fun b => staged.itemErrors active (.weights b) := funext fun b =>
    (List.append_nil _).symm
  have global : staged.globalErrors active = staged.itemErrors active .global := (List.append_nil _).symm
  simp only [Plan.errors, validated, List.flatMap_append, List.flatMap_map, List.flatMap_singleton, check, channel,
    group, reference, weights, global]

theorem mem_found_iff {b : Bool} {kind : ErrorKind} {item : ItemKind} {number : Nat} {x : SealError} :
    x ∈ found b kind item number ↔ b = true ∧ x = ⟨kind, item, number⟩ := by
  cases b <;> simp [found]

theorem mem_itemErrors_iff {a : ItemIx} {x : SealError} : x ∈ staged.itemErrors active a ↔
    x.kind ∈ a.kind.errorKinds ∧ staged.finds active a x.kind = true ∧ x.item = a.kind ∧ x.number = a.number := by
  simp only [Plan.itemErrors, List.mem_flatMap, mem_found_iff]
  constructor
  · rintro ⟨k, possible, finds, rfl⟩
    exact ⟨possible, finds, rfl, rfl⟩
  · rintro ⟨possible, finds, item, number⟩
    exact ⟨x.kind, possible, finds, by rw [← item, ← number]⟩

/-- A validation finds an error at an item if and only if the item can have it and does. -/
theorem mem_errors_iff (a : ItemIx) (k : ErrorKind) : ⟨k, a.kind, a.number⟩ ∈ staged.errors active ↔
    k ∈ a.kind.errorKinds ∧ staged.finds active a k = true := by
  simp only [errors_eq_flatMap, List.mem_flatMap, mem_itemErrors_iff]
  constructor
  · rintro ⟨b, -, possible, finds, kind, number⟩
    obtain rfl := itemIx_ext kind number
    exact ⟨possible, finds⟩
  · rintro ⟨possible, finds⟩
    exact ⟨a, mem_validated a, possible, finds, rfl, rfl⟩

/-- Every error found is at an item of the plan and of a kind that the item can have. -/
theorem exists_item_of_mem_errors {x : SealError} (h : x ∈ staged.errors active) :
    ∃ a : ItemIx, x.item = a.kind ∧ x.number = a.number ∧ x.kind ∈ a.kind.errorKinds := by
  rw [errors_eq_flatMap] at h
  obtain ⟨a, -, error⟩ := List.mem_flatMap.1 h
  obtain ⟨possible, -, kind, number⟩ := mem_itemErrors_iff.1 error
  exact ⟨a, kind, number, possible⟩

/-! ### The order of the errors (R137) -/

/-- An error stands before another in a validation: item by item, and within an item by kind. -/
def SealError.Before (x y : SealError) : Prop :=
  x.item.rank < y.item.rank ∨ x.item.rank = y.item.rank ∧
    (x.number < y.number ∨ x.number = y.number ∧ x.kind.byte.toNat < y.kind.byte.toNat)

theorem errorKinds_pairwise (k : ItemKind) :
    k.errorKinds.Pairwise fun x y => x.byte.toNat < y.byte.toNat := by
  cases k <;> decide

theorem itemErrors_pairwise (a : ItemIx) : (staged.itemErrors active a).Pairwise SealError.Before := by
  refine List.pairwise_flatMap.2 ⟨fun k _ => ?_, (errorKinds_pairwise a.kind).imp fun {j k} lt x hx y hy => ?_⟩
  · unfold found
    split
    · exact List.pairwise_singleton _ _
    · exact .nil
  · obtain ⟨-, rfl⟩ := mem_found_iff.1 hx
    obtain ⟨-, rfl⟩ := mem_found_iff.1 hy
    exact .inr ⟨rfl, .inr ⟨rfl, lt⟩⟩

theorem errors_pairwise : (staged.errors active).Pairwise SealError.Before := by
  rw [errors_eq_flatMap]
  refine List.pairwise_flatMap.2 ⟨fun a _ => itemErrors_pairwise a, validated_pairwise.imp ?_⟩
  intro a b before x hx y hy
  obtain ⟨-, -, kindX, numberX⟩ := mem_itemErrors_iff.1 hx
  obtain ⟨-, -, kindY, numberY⟩ := mem_itemErrors_iff.1 hy
  unfold SealError.Before
  rw [kindX, numberX, kindY, numberY]
  exact before.imp_right fun ⟨rank, number⟩ => ⟨rank, .inl number⟩

/-! ### When an error is found -/

theorem bandInverted_iff (e : CheckEntry) : e.bandInverted = true ↔
    e.quantity = .mean ∧ e.high.toInt < e.low.toInt ∨ e.quantity ≠ .mean ∧ e.high.toNat < e.low.toNat := by
  by_cases mean : e.quantity = .mean <;> simp [CheckEntry.bandInverted, mean]

theorem namesDisabled_iff (p : Plan) (e : CheckEntry) : p.namesDisabled e = true ↔
    p.channels[e.channel].enabled = false ∨ e.quantity = .spread ∧ p.channels[e.second].enabled = false := by
  simp [Plan.namesDisabled]

theorem spreadSame_iff (e : CheckEntry) :
    e.spreadSame = true ↔ e.quantity = .spread ∧ e.second = e.channel := by
  simp [CheckEntry.spreadSame]

theorem spreadCross_iff (p : Plan) (e : CheckEntry) : p.spreadCross e = true ↔
    e.quantity = .spread ∧ e.second ≠ e.channel ∧ p.refOf e.channel ≠ p.refOf e.second := by
  simp [Plan.spreadCross, and_assoc]

theorem emptyTerm_iff (p : Plan) (g : Group) : p.emptyTerm g = true ↔
    p.groups[g].combine = .and ∧ p.termUsed g .t1 ≠ p.termUsed g .t2 := by
  simp [Plan.emptyTerm]

theorem frozen_iff {α : Type} [BEq α] [LawfulBEq α] (level : Nat) (x y : α) :
    (decide (level ≤ active.guardLevel) && x != y) = true ↔ level ≤ active.guardLevel ∧ x ≠ y := by
  simp

theorem weightBlock_eq_iff (p q : Plan) (b : Fin 8) : p.weightBlock b = q.weightBlock b ↔
    ∀ o : OrderIx, o.val / 8 = b.val → p.weights[o] = q.weights[o] := by
  unfold Plan.weightBlock
  rw [List.map_inj_left]
  constructor
  · intro same o block
    have slot := same (o.val % 8) (List.mem_range.2 (Nat.mod_lt _ (by decide)))
    have place : 8 * b.val + o.val % 8 = o.val := by omega
    simpa [Plan.weightAt, place] using slot
  · intro same j small
    have lt := List.mem_range.1 small
    unfold Plan.weightAt
    split
    · next order => exact same ⟨8 * b.val + j, order⟩ (by dsimp only; omega)
    · rfl

theorem weightBlock_ne_iff (p q : Plan) (b : Fin 8) : p.weightBlock b ≠ q.weightBlock b ↔
    ∃ o : OrderIx, o.val / 8 = b.val ∧ p.weights[o] ≠ q.weights[o] := by
  rw [Ne, weightBlock_eq_iff]
  simp only [not_forall, exists_prop, Ne]

end

/-- Settles O32: the errors are those of each item in turn, in the order of `validated`. -/
theorem validationFinds : Obligations.ValidationFinds := by
  intro staged active
  have at_item : ∀ {a : ItemIx} {k : ErrorKind} {P : Prop}, decide (k ∈ a.kind.errorKinds) = true →
      (staged.finds active a k = true ↔ P) → (⟨k, a.kind, a.number⟩ ∈ staged.errors active ↔ P) :=
    fun {a k _} possible h => (mem_errors_iff a k).trans ((and_iff_right (of_decide_eq_true possible)).trans h)
  refine ⟨at_item (a := .global) rfl decide_eq_true_iff, fun i => ⟨?_, ?_, ?_, ?_, ?_⟩, fun c => ?_,
    fun g => ⟨?_, ?_⟩, fun r => ?_, fun b => ?_, fun x mem => ?_, errors_pairwise⟩
  · exact at_item (a := .check i) rfl ((Bool.and_eq_true _ _).to_iff.trans
      (and_congr_right fun _ => bandInverted_iff _))
  · exact at_item (a := .check i) rfl ((Bool.and_eq_true _ _).to_iff.trans
      (and_congr_right fun _ => namesDisabled_iff _ _))
  · exact at_item (a := .check i) rfl ((Bool.and_eq_true _ _).to_iff.trans
      (and_congr_right fun _ => spreadSame_iff _))
  · exact at_item (a := .check i) rfl ((Bool.and_eq_true _ _).to_iff.trans
      (and_congr_right fun _ => spreadCross_iff _ _))
  · exact at_item (a := .check i) rfl (frozen_iff 2 _ _)
  · exact at_item (a := .channel c) rfl (frozen_iff 1 _ _)
  · exact at_item (a := .group g) rfl (emptyTerm_iff staged g)
  · exact at_item (a := .group g) rfl (frozen_iff 2 _ _)
  · exact at_item (a := .reference r) rfl (frozen_iff 1 _ _)
  · exact at_item (a := .weights b) rfl ((frozen_iff (active := active) 1 _ _).trans
      (and_congr_right fun _ => weightBlock_ne_iff staged active b))
  · obtain ⟨a, item, number, possible⟩ := exists_item_of_mem_errors mem
    rw [item, number]
    cases a with
    | check i => exact ⟨Nat.le_of_lt_succ i.isLt, possible⟩
    | channel c => exact ⟨Nat.succ_pos _, c.isLt, List.mem_singleton.1 possible⟩
    | group g => exact ⟨Nat.succ_pos _, g.isLt, possible⟩
    | reference r => exact ⟨by cases r <;> decide, by cases r <;> decide, List.mem_singleton.1 possible⟩
    | weights b => exact ⟨Nat.succ_pos _, b.isLt, List.mem_singleton.1 possible⟩
    | global => exact ⟨rfl, List.mem_singleton.1 possible⟩

end Sys2Proof.Machine
end

section
/-! SUPPORT. WRITE ENTRY (R133, R134) and what a READ ENTRY gives back (R148): the fields an item names, the bytes in
which it is stored, and the items that a write leaves as they were. -/

namespace Sys2Proof.Machine

/-! ### Number and code fields (R179) -/

theorem indexFrom0_eq_some_iff {n : Nat} {b : Byte} {i : Fin n} : indexFrom0 n b = some i ↔ b.toNat = i.val := by
  unfold indexFrom0
  split
  · simp [Fin.ext_iff]
  · next large => simp only [reduceCtorEq, false_iff]; omega

theorem indexFrom1_eq_some_iff {n : Nat} {b : Byte} {i : Fin n} :
    indexFrom1 n b = some i ↔ b.toNat = i.val + 1 := by
  unfold indexFrom1
  split
  · simp only [Option.some.injEq, Fin.ext_iff]; omega
  · next outside => simp only [reduceCtorEq, false_iff]; omega

theorem indexFrom0_isSome_iff {n : Nat} {b : Byte} : (indexFrom0 n b).isSome = true ↔ b.toNat < n := by
  unfold indexFrom0
  split <;> simp [*]

theorem indexFrom1_isSome_iff {n : Nat} {b : Byte} :
    (indexFrom1 n b).isSome = true ↔ 1 ≤ b.toNat ∧ b.toNat ≤ n := by
  unfold indexFrom1
  split
  · next inside => exact iff_of_true rfl inside
  · next outside => exact iff_of_false nofun outside

theorem numberFrom1_of_indexFrom1 {n : Nat} {b : Byte} {i : Fin n} (h : indexFrom1 n b = some i) :
    numberFrom1 i = b := by
  rw [numberFrom1, ← indexFrom1_eq_some_iff.1 h]
  exact BitVec.ofNat_toNat _ _

theorem termOf_eq_some_iff {b : Byte} {t : Term} : termOf b = some t ↔ b = t.byte := by
  cases t <;> (revert b; decide)

theorem termOf_isSome_iff {b : Byte} : (termOf b).isSome = true ↔ b.toNat = 1 ∨ b.toNat = 2 := by
  revert b
  decide

theorem refOfByte_eq_some_iff {b : Byte} {r : Ref} : refOfByte b = some r ↔ b = r.number := by
  cases r <;> (revert b; decide)

theorem refOfByte_isSome_iff {b : Byte} : (refOfByte b).isSome = true ↔ b.toNat = 1 ∨ b.toNat = 2 := by
  revert b
  decide

theorem quantityOf_eq_some_iff {b : Byte} {q : Quantity} : quantityOf b = some q ↔ b = q.byte := by
  cases q <;> (revert b; decide)

theorem quantityOf_isSome_iff {b : Byte} : (quantityOf b).isSome = true ↔ b.toNat ≤ 6 := by
  revert b
  decide

theorem le16_half (lo hi : Byte) : le16 (half lo hi) = [lo, hi] := by
  have low : (hi ++ lo).extractLsb' 0 8 = lo :=
    (BitVec.extractLsb'_append_eq_of_add_le (by decide)).trans BitVec.extractLsb'_eq_self
  have high : (hi ++ lo).extractLsb' 8 8 = hi :=
    (BitVec.extractLsb'_append_eq_of_le (by decide)).trans BitVec.extractLsb'_eq_self
  rw [half, le16, low, high]

theorem byteOf_toNat_self (b : Byte) : byteOf b.toNat = b := BitVec.ofNat_toNat _ _

theorem halfOf_toNat_self (h : Half) : halfOf h.toNat = h := BitVec.ofNat_toNat _ _

theorem byteOfFlags_bits (b : Byte) : byteOfFlags [bitOf b 0, bitOf b 1, bitOf b 2, bitOf b 3] = b &&& 0x0F := by
  revert b
  decide

theorem flagByte_bit (b : Byte) : flagByte (bitOf b 0) = b &&& 0x01 := by
  revert b
  decide

theorem ite_beq_self {α : Type} [BEq α] [LawfulBEq α] {x y : α} (ne : y ≠ x) (b : Bool) :
    ((if b = true then x else y) == x) = b := by
  cases b <;> simp [ne]

theorem clampCount_eq {lo hi : Nat} (h : lo ≤ hi) (n : Nat) :
    clampCount lo hi n = if lo ≤ n ∧ n ≤ hi then 0 else 1 := by
  unfold clampCount clampTo
  congr 1
  apply propext
  omega

/-! ### The items as they are stored (R134, 11.3) -/

section
variable {bytes : List Byte} {n : Nat}

theorem checkItem_stored {e : CheckEntry} (i : CheckIx) (number : Byte) (h : checkItem bytes = some (e, n)) :
    (PlanItem.check i e).bytes = itemStored 1 number bytes ∧ n = itemClamps 1 number bytes := by
  unfold checkItem at h
  split at h
  · split at h
    · next term channel quantity second =>
      cases h
      constructor
      · simp only [PlanItem.bytes, ite_beq_self (show CheckClass.warn ≠ .trip by decide),
          ite_beq_self (show Sense.outside ≠ .inside by decide), byteOfFlags_bits, ← termOf_eq_some_iff.1 term,
          numberFrom1_of_indexFrom1 channel, ← quantityOf_eq_some_iff.1 quantity, numberFrom1_of_indexFrom1 second,
          le16_half, byteOf_toNat_self]
        rfl
      · simp only [clampCount_eq (show 1 ≤ 63 by decide), clampCount_eq (show 1 ≤ 255 by decide)]
        rfl
    · cases h
  · cases h

theorem channelItem_stored {x : ChannelSettings} (c : Channel) (number : Byte)
    (h : channelItem bytes = some (x, n)) :
    (PlanItem.channel c x).bytes = itemStored 2 number bytes ∧ n = itemClamps 2 number bytes := by
  unfold channelItem at h
  split at h
  · split at h
    · next group =>
      cases h
      constructor
      · simp only [PlanItem.bytes, flagByte_bit, numberFrom1_of_indexFrom1 group, halfOf_toNat_self, le16_half,
          clampTo, Nat.zero_max]
        rfl
      · simp only [clampCount_eq (Nat.zero_le _)]
        rfl
    · cases h
  · cases h

theorem groupItem_stored {x : GroupSettings} (g : Group) (number : Byte) (h : groupItem bytes = some (x, n)) :
    (PlanItem.group g x).bytes = itemStored 3 number bytes ∧ n = itemClamps 3 number bytes := by
  unfold groupItem at h
  split at h
  · split at h
    · next ref =>
      cases h
      refine ⟨?_, rfl⟩
      simp only [PlanItem.bytes, ← refOfByte_eq_some_iff.1 ref, ite_beq_self (show Combine.or ≠ .and by decide),
        ite_beq_self (show Repermit.auto ≠ .manual by decide),
        ite_beq_self (show BlindPolicy.withdraw ≠ .keep by decide), byteOfFlags_bits, byteOf_toNat_self]
      rfl
    · cases h
  · cases h

theorem referenceItem_stored {x : RefSettings} (r : Ref) (number : Byte)
    (h : referenceItem bytes = some (x, n)) :
    (PlanItem.reference r x).bytes = itemStored 4 number bytes ∧ n = itemClamps 4 number bytes := by
  unfold referenceItem at h
  split at h
  · cases h
    refine ⟨rfl, ?_⟩
    simp only [clampCount_eq (show 1 ≤ 16 by decide), clampCount_eq (show 1 ≤ 255 by decide)]
    rfl
  · cases h

theorem globalItem_stored {k gl : Nat} (number : Byte) (h : globalItem bytes = some ((k, gl), n)) :
    (PlanItem.global k gl).bytes = itemStored 5 number bytes ∧ n = itemClamps 5 number bytes := by
  unfold globalItem at h
  split at h
  · cases h
    simp only [PlanItem.bytes, byteOf_toNat_self, clampCount_eq (Nat.zero_le _)]
    exact ⟨rfl, rfl⟩
  · cases h

/-! ### The fields that name something (R133) -/

theorem checkItem_isSome_iff (length : bytes.length = 14) (number : Byte) :
    number.toNat ≤ 63 ∧ (checkItem bytes).isSome = true ↔ itemNames 1 number bytes := by
  match bytes, length with
  | [flags, term, chan, quant, order, second, lo0, lo1, hi0, hi1, pers, rel, tally, last], _ =>
    show _ ↔ number.toNat ≤ 63 ∧ (term.toNat = 1 ∨ term.toNat = 2) ∧ (1 ≤ chan.toNat ∧ chan.toNat ≤ 16) ∧
      quant.toNat ≤ 6 ∧ 1 ≤ second.toNat ∧ second.toNat ≤ 16
    rw [← termOf_isSome_iff, ← indexFrom1_isSome_iff, ← quantityOf_isSome_iff, ← indexFrom1_isSome_iff]
    simp only [checkItem]
    split
    · next named namedChannel namedQuantity namedSecond => simp [named, namedChannel, namedQuantity, namedSecond]
    · next unnamed =>
      simp only [Option.isSome_none, Bool.false_eq_true, and_false, false_iff, Option.isSome_iff_exists]
      rintro ⟨-, ⟨t, named⟩, ⟨c, namedChannel⟩, ⟨q, namedQuantity⟩, c2, namedSecond⟩
      exact unnamed t c q c2 named namedChannel namedQuantity namedSecond

theorem channelItem_isSome_iff (length : bytes.length = 7) (number : Byte) :
    (1 ≤ number.toNat ∧ number.toNat ≤ 16) ∧ (channelItem bytes).isSome = true ↔ itemNames 2 number bytes := by
  match bytes, length with
  | [flags, group, prio, mf0, mf1, ff0, ff1], _ =>
    show _ ↔ (1 ≤ number.toNat ∧ number.toNat ≤ 16) ∧ 1 ≤ group.toNat ∧ group.toNat ≤ 4
    rw [← indexFrom1_isSome_iff (b := group)]
    simp only [channelItem]
    cases indexFrom1 4 group <;> rfl

theorem groupItem_isSome_iff (length : bytes.length = 3) (number : Byte) :
    (1 ≤ number.toNat ∧ number.toNat ≤ 4) ∧ (groupItem bytes).isSome = true ↔ itemNames 3 number bytes := by
  match bytes, length with
  | [ref, flags, quiet], _ =>
    show _ ↔ (1 ≤ number.toNat ∧ number.toNat ≤ 4) ∧ (ref.toNat = 1 ∨ ref.toNat = 2)
    rw [← refOfByte_isSome_iff]
    simp only [groupItem]
    cases refOfByte ref <;> rfl

theorem referenceItem_isSome (length : bytes.length = 2) : (referenceItem bytes).isSome = true := by
  match bytes, length with
  | [f, h], _ => rfl

theorem globalItem_isSome (length : bytes.length = 2) : (globalItem bytes).isSome = true := by
  match bytes, length with
  | [k, gl], _ => rfl

end

/-! ### Weight blocks (R128, R134) -/

theorem halvesOf_eq_map (n : Nat) : ∀ bytes : List Byte, bytes.length = 2 * n →
    halvesOf bytes = some ((List.range n).map fun j => half (bytes.getD (2 * j) 0) (bytes.getD (2 * j + 1) 0)) := by
  induction n with
  | zero =>
    intro bytes length
    rw [List.length_eq_zero_iff.1 length]
    rfl
  | succ n ih =>
    intro bytes length
    match bytes, length with
    | lo :: hi :: rest, length =>
      rw [halvesOf, ih rest (by simp only [List.length_cons] at length; omega), List.range_succ_eq_map, List.map_cons,
        List.map_map]
      rfl

/-- The weights that a block of `bytes` puts into a plan. -/
def weightsClamped (bytes : List Byte) : List Nat := (List.range 8).map fun j => min (weightSent bytes j) 4096

theorem sum_clampCount (f : Nat → Nat) (js : List Nat) :
    (js.map fun j => clampCount 0 4096 (f j)).sum = (js.filter fun j => decide (4096 < f j)).length := by
  induction js with
  | nil => rfl
  | cons j js ih =>
    rw [List.map_cons, List.sum_cons, ih, clampCount_eq (Nat.zero_le _), List.filter_cons]
    by_cases large : 4096 < f j
    · simp [large, Nat.not_le.2 large, Nat.add_comm]
    · simp [large, Nat.not_lt.1 large]

theorem weightsItem_eq {bytes : List Byte} {b : Fin 8} {number : Byte} (length : bytes.length = 16)
    (block : number.toNat = b.val + 1) :
    weightsItem b bytes = some (weightsClamped bytes, itemClamps 6 number bytes) := by
  have last : number.toNat = 8 ↔ b.val = 7 := by omega
  have count : itemClamps 6 number bytes = ((List.range 8).filter fun j =>
    decide (¬(number.toNat = 8 ∧ j = 7) ∧ 4096 < weightSent bytes j)).length := rfl
  unfold weightsItem
  rw [halvesOf_eq_map 8 bytes length, count]
  simp only [List.map_map, Option.some.injEq, Prod.mk.injEq, last]
  refine ⟨List.map_congr_left fun j _ => Nat.zero_max _, ?_⟩
  by_cases eighth : b.val = 7
  · have seven : ((List.range 8).filter fun j => decide (¬j = 7 ∧ 4096 < weightSent bytes j)) =
        (List.range 7).filter fun j => decide (4096 < weightSent bytes j) := by
      rw [List.range_succ, List.filter_append]
      exact (List.append_nil _).trans (List.filter_congr fun j mem => by simp [(List.mem_range.1 mem).ne])
    simp only [eighth, if_true, true_and, ← List.map_take, List.map_map, seven]
    exact sum_clampCount (weightSent bytes) (List.range 7)
  · simp only [eighth, if_false, false_and, not_false_eq_true, true_and, List.map_map]
    exact sum_clampCount (weightSent bytes) (List.range 8)

/-! ### The item that a kind and a number name (R133, R148) -/

/-- The item of a plan sent under a kind and a number. -/
def itemIx (kind number : Byte) : Option ItemIx :=
  match kind.toNat with
  | 1 => (indexFrom0 64 number).map .check
  | 2 => (indexFrom1 16 number).map .channel
  | 3 => (indexFrom1 4 number).map .group
  | 4 => (refOfByte number).map .reference
  | 5 => if number = 0 then some .global else none
  | 6 => (indexFrom1 8 number).map .weights
  | _ => none

/-- What a plan holds at an item. -/
def Plan.at (p : Plan) : ItemIx → PlanItem
  | .check i => .check i p.checks[i]
  | .channel c => .channel c p.channels[c]
  | .group g => .group g p.groups[g]
  | .reference r => .reference r (p.refs.get r)
  | .weights b => .weights b (p.weightBlock b)
  | .global => .global p.auditInterval p.guardLevel

def PlanItem.ix : PlanItem → ItemIx
  | .check i _ => .check i
  | .channel c _ => .channel c
  | .group g _ => .group g
  | .reference r _ => .reference r
  | .weights b _ => .weights b
  | .global _ _ => .global

theorem item_eq_map (p : Plan) (kind number : Byte) : p.item kind number = (itemIx kind number).map p.at := by
  unfold Plan.item
  split
  case h_1 code => obtain rfl : kind = 1 := BitVec.eq_of_toNat_eq code; exact (Option.map_map p.at .check _).symm
  case h_2 code => obtain rfl : kind = 2 := BitVec.eq_of_toNat_eq code; exact (Option.map_map p.at .channel _).symm
  case h_3 code => obtain rfl : kind = 3 := BitVec.eq_of_toNat_eq code; exact (Option.map_map p.at .group _).symm
  case h_4 code => obtain rfl : kind = 4 := BitVec.eq_of_toNat_eq code; exact (Option.map_map p.at .reference _).symm
  case h_5 code =>
    obtain rfl : kind = 5 := BitVec.eq_of_toNat_eq code
    exact (apply_ite (Option.map p.at) (number = 0) (some .global) none).symm
  case h_6 code => obtain rfl : kind = 6 := BitVec.eq_of_toNat_eq code; exact (Option.map_map p.at .weights _).symm
  case h_7 => simp [itemIx, *]

/-- An item travels under one kind and one number only. -/
theorem kind_number_of_itemIx {kind number : Byte} {a : ItemIx} (h : itemIx kind number = some a) :
    kind = a.kind.byte ∧ number.toNat = a.number := by
  unfold itemIx at h
  split at h
  case h_1 code =>
    obtain ⟨i, index, rfl⟩ := Option.map_eq_some_iff.1 h
    exact ⟨BitVec.eq_of_toNat_eq code, indexFrom0_eq_some_iff.1 index⟩
  case h_2 code =>
    obtain ⟨c, index, rfl⟩ := Option.map_eq_some_iff.1 h
    exact ⟨BitVec.eq_of_toNat_eq code, indexFrom1_eq_some_iff.1 index⟩
  case h_3 code =>
    obtain ⟨g, index, rfl⟩ := Option.map_eq_some_iff.1 h
    exact ⟨BitVec.eq_of_toNat_eq code, indexFrom1_eq_some_iff.1 index⟩
  case h_4 code =>
    obtain ⟨r, index, rfl⟩ := Option.map_eq_some_iff.1 h
    exact ⟨BitVec.eq_of_toNat_eq code, congrArg BitVec.toNat (refOfByte_eq_some_iff.1 index)⟩
  case h_5 code =>
    obtain ⟨zero, same⟩ := Option.ite_none_right_eq_some.1 h
    cases same
    exact ⟨BitVec.eq_of_toNat_eq code, congrArg BitVec.toNat zero⟩
  case h_6 code =>
    obtain ⟨b, index, rfl⟩ := Option.map_eq_some_iff.1 h
    exact ⟨BitVec.eq_of_toNat_eq code, indexFrom1_eq_some_iff.1 index⟩
  case h_7 => cases h

theorem itemIx_ne {kind number kind' number' : Byte} {a : ItemIx} (named : itemIx kind number = some a)
    (other : kind' ≠ kind ∨ number' ≠ number) : itemIx kind' number' ≠ some a := by
  intro same
  obtain ⟨kindA, numberA⟩ := kind_number_of_itemIx named
  obtain ⟨kindB, numberB⟩ := kind_number_of_itemIx same
  exact other.elim (· (kindB.trans kindA.symm)) (· (BitVec.eq_of_toNat_eq (numberB.trans numberA.symm)))

/-! ### One item replaced -/

theorem weightBlock_put_ne (p : Plan) {b b' : Fin 8} (ne : b' ≠ b) (ws : List Nat) :
    (p.put (.weights b ws)).weightBlock b' = p.weightBlock b' := by
  refine (weightBlock_eq_iff _ _ b').2 fun o block => ?_
  have outside : ¬o.val / 8 = b.val := fun h => ne (Fin.ext (block.symm.trans h))
  simp [Plan.put, outside]

/-- Every other item of the plan stays as it was (R133). -/
theorem put_at_ne (p : Plan) {x : PlanItem} {a : ItemIx} (ne : a ≠ x.ix) : (p.put x).at a = p.at a := by
  cases x with
  | check i e => cases a with
    | check j => exact congrArg (PlanItem.check j) (vector_getElem_set_ne _ (fun h => ne (congrArg ItemIx.check h)) e)
    | _ => rfl
  | channel c y => cases a with
    | channel d =>
      exact congrArg (PlanItem.channel d) (vector_getElem_set_ne _ (fun h => ne (congrArg ItemIx.channel h)) y)
    | _ => rfl
  | group g y => cases a with
    | group g' =>
      exact congrArg (PlanItem.group g') (vector_getElem_set_ne _ (fun h => ne (congrArg ItemIx.group h)) y)
    | _ => rfl
  | reference r y => cases a with
    | reference r' =>
      exact congrArg (PlanItem.reference r') (perRef_get_set_ne _ y fun h => ne (congrArg ItemIx.reference h))
    | _ => rfl
  | weights b ws => cases a with
    | weights b' =>
      exact congrArg (PlanItem.weights b') (weightBlock_put_ne p (fun h => ne (congrArg ItemIx.weights h)) ws)
    | _ => simp only [Plan.at, Plan.put]
  | global k gl => cases a with
    | global => exact absurd rfl ne
    | _ => rfl

theorem item_put_of_ne (p : Plan) {x : PlanItem} {kind number kind' number' : Byte}
    (named : itemIx kind number = some x.ix) (other : kind' ≠ kind ∨ number' ≠ number) :
    (p.put x).item kind' number' = p.item kind' number' := by
  rw [item_eq_map, item_eq_map]
  exact Option.map_congr fun a mem => put_at_ne p fun same => itemIx_ne named other (same ▸ mem)

/-- The eighth slot of block 8 stands for no order and reads as 0 (R128). -/
theorem weightBlock_put_self (p : Plan) (b : Fin 8) (f : Nat → Nat) :
    (p.put (.weights b ((List.range 8).map f))).weightBlock b =
      (List.range 8).map fun j => if b.val = 7 ∧ j = 7 then 0 else f j := by
  refine List.map_congr_left fun j mem => ?_
  have small := List.mem_range.1 mem
  have inside : (8 * b.val + j) / 8 = b.val := by omega
  have slot : (8 * b.val + j) % 8 = j := by omega
  unfold Plan.weightAt
  by_cases order : 8 * b.val + j < 63
  · have stored : ¬(b.val = 7 ∧ j = 7) := by omega
    simp [Plan.put, order, stored, inside, slot, small]
  · have spare : b.val = 7 ∧ j = 7 := by omega
    simp [spare]

/-! ### The item read from a WRITE ENTRY (R133) -/

theorem put_at_self (p : Plan) {x : PlanItem} (single : ∀ b ws, x ≠ .weights b ws) : (p.put x).at x.ix = x := by
  cases x with
  | check i e => exact congrArg (PlanItem.check i) (vector_getElem_set_self _ i e)
  | channel c y => exact congrArg (PlanItem.channel c) (vector_getElem_set_self _ c y)
  | group g y => exact congrArg (PlanItem.group g) (vector_getElem_set_self _ g y)
  | reference r y => exact congrArg (PlanItem.reference r) (perRef_get_set_self _ r y)
  | global k gl => rfl
  | weights b ws => exact absurd rfl (single b ws)

theorem put_weights_bytes (p : Plan) {b : Fin 8} {number : Byte} (bytes : List Byte)
    (block : number.toNat = b.val + 1) :
    ((p.put (.weights b (weightsClamped bytes))).at (.weights b)).bytes = itemStored 6 number bytes := by
  have last : number.toNat = 8 ↔ b.val = 7 := by omega
  have stored : itemStored 6 number bytes = (List.range 8).flatMap fun j =>
    if number.toNat = 8 ∧ j = 7 then [0, 0] else le16 (halfOf (min (weightSent bytes j) 4096)) := rfl
  rw [stored, Plan.at, weightsClamped, weightBlock_put_self, PlanItem.bytes, List.flatMap_map]
  refine List.flatMap_congr fun j _ => ?_
  simp only [last]
  split <;> rfl

/-- An item read from a WRITE ENTRY: where it goes, how many fields the clamps changed, and the bytes that a plan then
holds there (R134, R148). -/
structure StoredAs (kind number : Byte) (bytes : List Byte) (x : PlanItem) (n : Nat) : Prop where
  place : itemIx kind number = some x.ix
  count : n = itemClamps kind number bytes
  stored : ∀ p : Plan, ((p.put x).at x.ix).bytes = itemStored kind number bytes

theorem storedAs_of_single {kind number : Byte} {bytes : List Byte} {x : PlanItem} {n : Nat}
    (single : ∀ b ws, x ≠ .weights b ws) (place : itemIx kind number = some x.ix)
    (h : x.bytes = itemStored kind number bytes ∧ n = itemClamps kind number bytes) : StoredAs kind number bytes x n :=
  ⟨place, h.2, fun p => by rw [put_at_self p single, h.1]⟩

theorem readItem_storedAs {kind number : Byte} {bytes : List Byte} {x : PlanItem} {n : Nat}
    (size : itemSize kind = some bytes.length) (h : readItem kind number bytes = some (x, n)) :
    StoredAs kind number bytes x n := by
  unfold readItem at h
  split at h
  case h_1 code =>
    obtain rfl : kind = 1 := BitVec.eq_of_toNat_eq code
    split at h
    · next i _ _ index read =>
      cases h
      exact storedAs_of_single nofun (congrArg (Option.map ItemIx.check) index) (checkItem_stored i number read)
    · cases h
  case h_2 code =>
    obtain rfl : kind = 2 := BitVec.eq_of_toNat_eq code
    split at h
    · next c _ _ index read =>
      cases h
      exact storedAs_of_single nofun (congrArg (Option.map ItemIx.channel) index) (channelItem_stored c number read)
    · cases h
  case h_3 code =>
    obtain rfl : kind = 3 := BitVec.eq_of_toNat_eq code
    split at h
    · next g _ _ index read =>
      cases h
      exact storedAs_of_single nofun (congrArg (Option.map ItemIx.group) index) (groupItem_stored g number read)
    · cases h
  case h_4 code =>
    obtain rfl : kind = 4 := BitVec.eq_of_toNat_eq code
    split at h
    · next r _ _ index read =>
      cases h
      exact storedAs_of_single nofun (congrArg (Option.map ItemIx.reference) index) (referenceItem_stored r number read)
    · cases h
  case h_5 code =>
    obtain rfl : kind = 5 := BitVec.eq_of_toNat_eq code
    split at h
    · next zero read =>
      cases h
      exact storedAs_of_single nofun (if_pos (of_decide_eq_true zero)) (globalItem_stored number read)
    · cases h
  case h_6 code =>
    obtain rfl : kind = 6 := BitVec.eq_of_toNat_eq code
    split at h
    · next b index =>
      have block := indexFrom1_eq_some_iff.1 index
      rw [weightsItem_eq (Option.some.inj size).symm block] at h
      cases h
      exact ⟨congrArg (Option.map ItemIx.weights) index, rfl, fun p => put_weights_bytes p bytes block⟩
    · cases h
  case h_7 => cases h

theorem readItem_isSome_iff {kind number : Byte} {bytes : List Byte} (size : itemSize kind = some bytes.length) :
    (readItem kind number bytes).isSome = true ↔ itemNames kind number bytes := by
  unfold readItem
  split
  case h_1 code =>
    obtain rfl : kind = 1 := BitVec.eq_of_toNat_eq code
    rw [← checkItem_isSome_iff (Option.some.inj size).symm, ← Nat.lt_succ_iff, ← indexFrom0_isSome_iff]
    cases indexFrom0 64 number <;> cases checkItem bytes <;> simp
  case h_2 code =>
    obtain rfl : kind = 2 := BitVec.eq_of_toNat_eq code
    rw [← channelItem_isSome_iff (Option.some.inj size).symm, ← indexFrom1_isSome_iff]
    cases indexFrom1 16 number <;> cases channelItem bytes <;> simp
  case h_3 code =>
    obtain rfl : kind = 3 := BitVec.eq_of_toNat_eq code
    rw [← groupItem_isSome_iff (Option.some.inj size).symm, ← indexFrom1_isSome_iff]
    cases indexFrom1 4 number <;> cases groupItem bytes <;> simp
  case h_4 code =>
    obtain rfl : kind = 4 := BitVec.eq_of_toNat_eq code
    obtain ⟨y, read⟩ := Option.isSome_iff_exists.1 (referenceItem_isSome (Option.some.inj size).symm)
    show _ ↔ number.toNat = 1 ∨ number.toNat = 2
    rw [← refOfByte_isSome_iff, read]
    cases refOfByte number <;> simp
  case h_5 code =>
    obtain rfl : kind = 5 := BitVec.eq_of_toNat_eq code
    obtain ⟨y, read⟩ := Option.isSome_iff_exists.1 (globalItem_isSome (Option.some.inj size).symm)
    show _ ↔ number.toNat = (0 : Byte).toNat
    rw [BitVec.toNat_inj, read]
    refine .trans ?_ (@decide_eq_true_iff (number = 0) _)
    cases decide (number = 0) <;> simp
  case h_6 code =>
    obtain rfl : kind = 6 := BitVec.eq_of_toNat_eq code
    show _ ↔ 1 ≤ number.toNat ∧ number.toNat ≤ 8
    rw [← indexFrom1_isSome_iff]
    split
    · next b index =>
      rw [weightsItem_eq (Option.some.inj size).symm (indexFrom1_eq_some_iff.1 index), index]
      exact iff_of_true rfl rfl
    · next index => rw [index]; rfl
  case h_7 => simp [itemSize, *] at size

/-! ### The command (R133) -/

section
variable {s : State} {l : Link} {kind number : Byte} {item : List Byte}

theorem exec_writeEntry {t : State} {code : ReplyCode} {n : Nat} (tag : Byte) (ready : s.Ready l)
    (size : itemSize kind = some item.length) (answer : s.writeEntry l kind number item = (t, code, n))
    (calm : t.calm) : exec (.writeEntry l tag kind number item) s =
      .next (t.reply l ((Command.writeEntry kind number item).frame tag) code
        (if code = .ok then [byteOf n] else [])) := by
  refine exec_answered (c := .writeEntry kind number item) (a := ⟨t, code, if code = .ok then [byteOf n] else []⟩)
    ready rfl (decide_eq_true size) (if_pos size) rfl nofun ?_ calm
  simp only [State.runCommand, runWriteEntry, answer]

end

/-- Settles O30: by who holds the lock, then by whether the item can be read; `StoredAs` says what is read back. -/
theorem writeEntryActs : Obligations.WriteEntryActs := by
  intro l tag kind number item s ready size
  refine ⟨fun notHolder => ?_, fun p staging unnamed => ?_, fun p staging named => ?_⟩
  · have answer : s.writeEntry l kind number item = (s, .notOwner, 0) := by
      simp only [State.writeEntry, editedBy_eq_none notHolder]
    exact exec_writeEntry tag ready size answer ready.1
  · have unread : readItem kind number item = none :=
      Option.not_isSome_iff_eq_none.1 (mt (readItem_isSome_iff size).1 unnamed)
    have answer : s.writeEntry l kind number item = (s, .malformed, 0) := by
      simp only [State.writeEntry, staging, editedBy_holder, unread]
    exact exec_writeEntry tag ready size answer ready.1
  · obtain ⟨⟨x, n⟩, read⟩ := Option.isSome_iff_exists.1 ((readItem_isSome_iff size).2 named)
    obtain ⟨place, count, stored⟩ := readItem_storedAs size read
    have answer : s.writeEntry l kind number item = (s.setStaging (.opened (p.put x) l), .ok, n) := by
      simp only [State.writeEntry, staging, editedBy_holder, read]
    refine ⟨p.put x, (p.put x).at x.ix, ?_, ?_, stored p, fun kind' number' => item_put_of_ne p place⟩
    · rw [← count]
      exact exec_writeEntry tag ready size answer ready.1
    · rw [item_eq_map, place, Option.map_some]

end Sys2Proof.Machine
end

section
/-! SUPPORT. LOAD PATTERN (R154) and TEST SOURCE (R155): when a pattern is in use, the slots a load writes, and the
answers of the two commands. -/

namespace Sys2Proof.Machine

/-! ### Patterns in use (R154) -/

theorem FillBuffer.reads_iff (x : Source) (b : FillBuffer) : b.reads x = true ↔
    ∃ f : Frame, f.source = x ∧ (b = .filling f ∨ (∃ next, b = .closing f next) ∨
      ∃ old kept, b = .closing old (some ⟨f, kept⟩)) := by
  cases b with
  | idle => simp [FillBuffer.reads]
  | filling f => simp [FillBuffer.reads]
  | closing f next =>
    cases next with
    | none => simp [FillBuffer.reads]
    | some start =>
      obtain ⟨pending, kept⟩ := start
      simp [FillBuffer.reads, and_or_left, exists_or]

theorem patternInUse_iff (s : State) (p : Store) : s.patternInUse p = true ↔
    ∃ c : Channel, s.sources[c] = .pattern p ∨ (s.buffers[c].fill).reads (.pattern p) = true := by
  simp only [State.patternInUse, List.any_eq_true, List.mem_finRange, true_and, Bool.or_eq_true, beq_iff_eq]

/-! ### The slots a load writes (R154) -/

section
variable (s : State) (p : Store) (start : Nat) (xs : List Sample)

theorem loadPattern_slot (k : Slot) : (s.loadPattern p start xs).patterns[p][k] =
    if start ≤ k.val then xs.getD (k.val - start) s.patterns[p][k] else s.patterns[p][k] := by
  simp only [State.loadPattern, vector_getElem_set_self]
  exact Vector.getElem_ofFn k.isLt

theorem loadPattern_written (k : Slot) (from_start : start ≤ k.val) (inside : k.val - start < xs.length) :
    (s.loadPattern p start xs).patterns[p][k] = xs[k.val - start] := by
  rw [loadPattern_slot, if_pos from_start, List.getD_eq_getElem _ _ inside]

theorem loadPattern_kept (k : Slot) (outside : k.val < start ∨ start + xs.length ≤ k.val) :
    (s.loadPattern p start xs).patterns[p][k] = s.patterns[p][k] := by
  rw [loadPattern_slot]
  obtain before | behind := outside
  · rw [if_neg (by omega)]
  · rw [if_pos (by omega), List.getD_eq_default _ _ (by omega)]

theorem loadPattern_patterns_ne {q : Store} (other : q ≠ p) :
    (s.loadPattern p start xs).patterns[q] = s.patterns[q] :=
  vector_getElem_set_ne _ other _

end

/-! ### The two commands at a port at rest -/

theorem halvesOf_bytesOfHalves (xs : List Half) : halvesOf (bytesOfHalves xs) = some xs := by
  induction xs with
  | nil => rfl
  | cons x xs ih =>
    show (halvesOf (bytesOfHalves xs)).map (half (x.extractLsb' 0 8) (x.extractLsb' 8 8) :: ·) = some (x :: xs)
    rw [ih, half_of_bytes, Option.map_some]

theorem parse_loadPattern_frame (tag store slot : Byte) {xs : List Half} (fits : xs.length ≤ 126) :
    parse ((Command.loadPattern store slot xs).frame tag) = some (.loadPattern store slot xs) := by
  show parseLoadPattern (store :: slot :: bytesOfHalves xs) = _
  simp only [parseLoadPattern, halvesOf_bytesOfHalves, fits, if_true]

section
variable {s t : State} {code : ReplyCode}

theorem exec_loadPattern {store slot : Byte} {xs : List Half} (tag : Byte) (ready : s.Ready .m)
    (fits : xs.length ≤ 126) (answer : runLoadPattern s store slot xs = ⟨t, code, []⟩) (calm : t.calm) :
    exec (.loadPattern .m tag store slot xs) s =
      .next (t.reply .m ((Command.loadPattern store slot xs).frame tag) code []) :=
  exec_answered (c := .loadPattern store slot xs) ready rfl (decide_eq_true fits)
    (parse_loadPattern_frame tag store slot fits) rfl nofun answer calm

theorem runLoadPattern_eq {store slot : Byte} {xs : List Half} {p : Store} (named : indexFrom1 4 store = some p)
    (start : slot.toNat ≤ 127) (count : xs.length ≤ 28) (room : slot.toNat + xs.length ≤ 128) :
    runLoadPattern s store slot xs =
      if s.patternInUse p then ⟨s, .inUse, []⟩ else ⟨s.loadPattern p slot.toNat xs, .ok, []⟩ := by
  simp only [runLoadPattern, named]
  rw [if_neg (by omega)]

theorem exec_testSource {channel source : Byte} {c : Channel} {x : Source} (tag : Byte) (ready : s.Ready .m)
    (channelNamed : indexFrom1 16 channel = some c) (sourceNamed : sourceOf source = some x)
    (answer : s.switchSource c x = (t, code)) (calm : t.calm) :
    exec (.testSource .m tag channel source) s =
      .next (t.reply .m ((Command.testSource channel source).frame tag) code []) := by
  refine exec_answered (c := .testSource channel source) (a := ⟨t, code, []⟩) ready rfl rfl rfl rfl nofun ?_ calm
  simp only [State.runCommand, runTestSource, channelNamed, sourceNamed, answer]
  rfl

end

/-- Settles O39: the use of a pattern channel by channel; then each command by its one test of the state, a load slot by
slot. -/
theorem patternsAndSources : Obligations.PatternsAndSources := by
  refine ⟨fun s p => ?_,
    fun tag store slot samples p s ready named start count room => ⟨fun used => ?_, fun free => ?_⟩,
    fun tag channel source c x s ready channelNamed sourceNamed => ⟨fun running => ?_, fun idle => ?_⟩⟩
  · simp only [patternInUse_iff, FillBuffer.reads_iff]
  · have answer := (runLoadPattern_eq (s := s) named start count room).trans (if_pos used)
    exact exec_loadPattern tag ready (by omega) answer ready.1
  · have answer := (runLoadPattern_eq (s := s) named start count room).trans (if_neg (ne_true_of_eq_false free))
    exact ⟨s.loadPattern p slot.toNat samples, exec_loadPattern tag ready (by omega) answer ready.1,
      fun k => ⟨loadPattern_written s p _ samples k,
        loadPattern_kept s p _ samples k⟩,
      fun q => loadPattern_patterns_ne s p _ samples, loadPattern_changes s p _ samples⟩
  · exact exec_testSource tag ready channelNamed sourceNamed (if_pos running) ready.1
  · exact exec_testSource tag ready channelNamed sourceNamed (if_neg (ne_true_of_eq_false idle)) ready.1

end Sys2Proof.Machine
end

section
/-! SUPPORT. What the blocks do to the ports (10.6, R31, R169, R171): they offer notices and settle frames, and neither
touches the queue of a port, makes it halt, or makes a port that is not draining reply. -/

namespace Sys2Proof.Machine

/-! ### One port -/

/-- From `p` to `q` a port has had at most notices, or a change of its log, its mask and its flags. -/
structure Port.Noticed (p q : Port) : Prop where
  queue : q.queue = p.queue
  replies : q.replies = p.replies
  drain : q.drain = p.drain
  halted : q.halted = p.halted
  log_le : p.log.length ≤ 32 → q.log.length ≤ 32

/-- From `p` to `q` a port has had at most notices and settlings: a reply is posted only where a drain ends. -/
structure Port.Kept (p q : Port) : Prop where
  queue : q.queue = p.queue
  halted : q.halted = p.halted
  undrained : p.drain = none → q.drain = none ∧ q.replies = p.replies
  sound : p.Sound → q.Sound

theorem noticed_refl (p : Port) : p.Noticed p := ⟨rfl, rfl, rfl, rfl, id⟩

theorem noticed_trans {p q r : Port} (h : p.Noticed q) (k : q.Noticed r) : p.Noticed r :=
  ⟨k.queue.trans h.queue, k.replies.trans h.replies, k.drain.trans h.drain, k.halted.trans h.halted,
    k.log_le ∘ h.log_le⟩

theorem kept_trans {p q r : Port} (h : p.Kept q) (k : q.Kept r) : p.Kept r where
  queue := k.queue.trans h.queue
  halted := k.halted.trans h.halted
  undrained none := (k.undrained (h.undrained none).1).imp_right fun replies => replies.trans (h.undrained none).2
  sound := k.sound ∘ h.sound

theorem outstanding_congr {p q : Port} (queue : q.queue = p.queue) (replies : q.replies = p.replies)
    (drain : q.drain = p.drain) : q.outstanding = p.outstanding := by
  simp only [Port.outstanding, queue, replies, drain]

theorem kept_of_noticed {p q : Port} (h : p.Noticed q) : p.Kept q where
  queue := h.queue
  halted := h.halted
  undrained none := ⟨h.drain.trans none, h.replies⟩
  sound sound :=
    { outstanding_le := (outstanding_congr h.queue h.replies h.drain).trans_le sound.outstanding_le
      log_le := h.log_le sound.log_le
      not_halted_draining := by rw [h.halted, h.drain]; exact sound.not_halted_draining
      drain_awaits := by rw [h.drain]; exact sound.drain_awaits }

theorem noticed_ready {p q : Port} (h : p.Noticed q) : q.ready = p.ready := by
  simp only [Port.ready, h.queue, h.halted, h.drain]

/-- A full log takes no notice (R171). -/
theorem offer_log_le {p : Port} (h : p.log.length ≤ 32) (n : Notice) : (p.offer n).log.length ≤ 32 := by
  unfold Port.offer
  split
  · exact h
  · split
    · next room =>
      rw [List.length_append, List.length_singleton]
      exact room
    · exact h

theorem offerAll_noticed (p : Port) (clock : Word) (bs : List NoticeBody) : p.Noticed (p.offerAll clock bs) := by
  obtain ⟨queue, replies, drain, -, halted, -⟩ := offerAll_keeps p clock bs
  refine ⟨queue, replies, drain, halted, fun h => ?_⟩
  clear queue replies drain halted
  induction bs generalizing p with
  | nil => exact h
  | cons b bs ih => exact ih _ (offer_log_le h _)

/-- The three outcomes of a settling at a draining port: not awaited, the last awaited, one of several. -/
theorem settled_kept (p : Port) (j : Nat) : p.Kept (p.settled j) := by
  cases drain : p.drain with
  | none =>
    have same : p.settled j = p := by unfold Port.settled; rw [drain]
    rw [same]
    exact kept_of_noticed (noticed_refl p)
  | some d =>
    have draining : ¬p.drain = none := by rw [drain]; nofun
    by_cases awaited : j ∈ d.awaiting
    · by_cases more : ∃ k ∈ d.awaiting, k ≠ j
      · rw [settled_of_more drain awaited more]
        obtain ⟨k, hk, ne⟩ := more
        refine ⟨rfl, rfl, fun none => absurd none draining, fun sound => ?_⟩
        exact
          { outstanding_le := by simpa [Port.outstanding, drain] using sound.outstanding_le
            log_le := sound.log_le
            not_halted_draining := fun halted => absurd (sound.not_halted_draining halted) draining
            drain_awaits := fun d' hd' => by
              cases hd'
              exact List.ne_nil_of_mem (List.mem_filter.2 ⟨hk, by simpa using ne⟩) }
      · rw [settled_of_last drain awaited (by simpa using more)]
        refine ⟨rfl, rfl, fun none => absurd none draining, fun sound => ?_⟩
        have bound := sound.outstanding_le
        exact
          { outstanding_le := by
              simp only [Port.outstanding, drain, Option.isSome, List.length_append, List.length_singleton, if_true,
                Bool.false_eq_true, if_false] at bound ⊢
              omega
            log_le := sound.log_le
            not_halted_draining := fun _ => rfl
            drain_awaits := nofun }
    · rw [settled_of_not_awaited drain awaited]
      exact kept_of_noticed (noticed_refl p)

/-! ### All three ports -/

/-- From `s` to `t` every port has had at most notices. -/
def State.Notifies (s t : State) : Prop := ∀ l, (s.ports.get l).Noticed (t.ports.get l)

/-- From `s` to `t` every port has had at most notices and settlings. -/
def State.KeepsPorts (s t : State) : Prop := ∀ l, (s.ports.get l).Kept (t.ports.get l)

section
variable {s t u : State}

theorem notifies_of_ports (h : t.ports = s.ports) : s.Notifies t := fun _ => by rw [h]; exact noticed_refl _

theorem notifies_refl (s : State) : s.Notifies s := notifies_of_ports rfl

theorem notifies_trans (h : s.Notifies t) (k : t.Notifies u) : s.Notifies u := fun l => noticed_trans (h l) (k l)

theorem notifies_of_changes {A : List Part} (h : State.ChangesOnly A s t) (apart : .ports ∉ A) : s.Notifies t :=
  notifies_of_ports (h .ports apart)

theorem notifies_of_offerAll {bs : List NoticeBody} {clock : Word}
    (ports : ∀ l, t.ports.get l = (s.ports.get l).offerAll clock bs) : s.Notifies t := fun l => by
  rw [ports]
  exact offerAll_noticed _ _ _

theorem notifies_foldl {α : Type} {f : State → α → State} (h : ∀ (s : State) x, s.Notifies (f s x)) (xs : List α)
    (s : State) : s.Notifies (xs.foldl f s) := by
  induction xs generalizing s with
  | nil => exact notifies_refl s
  | cons x xs ih => exact notifies_trans (h s x) (ih _)

theorem notifies_calm (h : s.Notifies t) (calm : s.calm) : t.calm :=
  (calm_iff t).2 fun l => (noticed_ready (h l)).trans ((calm_iff s).1 calm l)

theorem keepsPorts_of_notifies (h : s.Notifies t) : s.KeepsPorts t := fun l => kept_of_noticed (h l)

theorem keepsPorts_refl (s : State) : s.KeepsPorts s := keepsPorts_of_notifies (notifies_refl s)

theorem keepsPorts_trans (h : s.KeepsPorts t) (k : t.KeepsPorts u) : s.KeepsPorts u := fun l => kept_trans (h l) (k l)

theorem keepsPorts_of_changes {A : List Part} (h : State.ChangesOnly A s t) (apart : .ports ∉ A) : s.KeepsPorts t :=
  keepsPorts_of_notifies (notifies_of_changes h apart)

theorem keepsPorts_foldl {α : Type} {f : State → α → State} (h : ∀ (s : State) x, s.KeepsPorts (f s x)) (xs : List α)
    (s : State) : s.KeepsPorts (xs.foldl f s) := by
  induction xs generalizing s with
  | nil => exact keepsPorts_refl s
  | cons x xs ih => exact keepsPorts_trans (h s x) (ih _)

theorem keepsPorts_portsSound (h : s.KeepsPorts t) (sound : s.PortsSound) : t.PortsSound := fun l =>
  (h l).sound (sound l)

end

variable (s : State)

theorem raise_notifies (b : NoticeBody) : s.Notifies (s.raise b) :=
  notifies_of_offerAll (bs := [b]) fun l => raise_ports_get s b l

theorem settle_keepsPorts (c : Channel) (j : Nat) : s.KeepsPorts (s.settle c j) := fun l => by
  rw [settle_ports_get]
  exact settled_kept _ j

/-! ### The evaluator and the verdict unit (R105, R113, R125) -/

theorem commitVerdicts_notifies (new : Group → Verdict) (cycle : Group → Word) :
    s.Notifies (s.commitVerdicts new cycle) := notifies_of_offerAll (commitVerdicts_ports_get s new cycle)

theorem commitChecks_notifies (new : CheckIx → CheckStatus) (cycle : CheckIx → Word) :
    s.Notifies (s.commitChecks new cycle) := notifies_of_offerAll (commitChecks_ports_get s new cycle)

theorem reasonEvent_notifies (change : Group → Verdict → Verdict) : s.Notifies (s.reasonEvent change) :=
  commitVerdicts_notifies s _ _

theorem setAlert_notifies : s.Notifies s.setAlert := notifies_of_changes (setAlert_changes s) (by decide)

theorem checkEvent_notifies (new : CheckIx → CheckStatus) (forced : Group → Bool) (change : Group → Verdict → Verdict)
    (checkCycle : CheckIx → Word) (groupCycle : Group → Word) :
    s.Notifies (s.checkEvent new forced change checkCycle groupCycle) := by
  unfold State.checkEvent
  dsimp only
  have committed := fun verdicts => notifies_trans (commitChecks_notifies s new checkCycle)
    (commitVerdicts_notifies _ verdicts groupCycle)
  split
  · exact notifies_trans (committed _) (setAlert_notifies _)
  · exact committed _

theorem causeEvent_notifies (new : CheckIx → CheckStatus) (forced : Group → Bool)
    (change : Group → Verdict → Verdict) : s.Notifies (s.causeEvent new forced change) :=
  checkEvent_notifies s _ _ _ _ _

theorem examineEvent_notifies (sel : Group → Bool) (change : Group → Verdict → Verdict) :
    s.Notifies (s.examineEvent sel change) := causeEvent_notifies s _ _ _

/-- An examination of causes after a change of them that no port sees. -/
theorem examineEvent_notifies_of_changes {s t : State} {A : List Part} (h : State.ChangesOnly A s t)
    (apart : .ports ∉ A) (sel : Group → Bool) (change : Group → Verdict → Verdict) :
    s.Notifies (t.examineEvent sel change) :=
  notifies_trans (notifies_of_changes h apart) (examineEvent_notifies t sel change)

theorem startQuiet_notifies (g : Group) : s.Notifies (s.startQuiet g) :=
  examineEvent_notifies_of_changes (loadQuiet_changes s g) (by decide) _ _

theorem endQuiet_notifies (g : Group) : s.Notifies (s.endQuiet g) :=
  examineEvent_notifies_of_changes (quietCounted_causeParts s g) (by decide) _ _

theorem breakerOpens_notifies (g : Group) : s.Notifies (s.breakerOpens g) :=
  examineEvent_notifies_of_changes (with_inService s _) (by decide) _ _

theorem restorePermit_notifies (l : Link) (g : Group) : s.Notifies (s.restorePermit l g).1 := by
  unfold State.restorePermit
  dsimp only
  split
  · exact notifies_refl s
  · split
    · exact notifies_refl s
    · split
      · exact reasonEvent_notifies s _
      · split
        · exact notifies_refl s
        · exact reasonEvent_notifies s _

theorem changeStop_notifies (asserted : Bool) : s.Notifies (s.changeStop asserted) :=
  notifies_trans (notifies_of_changes (with_stopInput s _) (by decide)) (reasonEvent_notifies _ _)

/-! ### Results and engines (R54, R63 to R74) -/

theorem arrive_keepsPorts (res : TransformResult) : s.KeepsPorts (s.arrive res) := by
  have store : s.KeepsPorts (s.storeResult res) :=
    keepsPorts_trans (keepsPorts_of_changes (setRecord_changes s _ _) (by decide)) (settle_keepsPorts _ _ _)
  unfold State.arrive
  split
  · exact settle_keepsPorts s _ _
  · split
    · exact settle_keepsPorts s _ _
    · split
      · exact store
      · exact keepsPorts_trans store (keepsPorts_of_notifies (checkEvent_notifies _ _ _ _ _ _))

theorem mismatch_keepsPorts (res : TransformResult) (q : FaultQuantity) (v1 v2 : Half) :
    s.KeepsPorts (s.mismatch res q v1 v2) :=
  keepsPorts_trans (settle_keepsPorts s _ _)
    (keepsPorts_trans (keepsPorts_of_changes (with_audit _ _) (by decide))
      (keepsPorts_of_notifies (raise_notifies _ _)))

theorem compare_keepsPorts (k : Kept) (e : Engine) (res : TransformResult) : s.KeepsPorts (s.compare k e res) := by
  unfold State.compare
  dsimp only
  split
  · exact mismatch_keepsPorts s _ _ _ _
  · exact arrive_keepsPorts s _

theorem setKept_keepsPorts (c : Channel) (k : Option Kept) : s.KeepsPorts (s.setKept c k) :=
  keepsPorts_of_changes (setKept_changes s c k) (by decide)

theorem routeResult_keepsPorts (e : Engine) (role : AuditRole) (res : TransformResult) :
    s.KeepsPorts (s.routeResult e role res) := by
  unfold State.routeResult
  split
  · exact arrive_keepsPorts s _
  · exact arrive_keepsPorts s _
  · exact settle_keepsPorts s _ _
  · split
    · exact setKept_keepsPorts s _ _
    · exact keepsPorts_trans (setKept_keepsPorts s _ _) (compare_keepsPorts _ _ _ _)

theorem serviceChanged_notifies (e : Engine) (new : Service) (b : NoticeBody) :
    s.Notifies (s.serviceChanged e new b) := notifies_of_offerAll (serviceChanged_ports_get s e new b)

theorem enginesTake_notifies : s.Notifies s.enginesTake := notifies_of_changes (enginesTake_changes s) (by decide)

theorem completeTransform_keepsPorts (e : Engine) (h : Hand) (wrong : Option Figures) :
    s.KeepsPorts (s.completeTransform e h wrong) :=
  keepsPorts_trans (keepsPorts_of_changes (setEngine_changes s e _) (by decide))
    (keepsPorts_trans (routeResult_keepsPorts _ e h.role _)
      (keepsPorts_of_notifies (notifies_of_offerAll (afterCompletion_ports_get _ e))))

theorem abandonAudit_keepsPorts (e : Engine) (c : Channel) : s.KeepsPorts (s.abandonAudit e c) := by
  unfold State.abandonAudit
  dsimp only
  refine keepsPorts_trans (keepsPorts_of_changes (dequeue_changes s c) (by decide)) ?_
  split
  · exact keepsPorts_trans (setKept_keepsPorts _ c none) (arrive_keepsPorts _ _)
  · exact keepsPorts_of_changes (setRole_changes _ _ _ _) (by decide)

theorem serviceOut_keepsPorts (e : Engine) : s.KeepsPorts (s.serviceOut e).1 := by
  by_cases inService : (s.engines.get e).service = .inService
  · by_cases other : (s.engines.get e.other).service = .inService
    · rw [serviceOut_of_both inService other]
      exact keepsPorts_trans (keepsPorts_of_notifies (serviceChanged_notifies s _ _ _))
        (keepsPorts_foldl (fun u c => abandonAudit_keepsPorts u e c) _ _)
    · rw [serviceOut_of_last inService other]
      exact keepsPorts_refl s
  · rw [serviceOut_of_not_inService inService]
    exact keepsPorts_refl s

theorem serviceIn_notifies (e : Engine) : s.Notifies (s.serviceIn e) := by
  cases service : (s.engines.get e).service with
  | inService =>
    rw [serviceIn_of_inService service]
    exact notifies_refl s
  | stopping =>
    rw [serviceIn_of_stopping service]
    exact serviceChanged_notifies s _ _ _
  | out =>
    rw [serviceIn_of_out service]
    exact notifies_trans (serviceChanged_notifies s _ _ _) (enginesTake_notifies _)

/-! ### Frames (R22, R23, R25, R33) -/

theorem closeFrame_keepsPorts (f : Frame) : s.KeepsPorts (s.closeFrame f) := fun l => by
  rw [closeFrame_ports_get]
  split
  · exact keepsPorts_refl s l
  · split
    · exact keepsPorts_refl s l
    · exact settled_kept _ _

theorem setBuffers_keepsPorts (c : Channel) (b : Buffers) : s.KeepsPorts (s.setBuffers c b) :=
  keepsPorts_of_changes (setBuffers_changes s c b) (by decide)

theorem endFrame_keepsPorts (r : Ref) (o : Outcome) (c : Channel) : s.KeepsPorts (s.endFrame r o c) := by
  have closed : ∀ b f, s.KeepsPorts ((s.setBuffers c b).closeFrame f) := fun b f =>
    keepsPorts_trans (setBuffers_keepsPorts s c b) (closeFrame_keepsPorts _ f)
  unfold State.endFrame
  dsimp only
  split
  · split
    · split
      · exact setBuffers_keepsPorts s c _
      · split
        · exact closed _ _
        · exact setBuffers_keepsPorts s c _
      · split
        · exact closed _ _
        · exact setBuffers_keepsPorts s c _
    · exact keepsPorts_refl s
  · exact keepsPorts_refl s
  · exact keepsPorts_refl s

theorem endCycleFrames_keepsPorts (r : Ref) (o : Outcome) : s.KeepsPorts (s.endCycleFrames r o) :=
  keepsPorts_foldl (fun u c => endFrame_keepsPorts u r o c) _ s

theorem writeSample_keepsPorts (c : Channel) (v : Conversion) (x : Sample) : s.KeepsPorts (s.writeSample c v x) := by
  unfold State.writeSample
  dsimp only
  split
  · exact keepsPorts_refl s
  · split
    · exact setBuffers_keepsPorts s c _
    · exact keepsPorts_refl s
  · split
    · split
      · exact keepsPorts_trans (setBuffers_keepsPorts s c _) (closeFrame_keepsPorts _ _)
      · exact setBuffers_keepsPorts s c _
    · split
      · split
        · exact setBuffers_keepsPorts s c _
        · exact keepsPorts_refl s
      · exact keepsPorts_refl s

theorem arriveSample_keepsPorts (c : Channel) (v : Conversion) (analog : Int) :
    s.KeepsPorts (s.arriveSample c v analog) := by
  have finished := fun x => keepsPorts_of_changes (setConverter_changes s c x) (by decide)
  unfold State.arriveSample
  dsimp only
  split
  · exact keepsPorts_trans (finished _) (writeSample_keepsPorts _ c v _)
  · exact finished _

theorem emptyChannel_keepsPorts (c : Channel) : s.KeepsPorts (s.emptyChannel c) := fun l => by
  rw [emptyChannel_ports_get]
  unfold State.portRemoved
  split
  · exact keepsPorts_refl s l
  · split
    · split
      · split
        · exact settled_kept _ _
        · exact keepsPorts_refl s l
      · exact settled_kept _ _
    · exact keepsPorts_refl s l

/-! ### The trackers (R4 to R11) -/

theorem setTracker_keepsPorts (r : Ref) (x : Tracker) : s.KeepsPorts (s.setTracker r x) :=
  keepsPorts_of_changes (setTracker_changes s r x) (by decide)

theorem startCycle_keepsPorts (r : Ref) (st : Tick) : s.KeepsPorts (s.startCycle r st) :=
  keepsPorts_of_changes (startCycle_changes s r st) (by decide)

theorem enterLocked_keepsPorts (r : Ref) (e : Tick) (interval : Nat) : s.KeepsPorts (s.enterLocked r e interval) :=
  keepsPorts_of_changes (enterLocked_changes s r e interval) (by decide)

theorem raiseSync_keepsPorts (r : Ref) (old new : TrackerMode) : s.KeepsPorts (s.raiseSync r old new) :=
  keepsPorts_of_notifies (raise_notifies s _)

theorem lockEvent_keepsPorts (r : Ref) : s.KeepsPorts (s.lockEvent r) :=
  keepsPorts_of_notifies (examineEvent_notifies s _ _)

theorem lock_keepsPorts (r : Ref) (e : Tick) (interval : Nat) : s.KeepsPorts (s.lock r e interval) :=
  keepsPorts_trans (enterLocked_keepsPorts s r e interval)
    (keepsPorts_trans (raiseSync_keepsPorts _ r _ _) (lockEvent_keepsPorts _ r))

theorem lockedEdge_keepsPorts (r : Ref) (e : Tick) (interval : Nat) : s.KeepsPorts (s.lockedEdge r e interval) :=
  keepsPorts_trans (endCycleFrames_keepsPorts s r _)
    (keepsPorts_trans (setTracker_keepsPorts _ r _) (startCycle_keepsPorts _ r e))

theorem relock_keepsPorts (r : Ref) (e : Tick) (interval : Nat) : s.KeepsPorts (s.relock r e interval) :=
  keepsPorts_trans (endCycleFrames_keepsPorts s r _)
    (keepsPorts_trans (enterLocked_keepsPorts _ r e interval) (raiseSync_keepsPorts _ r _ _))

theorem acceptEdge_keepsPorts (r : Ref) (e : Tick) : s.KeepsPorts (s.acceptEdge r e) := by
  have own := setTracker_keepsPorts s r
  unfold State.acceptEdge
  dsimp only
  split
  · exact own _
  · exact own _
  · exact own _
  · split
    · exact keepsPorts_trans (own _) (lock_keepsPorts _ r e _)
    · exact keepsPorts_trans (own _) (lockedEdge_keepsPorts _ r e _)
    · exact keepsPorts_trans (own _) (relock_keepsPorts _ r e _)

theorem expireDeadline_keepsPorts (r : Ref) : s.KeepsPorts (s.expireDeadline r) :=
  keepsPorts_trans (endCycleFrames_keepsPorts s r _)
    (keepsPorts_trans (setTracker_keepsPorts _ r _)
      (keepsPorts_trans (startCycle_keepsPorts _ r _) (raiseSync_keepsPorts _ r _ _)))

theorem loseReference_keepsPorts (r : Ref) : s.KeepsPorts (s.loseReference r) :=
  keepsPorts_trans (setTracker_keepsPorts s r _)
    (keepsPorts_trans (raiseSync_keepsPorts _ r _ _) (lockEvent_keepsPorts _ r))

theorem endHeldCycle_keepsPorts (r : Ref) : s.KeepsPorts (s.endHeldCycle r) := by
  unfold State.endHeldCycle
  dsimp only
  refine keepsPorts_trans (endCycleFrames_keepsPorts s r .held) ?_
  split
  · exact loseReference_keepsPorts _ r
  · exact keepsPorts_trans (setTracker_keepsPorts _ r _) (startCycle_keepsPorts _ r _)

/-! ### The test unit (R150 to R158) -/

theorem setTest_raise_notifies (g : Group) (x : TestState) (b : NoticeBody) : s.Notifies ((s.setTest g x).raise b) :=
  notifies_trans (notifies_of_changes (setTest_changes s g x) (by decide)) (raise_notifies _ b)

theorem endOffer_notifies (g : Group) (cause : TestCause) : s.Notifies (s.endOffer g cause) :=
  setTest_raise_notifies s g _ _

theorem startTest_notifies (g : Group) (seconds : Nat) : s.Notifies (s.startTest g seconds) :=
  notifies_trans (setTest_raise_notifies s g _ _) (examineEvent_notifies _ _ _)

theorem endTest_notifies (g : Group) (cause : TestCause) : s.Notifies (s.endTest g cause) :=
  notifies_of_offerAll (endTest_ports_get s g cause)

theorem grantTest_notifies (l : Link) (g : Group) (seconds : Nat) : s.Notifies (s.grantTest l g seconds).1 := by
  unfold State.grantTest
  split
  · split
    · exact notifies_refl s
    · exact setTest_raise_notifies s g _ _
  · split
    · exact notifies_refl s
    · split
      · exact notifies_refl s
      · split
        · exact endOffer_notifies s g _
        · exact startTest_notifies s g _
  · exact notifies_refl s

theorem stopTest_notifies (g : Group) : s.Notifies (s.stopTest g).1 := by
  unfold State.stopTest
  split
  · exact endTest_notifies s g _
  · exact endOffer_notifies s g _
  · exact notifies_refl s

theorem breakerCloses_notifies (g : Group) : s.Notifies (s.breakerCloses g) := by
  have closed : s.Notifies (s.breakerClosed g) := notifies_of_changes (breakerClosed_causeParts s g) (by decide)
  cases running : s.tests[g].isRunning with
  | true =>
    rw [breakerCloses_of_running running]
    exact notifies_trans closed (endTest_notifies _ g _)
  | false =>
    rw [breakerCloses_of_not_running running]
    exact notifies_trans closed (examineEvent_notifies _ _ _)

/-! ### The plan store (R132 to R144) -/

theorem setStaging_notifies (x : Staging) : s.Notifies (s.setStaging x) :=
  notifies_of_changes (setStaging_changes s x) (by decide)

theorem restage_notifies (x : Staging) (subject : Option Link) (old new : PlanPhase) (n : Half) :
    s.Notifies ((s.setStaging x).raisePlan subject old new n) :=
  notifies_trans (setStaging_notifies s x) (raise_notifies _ _)

theorem openStaging_notifies (l : Link) : s.Notifies (s.openStaging l).1 := by
  unfold State.openStaging
  split
  · exact notifies_refl s
  · split
    · exact notifies_refl s
    · split
      · exact notifies_refl s
      · exact notifies_refl s
      · exact restage_notifies s _ _ _ _ _

theorem writeEntry_notifies (l : Link) (kind number : Byte) (item : List Byte) :
    s.Notifies (s.writeEntry l kind number item).1 := by
  unfold State.writeEntry
  split
  · exact notifies_refl s
  · split
    · exact notifies_refl s
    · exact setStaging_notifies s _

theorem sealStaging_notifies (l : Link) : s.Notifies (s.sealStaging l).1 := by
  unfold State.sealStaging
  split
  · exact notifies_refl s
  · dsimp only
    split
    · exact restage_notifies s _ _ _ _ _
    · exact notifies_refl s

theorem discardStaging_notifies (l : Link) : s.Notifies (s.discardStaging l).1 := by
  unfold State.discardStaging
  split
  · exact notifies_refl s
  · split
    · exact restage_notifies s _ _ _ _ _
    · exact notifies_refl s
  · split
    · exact notifies_refl s
    · exact restage_notifies s _ _ _ _ _

theorem expireAccept_notifies : s.Notifies s.expireAccept := by
  unfold State.expireAccept
  split
  · exact restage_notifies s _ _ _ _ _
  all_goals exact notifies_refl s

theorem activateChannel_keepsPorts (old : Plan) (c : Channel) : s.KeepsPorts (State.activateChannel old s c) := by
  have disarm : ∀ u : State, u.KeepsPorts (u.disarm c) := fun u =>
    keepsPorts_of_changes (setConverter_changes u c _) (by decide)
  have empty := emptyChannel_keepsPorts s c
  unfold State.activateChannel
  split
  · exact keepsPorts_refl s
  · exact keepsPorts_trans (setBuffers_keepsPorts s c _) (disarm _)
  · exact keepsPorts_trans empty (disarm _)
  · split
    · exact empty
    · exact keepsPorts_trans empty (disarm _)

theorem closeTestByPlan_notifies (g : Group) : s.Notifies (s.closeTestByPlan g) :=
  notifies_trans (notifies_of_offerAll (closeTest_ports_get s g .plan)) (commitChecks_notifies _ _ _)

theorem activateVerdicts_notifies (ended : Group → Bool) : s.Notifies (s.activateVerdicts ended) :=
  notifies_trans (commitVerdicts_notifies s _ _) (setAlert_notifies _)

/-- Only the channels that an activation empties settle frames (R33, R64). -/
theorem activate_keepsPorts (l : Link) (p : Plan) (n : Half) : s.KeepsPorts (s.activate l p n) := by
  have swapped : s.KeepsPorts (s.swapped l p n) :=
    keepsPorts_trans (keepsPorts_of_changes (with_planStore s _) (by decide))
      (keepsPorts_trans (keepsPorts_of_notifies (raise_notifies _ _))
        (keepsPorts_foldl (fun u c => activateChannel_keepsPorts u s.plan c) _ _))
  have restarted : (s.swapped l p n).Notifies (s.restarted l p n) := commitChecks_notifies _ _ _
  have closed : (s.restarted l p n).Notifies (s.testsClosed l p n) := notifies_foldl closeTestByPlan_notifies _ _
  have sources := notifies_of_changes (returnSources_changes (s.testsClosed l p n)) (by decide)
  rw [activate_eq]
  exact keepsPorts_trans swapped (keepsPorts_of_notifies (notifies_trans restarted
    (notifies_trans closed (notifies_trans sources (activateVerdicts_notifies _ _)))))

theorem acceptPlan_keepsPorts (l : Link) (n : Half) : s.KeepsPorts (s.acceptPlan l n).1 := by
  unfold State.acceptPlan
  split
  · exact keepsPorts_refl s
  · exact keepsPorts_refl s
  · split
    · exact keepsPorts_refl s
    · split
      · exact keepsPorts_of_notifies (setStaging_notifies s _)
      · split
        · exact keepsPorts_refl s
        · exact activate_keepsPorts s l _ _

/-! ### Commands (R165) -/

/-- A command may change the log, the mask and the overflow flag of its own port (R170 to R172). -/
theorem setPort_notifies {l : Link} {q : Port} (h : (s.ports.get l).Noticed q) : s.Notifies (s.setPort l q) := by
  intro l'
  rw [setPort_ports]
  by_cases own : l' = l
  · rw [own, perLink_get_set_self]
    exact h
  · rw [perLink_get_set_ne _ _ own]
    exact noticed_refl _

theorem runReadNotices_notifies (l : Link) (maximum : Byte) : s.Notifies (runReadNotices s l maximum).state := by
  refine setPort_notifies s ⟨rfl, rfl, rfl, rfl, fun h => ?_⟩
  rw [List.length_drop]
  omega

theorem runReadStats_notifies (kind number clear : Byte) : s.Notifies (runReadStats s kind number clear).state := by
  unfold runReadStats
  split
  · split
    · dsimp only
      split
      · exact notifies_of_changes (setBuffers_changes s _ _) (by decide)
      · exact notifies_refl s
    · exact notifies_refl s
  · split
    · dsimp only
      split
      · exact notifies_of_changes (setTracker_changes s _ _) (by decide)
      · exact notifies_refl s
    · exact notifies_refl s
  · exact notifies_refl s

theorem runEngineService_keepsPorts (engine direction : Byte) :
    s.KeepsPorts (runEngineService s engine direction).state := by
  unfold runEngineService
  split
  · exact keepsPorts_refl s
  · split
    · exact serviceOut_keepsPorts s _
    · exact keepsPorts_of_notifies (serviceIn_notifies s _)
    · exact keepsPorts_refl s

theorem runLoadPattern_notifies (store slot : Byte) (samples : List Half) :
    s.Notifies (runLoadPattern s store slot samples).state := by
  unfold runLoadPattern
  split
  · exact notifies_refl s
  · split
    · exact notifies_refl s
    · split
      · exact notifies_refl s
      · exact notifies_of_changes (loadPattern_changes s _ _ _) (by decide)

theorem runTestSource_notifies (channel source : Byte) : s.Notifies (runTestSource s channel source).state := by
  unfold runTestSource
  split
  · exact notifies_of_changes (switchSource_changes s _ _) (by decide)
  · exact notifies_refl s

/-- Only ACCEPT PLAN and ENGINE SERVICE can settle frames; every other command notifies at most. -/
theorem runCommand_keepsPorts (l : Link) (c : Command) : s.KeepsPorts (s.runCommand l c).state := by
  have notified : ∀ {t : State}, s.Notifies t → s.KeepsPorts t := keepsPorts_of_notifies
  have same := keepsPorts_refl s
  cases c with
  | readStatus | drainWait | readEntry => exact same
  | readStats kind number clear => exact notified (runReadStats_notifies s kind number clear)
  | readNotices maximum => exact notified (runReadNotices_notifies s l maximum)
  | setNoticeMask | clearOverflow => exact notified (setPort_notifies s ⟨rfl, rfl, rfl, rfl, id⟩)
  | readResult =>
    simp only [State.runCommand, runReadResult]
    split
    · exact same
    · split <;> exact same
  | readChecks =>
    simp only [State.runCommand, runReadChecks]
    split <;> exact same
  | readGroup =>
    simp only [State.runCommand, runReadGroup]
    split <;> exact same
  | openStaging => exact notified (openStaging_notifies s l)
  | writeEntry kind number item => exact notified (writeEntry_notifies s l kind number item)
  | discardStaging => exact notified (discardStaging_notifies s l)
  | acceptPlan n => exact acceptPlan_keepsPorts s l n
  | clearLatch =>
    simp only [State.runCommand, runClearLatch]
    split
    · exact same
    · exact notified (causeEvent_notifies s _ _ _)
  | startQuiet =>
    simp only [State.runCommand, runStartQuiet]
    split
    · exact same
    · exact notified (startQuiet_notifies s _)
  | restorePermit =>
    simp only [State.runCommand, runRestorePermit]
    split
    · exact same
    · exact notified (restorePermit_notifies s l _)
  | clearFaults => exact keepsPorts_of_changes (clearFaults_changes s) (by decide)
  | engineService engine direction => exact runEngineService_keepsPorts s engine direction
  | testGrant =>
    simp only [State.runCommand, runTestGrant]
    split
    · exact same
    · exact notified (grantTest_notifies s l _ _)
  | testEnd =>
    simp only [State.runCommand, runTestEnd]
    split
    · exact same
    · exact notified (stopTest_notifies s _)
  | loadPattern store slot samples => exact notified (runLoadPattern_notifies s store slot samples)
  | testSource channel source => exact notified (runTestSource_notifies s channel source)
  -- SEAL is left, whose name is a word of Lean.
  | _ => exact notified (sealStaging_notifies s l)

end Sys2Proof.Machine
end

section
/-! SUPPORT. How the ports execute the commands that wait at them (R164, R167): what one execution posts, that each
takes one command from a queue, and that in the end no port is left that could execute. -/

namespace Sys2Proof.Machine

variable {s t u : State} {l : Link} {f : CmdFrame}

/-! ### One frame -/

/-- The two outcomes of the execution of frame `f` at link `l`: a reply is posted once the command has acted, or a DRAIN
WAIT has frames to wait for. -/
inductive State.Answers (s : State) (l : Link) (f : CmdFrame) : State → Prop where
  | posts {u : State} (keeps : s.KeepsPorts u) (atOnce : parse f ≠ some .drainWait ∨ s.unsettled = [])
      (code : ReplyCode) (body : List Byte) : s.Answers l f (u.reply l f code body)
  | waits (drain : parse f = some .drainWait) (unsettled : s.unsettled ≠ []) :
      s.Answers l f (s.setPort l { s.ports.get l with
        drain := some { tag := f.tag, awaiting := s.unsettled, count := s.unsettled.length, started := s.clock } })

theorem runFrame_answers (s : State) (l : Link) (f : CmdFrame) : s.Answers l f (s.runFrame l f) := by
  have same := keepsPorts_refl s
  unfold State.runFrame
  split
  · next unparsed => exact .posts same (.inl (by rw [unparsed]; nofun)) _ _
  · next c parsed =>
    split
    · next refused =>
      refine .posts same (.inl fun drain => ?_) _ _
      obtain rfl : c = .drainWait := Option.some.inj (parsed.symm.trans drain)
      exact absurd refused nofun
    · split
      · next drain =>
        subst drain
        by_cases settled : s.unsettled = []
        · rw [startDrain_of_settled settled]
          exact .posts same (.inr settled) _ _
        · rw [startDrain_of_unsettled settled]
          exact .waits parsed settled
      · next other =>
        exact .posts (runCommand_keepsPorts s l c) (.inl fun drain => other (Option.some.inj (parsed.symm.trans drain)))
          _ _

theorem setPort_ports_get (s : State) (l : Link) (p : Port) : (s.setPort l p).ports.get l = p :=
  perLink_get_set_self _ _ _

theorem setPort_ports_get_ne (s : State) {l l' : Link} (other : l' ≠ l) (p : Port) :
    (s.setPort l p).ports.get l' = s.ports.get l' := perLink_get_set_ne _ _ other

theorem setPort_queue_get (s : State) {l : Link} {p : Port} (h : p.queue = (s.ports.get l).queue) (l' : Link) :
    ((s.setPort l p).ports.get l').queue = (s.ports.get l').queue := by
  by_cases own : l' = l
  · rw [own, setPort_ports_get, h]
  · rw [setPort_ports_get_ne s own]

/-- No execution puts a command in a queue or takes one out. -/
theorem answers_queue (h : s.Answers l f t) (l' : Link) : (t.ports.get l').queue = (s.ports.get l').queue := by
  cases h with
  | @posts u keeps =>
    refine Eq.trans (setPort_queue_get u ?_ l') (keeps l').queue
    rfl
  | waits =>
    refine setPort_queue_get s ?_ l'
    rfl

/-- A port other than the executing one has had at most notices and settlings. -/
theorem answers_kept_ne (h : s.Answers l f t) {l' : Link} (other : l' ≠ l) :
    (s.ports.get l').Kept (t.ports.get l') := by
  cases h with
  | posts keeps =>
    rw [reply_ports_get_ne _ other]
    exact keeps l'
  | waits =>
    rw [setPort_ports_get_ne s other]
    exact keepsPorts_refl s l'

theorem ready_iff (p : Port) : p.ready = true ↔ p.halted = false ∧ p.drain = none ∧ p.queue ≠ [] := by
  simp [Port.ready, and_assoc, and_comm]

/-- The reply, or the drain, takes the place that the command had in the outstanding count (R161). -/
theorem answers_portsSound (h : s.Answers l f t) (sound : s.PortsSound) (undrained : (s.ports.get l).drain = none)
    (running : (s.ports.get l).halted = false) (room : (s.ports.get l).outstanding < 16) : t.PortsSound := by
  intro l'
  by_cases own : l' = l
  · subst own
    cases h with
    | @posts u keeps _ code body =>
      obtain ⟨drain, replies⟩ := (keeps l').undrained undrained
      have before := (keeps l').sound (sound l')
      rw [reply_ports_get]
      refine ⟨?_, before.log_le, fun _ => drain, fun d some => absurd (drain.symm.trans some) nofun⟩
      simp only [Port.outstanding, drain, replies, (keeps l').queue, undrained, List.length_append,
        List.length_singleton] at room ⊢
      omega
    | waits _ unsettled =>
      rw [setPort_ports_get]
      refine ⟨?_, (sound l').log_le, fun halted => absurd (running.symm.trans halted) nofun, fun d hd => ?_⟩
      · simp only [Port.outstanding, undrained, Option.isSome, if_true, Bool.false_eq_true, if_false] at room ⊢
        omega
      · cases hd
        exact unsettled
  · exact (answers_kept_ne h own).sound (sound l')

/-! ### The head of a queue -/

theorem runHead_of_queue {rest : List CmdFrame} (queue : (s.ports.get l).queue = f :: rest) :
    s.runHead l = (s.setPort l { s.ports.get l with queue := rest }).runFrame l f := by
  simp only [State.runHead, queue]

theorem runHead_queued {rest : List CmdFrame} (queue : (s.ports.get l).queue = f :: rest) :
    s.queued = (s.runHead l).queued + 1 := by
  have left : s.queued = (s.setPort l { s.ports.get l with queue := rest }).queued + 1 := by
    cases l <;> simp only [PerLink.get] at queue <;>
      simp only [State.queued, State.setPort, PerLink.set, queue, List.length_cons] <;> omega
  rw [runHead_of_queue queue, queued_of_queue (answers_queue (runFrame_answers _ l f)), left]

theorem setPort_portsSound {p : Port} (sound : s.PortsSound) (h : p.Sound) : (s.setPort l p).PortsSound := by
  intro l'
  by_cases own : l' = l
  · rw [own, setPort_ports_get]
    exact h
  · rw [setPort_ports_get_ne s own]
    exact sound l'

theorem runHead_portsSound (sound : s.PortsSound) (ready : (s.ports.get l).ready = true) :
    (s.runHead l).PortsSound := by
  obtain ⟨running, undrained, waiting⟩ := (ready_iff _).1 ready
  obtain ⟨f, rest, queue⟩ := List.exists_cons_of_ne_nil waiting
  have before := sound l
  have bound := before.outstanding_le
  simp only [Port.outstanding, queue, undrained, List.length_cons] at bound
  have room : ({ s.ports.get l with queue := rest } : Port).outstanding < 16 := by
    simp only [Port.outstanding, undrained]
    omega
  rw [runHead_of_queue queue]
  refine answers_portsSound (runFrame_answers _ l f) (setPort_portsSound sound
    ⟨room.le, before.log_le, before.not_halted_draining, before.drain_awaits⟩) ?_ ?_ ?_
  · rw [setPort_ports_get]; exact undrained
  · rw [setPort_ports_get]; exact running
  · rw [setPort_ports_get]; exact room

/-! ### One execution among the ready ports -/

theorem runOne_of_sole (sole : s.readyPorts = [l]) : s.runOne = s.runHead l := by simp only [State.runOne, sole]

/-- With several ports ready a free value says which goes first (log entry 9). -/
theorem runOne_of_several (several : 2 ≤ s.readyPorts.length) :
    ∃ l ∈ s.readyPorts, s.runOne = ({ s with choices := s.choices + 1 } : State).runHead l := by
  unfold State.runOne
  match ready : s.readyPorts with
  | [] | [_] => rw [ready] at several; simp at several
  | l :: l' :: ls =>
    refine ⟨_, ?_, rfl⟩
    rw [List.getD_eq_getElem _ _ (Nat.mod_lt _ (by simp))]
    exact List.getElem_mem _

theorem runOne_cases (s : State) : s.calm ∨
    ∃ l choices, (s.ports.get l).ready = true ∧ s.runOne = ({ s with choices := choices } : State).runHead l := by
  match ready : s.readyPorts with
  | [] => exact .inl ready
  | [l] => exact .inr ⟨l, s.choices, (mem_readyPorts s l).1 (by simp [ready]), runOne_of_sole ready⟩
  | l :: l' :: ls =>
    obtain ⟨l₀, mem, one⟩ := runOne_of_several (s := s) (by simp [ready])
    exact .inr ⟨l₀, _, (mem_readyPorts s l₀).1 mem, one⟩

/-! ### All the waiting commands -/

theorem runOne_queued (busy : ¬s.calm) : s.queued = s.runOne.queued + 1 := by
  obtain calm | ⟨l, choices, ready, one⟩ := runOne_cases s
  · exact absurd calm busy
  · obtain ⟨f, rest, queue⟩ := List.exists_cons_of_ne_nil ((ready_iff _).1 ready).2.2
    rw [one]
    exact runHead_queued (s := { s with choices := choices }) queue

/-- Executions go on one by one until no port is ready. -/
theorem runAll_of_busy (busy : ¬s.calm) : s.runAll = s.runOne.runAll := by
  rw [State.runAll, runOne_queued busy]
  rfl

theorem runPorts_calm (n : Nat) : ∀ s : State, s.queued ≤ n → (State.runPorts n s).calm := by
  induction n with
  | zero => exact fun s none => calm_of_queued_zero (Nat.le_zero.1 none)
  | succ n ih =>
    intro s bound
    by_cases calm : s.calm
    · rw [runPorts_of_calm calm]
      exact calm
    · have one := runOne_queued calm
      exact ih s.runOne (by omega)

theorem runAll_calm (s : State) : s.runAll.calm := runPorts_calm _ s le_rfl

theorem runPorts_portsSound (n : Nat) : ∀ s : State, s.PortsSound → (State.runPorts n s).PortsSound := by
  induction n with
  | zero => exact fun s sound => sound
  | succ n ih =>
    intro s sound
    refine ih _ ?_
    obtain calm | ⟨l, choices, ready, one⟩ := runOne_cases s
    · rw [runOne_of_calm calm]
      exact sound
    · rw [one]
      exact runHead_portsSound (s := { s with choices := choices }) sound ready

theorem runAll_portsSound (sound : s.PortsSound) : s.runAll.PortsSound := runPorts_portsSound _ s sound

/-! ### RESUME and the waiting commands (R164, R167) -/

theorem resumeLink_of_halted (halted : (s.ports.get l).halted = true) :
    s.resumeLink l = (s.setPort l { s.ports.get l with halted := false }).runAll := if_pos halted

theorem resumeLink_of_not_halted (running : (s.ports.get l).halted = false) : s.resumeLink l = s :=
  if_neg (by rw [running]; nofun)

theorem answers_halted_ne (h : s.Answers l f t) (l' : Link) (other : l' ≠ l) :
    (t.ports.get l').halted = (s.ports.get l').halted := (answers_kept_ne h other).halted

theorem answers_waits (h : s.Answers l f t) (drain : parse f = some .drainWait) (unsettled : s.unsettled ≠ []) :
    (t.ports.get l).replies = (s.ports.get l).replies ∧ (t.ports.get l).halted = (s.ports.get l).halted ∧
    ∃ d, (t.ports.get l).drain = some d ∧ d.tag = f.tag := by
  cases h with
  | posts _ atOnce => exact atOnce.elim (absurd drain) (absurd · unsettled)
  | waits =>
    rw [setPort_ports_get]
    exact ⟨rfl, rfl, _, rfl, rfl⟩

theorem answers_posts (h : s.Answers l f t) (undrained : (s.ports.get l).drain = none)
    (atOnce : parse f ≠ some .drainWait ∨ s.unsettled = []) :
    (t.ports.get l).drain = none ∧ ∃ code body,
      (t.ports.get l).replies = (s.ports.get l).replies ++
        [{ command := f.code, tag := f.tag, code := code, body := body }] ∧
      (t.ports.get l).halted = ((s.ports.get l).halted || code == .malformed) := by
  cases h with
  | posts keeps _ code body =>
    obtain ⟨drain, replies⟩ := (keeps l).undrained undrained
    rw [reply_ports_get, ← replies, ← (keeps l).halted]
    exact ⟨drain, code, body, rfl, rfl⟩
  | waits drain unsettled => exact atOnce.elim (absurd drain) (absurd · unsettled)

/-- Settles O46: `runFrame_answers` says what one execution does, `runAll_of_busy` that the next follows it. -/
theorem resumeActs : Obligations.ResumeActs := by
  refine ⟨fun l s => ⟨fun running => ?_, fun halted => ?_⟩, fun s l => (mem_readyPorts s l).trans (ready_iff _),
    fun s calm => runAll_of_calm calm, fun s l f rest sole queue => ?_, fun s several => ?_, fun s l f undrained => ?_⟩
  · exact congrArg Host.Outcome.next (resumeLink_of_not_halted running)
  · exact congrArg Host.Outcome.next (resumeLink_of_halted halted)
  · have busy : ¬s.calm := fun calm => absurd (sole.symm.trans calm) nofun
    rw [runAll_of_busy busy, runOne_of_sole sole, runHead_of_queue queue]
  · have busy : ¬s.calm := fun calm => by
      rw [show s.readyPorts = [] from calm] at several
      exact absurd several (by decide)
    obtain ⟨l, mem, one⟩ := runOne_of_several several
    obtain ⟨-, -, waiting⟩ := (ready_iff _).1 ((mem_readyPorts s l).1 mem)
    obtain ⟨f, rest, queue⟩ := List.exists_cons_of_ne_nil waiting
    refine ⟨l, mem, f, rest, queue, ?_⟩
    rw [runAll_of_busy busy, one]
    exact congrArg State.runAll (runHead_of_queue (s := { s with choices := s.choices + 1 }) queue)
  · have answers := runFrame_answers s l f
    exact ⟨answers_queue answers, answers_halted_ne answers, answers_waits answers, answers_posts answers undrained⟩

end Sys2Proof.Machine
end

section
/-! SUPPORT. The ports at every step (R161, R164, R167, R169, R171): the bounds of each port, and that no port is left
with a command that it could execute. -/

namespace Sys2Proof.Machine

variable {s t u : State} {l : Link}

/-- The ports are within their bounds, and none of them has a command that it could execute. -/
def State.PortsOrderly (s : State) : Prop := s.PortsSound ∧ s.calm

theorem orderly_of_notifies (h : s.Notifies t) (orderly : s.PortsOrderly) : t.PortsOrderly :=
  ⟨keepsPorts_portsSound (keepsPorts_of_notifies h) orderly.1, notifies_calm h orderly.2⟩

/-- Whatever an event does, the ports then execute all they can. -/
theorem runAll_orderly (sound : s.PortsSound) : s.runAll.PortsOrderly := ⟨runAll_portsSound sound, runAll_calm s⟩

theorem keepsPorts_runAll_orderly (h : s.KeepsPorts t) (sound : s.PortsSound) : t.runAll.PortsOrderly :=
  runAll_orderly (keepsPorts_portsSound h sound)

theorem afterJoins_notifies (s : State) : s.Notifies s.afterJoins :=
  notifies_of_changes (afterJoins_changes s) (by decide)

theorem settleDown_orderly (h : s.KeepsPorts t) (sound : s.PortsSound) : t.afterJoins.runAll.PortsOrderly :=
  keepsPorts_runAll_orderly (keepsPorts_trans h (keepsPorts_of_notifies (afterJoins_notifies t))) sound

theorem setPort_orderly {p : Port} (orderly : s.PortsOrderly) (sound : p.Sound) (idle : p.ready = false) :
    (s.setPort l p).PortsOrderly := by
  refine ⟨setPort_portsSound orderly.1 sound, (calm_iff _).2 fun l' => ?_⟩
  by_cases own : l' = l
  · rw [own, setPort_ports_get, idle]
  · rw [setPort_ports_get_ne s own]
    exact (calm_iff s).1 orderly.2 l'

theorem reset_sound : Port.reset.Sound := ⟨by decide, by decide, nofun, nofun⟩

/-! ### Frames taken, control frames and transfers (R162, R163, R167, R168) -/

theorem droppedSet_notifies (s : State) (l : Link) (b : Bool) :
    s.Notifies (s.setPort l { s.ports.get l with dropped := b }) := setPort_notifies s ⟨rfl, rfl, rfl, rfl, id⟩

theorem takeCommand_orderly (f : CmdFrame) (orderly : s.PortsOrderly) : (s.takeCommand l f).PortsOrderly := by
  unfold State.takeCommand
  dsimp only
  split
  · exact orderly_of_notifies (droppedSet_notifies s l true) orderly
  · next room =>
    have before := orderly.1 l
    refine runAll_orderly (setPort_portsSound orderly.1
      ⟨?_, before.log_le, before.not_halted_draining, before.drain_awaits⟩)
    simp only [Port.outstanding, outstandingRoom, List.length_append, List.length_singleton] at room ⊢
    omega

theorem resumeLink_orderly (orderly : s.PortsOrderly) : (s.resumeLink l).PortsOrderly := by
  cases halted : (s.ports.get l).halted with
  | true =>
    have before := orderly.1 l
    rw [resumeLink_of_halted halted]
    exact runAll_orderly (setPort_portsSound orderly.1
      ⟨before.outstanding_le, before.log_le, nofun, before.drain_awaits⟩)
  | false =>
    rw [resumeLink_of_not_halted halted]
    exact orderly

theorem resetLink_orderly (orderly : s.PortsOrderly) : (s.resetLink l).PortsOrderly :=
  orderly_of_notifies (notifies_of_offerAll (resetLink_ports_get s l)) (setPort_orderly orderly reset_sound rfl)

theorem clockIn_orderly (bytes : List Byte) (orderly : s.PortsOrderly) : (s.clockIn l bytes).PortsOrderly := by
  unfold State.clockIn State.frameTaken
  split
  · split
    · split
      · exact resumeLink_orderly orderly
      · exact resetLink_orderly orderly
    · exact takeCommand_orderly _ orderly
  · exact orderly

theorem dropFrame_notifies (s : State) (l : Link) : s.Notifies (s.dropFrame l) := by
  unfold State.dropFrame
  dsimp only
  split
  · exact droppedSet_notifies s l true
  · exact notifies_refl s

theorem transferOut_notifies (s : State) (l : Link) : s.Notifies (s.transferOut l) :=
  notifies_trans (droppedSet_notifies s l false) (notifies_of_ports rfl)

/-- A reply read lowers the outstanding count and frees no port. -/
theorem readReply_orderly (orderly : s.PortsOrderly) : (s.readReply l).PortsOrderly := by
  unfold State.readReply
  dsimp only
  split
  · exact orderly_of_notifies (notifies_of_ports rfl) orderly
  · next x rest replies =>
    have before := orderly.1 l
    have bound := before.outstanding_le
    refine orderly_of_notifies (s := s.setPort l { s.ports.get l with replies := rest }) (notifies_of_ports rfl)
      (setPort_orderly orderly ⟨?_, before.log_le, before.not_halted_draining, before.drain_awaits⟩
        ((calm_iff s).1 orderly.2 l))
    simp only [Port.outstanding, replies, List.length_cons] at bound ⊢
    omega

/-- At the timeout of a drain its reply takes its place in the outstanding count (R169). -/
theorem endDrain_portsSound (sound : s.PortsSound) : (s.endDrain l).PortsSound := by
  unfold State.endDrain
  dsimp only
  split
  · exact sound
  · next d drain =>
    have before := sound l
    have bound := before.outstanding_le
    refine setPort_portsSound sound ⟨?_, before.log_le, fun _ => rfl, nofun⟩
    simp only [Port.outstanding, Port.post, drain, Option.isSome, List.length_append, List.length_singleton, if_true,
      Bool.false_eq_true, if_false] at bound ⊢
    omega

theorem powerOn_orderly (stop : Bool) (inService : Vector Bool 4) (pending : List Instr) (choices : Nat) :
    ({ State.powerOn stop inService pending with choices := choices } : State).PortsOrderly :=
  ⟨fun l => by cases l <;> exact reset_sound, rfl⟩

/-! ### Every row of the table, and every step -/

theorem whenDue_orderly {due : Bool} {effect : State} (h : effect.PortsOrderly) (orderly : s.PortsOrderly)
    (run : whenDue due effect s = .next t) : t.PortsOrderly := by
  cases run
  split
  · exact h
  · exact orderly

theorem next_orderly {effect : State} (h : effect.PortsOrderly) (run : (.next effect : Result) = .next t) :
    t.PortsOrderly := by
  cases run
  exact h

theorem exec_orderly {i : Instr} (orderly : s.PortsOrderly) (h : exec i s = .next t) : t.PortsOrderly := by
  have notified : ∀ {u : State}, s.Notifies u → u.PortsOrderly := fun k => orderly_of_notifies k orderly
  have settled : ∀ {u : State}, s.KeepsPorts u → u.afterJoins.runAll.PortsOrderly := fun k =>
    settleDown_orderly k orderly.1
  cases hf : i.frame with
  | some x =>
    rw [exec_of_frame s hf] at h
    exact next_orderly (clockIn_orderly _ orderly) h
  | none =>
    cases i with
    | powerOnReset => exact next_orderly (powerOn_orderly _ _ _ _) h
    | edgeAccepted r =>
      unfold exec execEdgeAccepted at h
      dsimp only at h
      split at h
      · exact whenDue_orderly (settled (acceptEdge_keepsPorts s r _)) orderly h
      · exact next_orderly orderly h
    | deadlineExpiry r => exact whenDue_orderly (settled (expireDeadline_keepsPorts s r)) orderly h
    | heldCycleEnd r => exact whenDue_orderly (settled (endHeldCycle_keepsPorts s r)) orderly h
    | strobe r => exact whenDue_orderly (notified (notifies_of_changes (nextStrobe_changes s r) (by decide))) orderly h
    | sampleArrival c cycle slot analog =>
      unfold exec execSampleArrival at h
      dsimp only at h
      split at h
      · exact next_orderly (settled (arriveSample_keepsPorts s c _ _)) h
      · exact next_orderly orderly h
    | transformComplete e wrong =>
      unfold exec execTransformComplete at h
      dsimp only at h
      split at h
      · exact next_orderly (keepsPorts_runAll_orderly (completeTransform_keepsPorts s e _ wrong) orderly.1) h
      · exact next_orderly orderly h
    | stopInputChange asserted => exact whenDue_orderly (notified (changeStop_notifies s asserted)) orderly h
    | inServiceRise g => exact whenDue_orderly (notified (breakerCloses_notifies s g)) orderly h
    | inServiceFall g => exact whenDue_orderly (notified (breakerOpens_notifies s g)) orderly h
    | quietEnd g => exact whenDue_orderly (notified (endQuiet_notifies s g)) orderly h
    | drainTimeout l => exact whenDue_orderly (runAll_orderly (endDrain_portsSound orderly.1)) orderly h
    | acceptWindowExpiry => exact whenDue_orderly (notified (expireAccept_notifies s)) orderly h
    | restoreWindowExpiry g => exact whenDue_orderly (notified (reasonEvent_notifies s _)) orderly h
    | offerWindowExpiry g => exact whenDue_orderly (notified (endOffer_notifies s g _)) orderly h
    | testRunExpiry g => exact whenDue_orderly (notified (endTest_notifies s g _)) orderly h
    | droppedFrame l => exact next_orderly (notified (dropFrame_notifies s l)) h
    | transferOut l => exact next_orderly (notified (transferOut_notifies s l)) h
    | replyRead l => exact next_orderly (readReply_orderly orderly) h
    | resume l => exact next_orderly (resumeLink_orderly orderly) h
    | linkReset l => exact next_orderly (resetLink_orderly orderly) h
    | syncInputSample r high =>
      exact whenDue_orderly (notified (notifies_trans (notifies_of_changes (sampleInput_changes s r high) (by decide))
        (afterJoins_notifies _))) orderly h
    | _ => cases hf

/-- Settles O53: an event that settles frames is followed by all that the ports can execute, and every other event
notifies at most. -/
theorem portsStaySound : Obligations.PortsStaySound := by
  intro s t sound calm run
  unfold step at run
  split at run
  · exact next_orderly (orderly_of_notifies (notifies_of_changes (tick_changes s) (by decide)) ⟨sound, calm⟩) run
  · next i rest _ =>
    exact exec_orderly (s := { s with pending := rest }) (orderly_of_notifies (notifies_of_ports rfl) ⟨sound, calm⟩) run

end Sys2Proof.Machine
end

section
/-! SUPPORT. The codec of command frames in both directions (R165, R178, R179). -/

namespace Sys2Proof.Machine

/-! ### From a command to its frame and back -/

theorem parse_testGrant_frame (tag group : Byte) (seconds : Half) :
    parse ((Command.testGrant group seconds).frame tag) = some (.testGrant group seconds) :=
  congrArg (fun n => some (Command.testGrant group n)) (half_of_bytes seconds)

theorem parse_frame {c : Command} (fits : c.fits = true) (tag : Byte) : parse (c.frame tag) = some c := by
  cases c with
  | readResult channel orders => exact if_pos (of_decide_eq_true fits)
  | writeEntry kind number item => exact if_pos (of_decide_eq_true fits)
  | acceptPlan n => exact parse_acceptPlan_frame tag n
  | testGrant group seconds => exact parse_testGrant_frame tag group seconds
  | loadPattern store slot samples => exact parse_loadPattern_frame tag store slot (of_decide_eq_true fits)
  | _ => rfl

/-- Settles O4: the payload of a command that fits has its length in one byte. -/
theorem parseReadsEveryCommand : Obligations.ParseReadsEveryCommand := fun tag _ fits =>
  have length := payload_length_of_fits fits
  ⟨length, rfl, frameOfBytes_bytes length, parse_frame fits tag⟩

/-! ### From a frame to its command and back -/

/-- What `p` reads from a payload is a command of this code and with this payload. -/
def ReadsBack (code : Byte) (p : List Byte → Option Command) : Prop :=
  ∀ payload c, p payload = some c → c.code = code ∧ c.payload = payload ∧ c.fits = true

section
variable {code : Byte}

theorem readsBack_parse0 {c : Command} (h : c.code = code ∧ c.payload = [] ∧ c.fits = true) :
    ReadsBack code (parse0 c) := by
  intro payload c' read
  unfold parse0 at read
  split at read
  · cases read
    exact h
  · cases read

theorem readsBack_parse1 {g : Byte → Command} (h : ∀ x, (g x).code = code ∧ (g x).payload = [x] ∧ (g x).fits = true) :
    ReadsBack code (parse1 g) := by
  intro payload c read
  unfold parse1 at read
  split at read
  · cases read
    exact h _
  · cases read

theorem readsBack_parse2 {g : Byte → Byte → Command}
    (h : ∀ x y, (g x y).code = code ∧ (g x y).payload = [x, y] ∧ (g x y).fits = true) :
    ReadsBack code (parse2 g) := by
  intro payload c read
  unfold parse2 at read
  split at read
  · cases read
    exact h _ _
  · cases read

theorem readsBack_parse3 {g : Byte → Byte → Byte → Command}
    (h : ∀ x y z, (g x y z).code = code ∧ (g x y z).payload = [x, y, z] ∧ (g x y z).fits = true) :
    ReadsBack code (parse3 g) := by
  intro payload c read
  unfold parse3 at read
  split at read
  · cases read
    exact h _ _ _
  · cases read

end

theorem readsBack_parseReadResult : ReadsBack 0x10 parseReadResult := by
  intro payload c read
  unfold parseReadResult at read
  split at read
  · obtain ⟨fits, same⟩ := Option.ite_none_right_eq_some.1 read
    cases same
    exact ⟨rfl, rfl, decide_eq_true fits⟩
  · cases read

theorem readsBack_parseWriteEntry : ReadsBack 0x21 parseWriteEntry := by
  intro payload c read
  unfold parseWriteEntry at read
  split at read
  · obtain ⟨fits, same⟩ := Option.ite_none_right_eq_some.1 read
    cases same
    exact ⟨rfl, rfl, decide_eq_true fits⟩
  · cases read

theorem bytesOfHalves_of_halvesOf {bytes : List Byte} {xs : List Half} (h : halvesOf bytes = some xs) :
    bytesOfHalves xs = bytes := by
  induction bytes using halvesOf.induct generalizing xs with
  | case1 =>
    cases h
    rfl
  | case2 => cases h
  | case3 lo hi rest ih =>
    obtain ⟨ys, read, rfl⟩ := Option.map_eq_some_iff.1 h
    show le16 (half lo hi) ++ bytesOfHalves ys = _
    rw [le16_half, ih read]
    rfl

theorem readsBack_parseLoadPattern : ReadsBack 0x42 parseLoadPattern := by
  intro payload c read
  unfold parseLoadPattern at read
  split at read
  · next store slot bytes =>
    split at read
    · next xs halves =>
      obtain ⟨fits, same⟩ := Option.ite_none_right_eq_some.1 read
      cases same
      exact ⟨rfl, congrArg (store :: slot :: ·) (bytesOfHalves_of_halvesOf halves), decide_eq_true fits⟩
    · cases read
  · cases read

theorem frame_of_readsBack {f : CmdFrame} {c : Command} {n : Nat} {p : List Byte → Option Command}
    (code : f.code.toNat = n) (reads : ReadsBack (BitVec.ofNat 8 n) p) (h : p f.payload = some c) :
    f = c.frame f.tag ∧ c.fits = true := by
  obtain ⟨sameCode, samePayload, fits⟩ := reads _ c h
  refine ⟨?_, fits⟩
  rw [Command.frame, sameCode, samePayload, ← code, BitVec.ofNat_toNat, BitVec.setWidth_eq]

/-- By the codes of R179: those of the commands with no field, with one, two and three bytes of fields, then the three
whose payload has a length of its own. -/
theorem frame_of_parse {f : CmdFrame} {c : Command} (h : parse f = some c) : f = c.frame f.tag ∧ c.fits = true := by
  unfold parse at h
  split at h
  case h_1 code | h_5 code | h_6 code | h_11 code | h_13 code | h_14 code | h_19 code =>
    exact frame_of_readsBack code (readsBack_parse0 ⟨rfl, rfl, rfl⟩) h
  case h_3 code | h_4 code | h_9 code | h_16 code | h_17 code | h_18 code | h_22 code =>
    exact frame_of_readsBack code (readsBack_parse1 fun _ => ⟨rfl, rfl, rfl⟩) h
  case h_8 code | h_20 code | h_24 code =>
    exact frame_of_readsBack code (readsBack_parse2 fun _ _ => ⟨rfl, rfl, rfl⟩) h
  case h_15 code =>
    exact frame_of_readsBack code
      (readsBack_parse2 (g := fun lo hi => .acceptPlan (half lo hi)) fun lo hi => ⟨rfl, le16_half lo hi, rfl⟩) h
  case h_2 code | h_10 code =>
    exact frame_of_readsBack code (readsBack_parse3 fun _ _ _ => ⟨rfl, rfl, rfl⟩) h
  case h_21 code =>
    exact frame_of_readsBack code
      (readsBack_parse3 (g := fun group lo hi => .testGrant group (half lo hi)) fun group lo hi =>
        ⟨rfl, congrArg (group :: ·) (le16_half lo hi), rfl⟩) h
  case h_7 code => exact frame_of_readsBack code readsBack_parseReadResult h
  case h_12 code => exact frame_of_readsBack code readsBack_parseWriteEntry h
  case h_23 code => exact frame_of_readsBack code readsBack_parseLoadPattern h
  case h_25 => cases h

theorem bytes_of_frameOfBytes {bytes : List Byte} {f : CmdFrame} (h : frameOfBytes bytes = some f) :
    bytes = f.bytes ∧ bytes.length = 3 + f.payload.length ∧ f.payload.length ≤ 255 := by
  unfold frameOfBytes at h
  split at h
  · next code tag length payload =>
    obtain ⟨count, same⟩ := Option.ite_none_right_eq_some.1 h
    cases same
    refine ⟨?_, ?_, count.trans_le (byte_toNat_le length)⟩
    · simp only [CmdFrame.bytes, count, byteOf_toNat_self]
      rfl
    · simp only [List.length_cons]
      omega
  · cases h

/-- Settles O5: by the parser of each code, and by the count in the third byte. -/
theorem parsedFrameIsTheCommands : Obligations.ParsedFrameIsTheCommands :=
  ⟨fun _ _ => frame_of_parse, fun _ _ => bytes_of_frameOfBytes⟩

end Sys2Proof.Machine
end

section
/-! SUPPORT. Frames taken and transfers (R162, R163, R173), the role table (R165), and that a refusal changes nothing
(R166). -/

namespace Sys2Proof.Machine

variable {s : State} {l : Link}

/-! ### Frames taken (R162) -/

theorem takeCommand_of_full (full : (s.ports.get l).outstanding = 16) (f : CmdFrame) :
    s.takeCommand l f = s.setPort l { s.ports.get l with dropped := true } := if_pos full.ge

theorem dropFrame_of_full (full : (s.ports.get l).outstanding = 16) :
    s.dropFrame l = s.setPort l { s.ports.get l with dropped := true } := if_pos full.ge

/-- A halted or draining port is not ready, whatever waits at it. -/
theorem takeCommand_of_blocked (calm : s.calm) (room : (s.ports.get l).outstanding < 16)
    (blocked : (s.ports.get l).halted = true ∨ (s.ports.get l).drain.isSome = true) (f : CmdFrame) :
    s.takeCommand l f = s.setPort l { s.ports.get l with queue := (s.ports.get l).queue ++ [f] } := by
  have waits : (s.setPort l { s.ports.get l with queue := (s.ports.get l).queue ++ [f] }).calm := by
    refine (calm_iff _).2 fun l' => ?_
    by_cases own : l' = l
    · rw [own, setPort_ports_get]
      obtain halted | draining := blocked
      · simp [Port.ready, halted]
      · simp [Port.ready, Option.isNone_eq_false_iff.2 draining]
    · rw [setPort_ports_get_ne s own]
      exact (calm_iff s).1 calm l'
  have taken : s.takeCommand l f =
      (s.setPort l { s.ports.get l with queue := (s.ports.get l).queue ++ [f] }).runAll := if_neg (Nat.not_le.2 room)
  rw [taken, runAll_of_calm waits]

/-- Settles O44: by the outstanding count at the instant the frame is taken. -/
theorem framesTaken : Obligations.FramesTaken := by
  refine ⟨fun l s full => ⟨congrArg Host.Outcome.next (dropFrame_of_full full), fun i f frame command length => ?_⟩,
    fun l s i f calm room blocked frame command length => ?_⟩
  · rw [exec_frameTaken frame command length, takeCommand_of_full full]
  · rw [exec_frameTaken frame command length, takeCommand_of_blocked calm room blocked]

/-! ### Transfers out of the part (R163, R173, R178) -/

theorem byteOfFlags_four : ∀ a b c d : Bool,
    (byteOfFlags [a, b, c, d]).getLsbD 0 = a ∧ (byteOfFlags [a, b, c, d]).getLsbD 1 = b ∧
    (byteOfFlags [a, b, c, d]).getLsbD 2 = c ∧ (byteOfFlags [a, b, c, d]).getLsbD 3 = d ∧
    (byteOfFlags [a, b, c, d]).toNat < 16 := by decide

/-- Settles O45: the status byte by its four flags, then the oldest reply or the filler byte. -/
theorem transfers : Obligations.Transfers := by
  refine fun l s => ⟨⟨(s.ports.get l).statusByte, rfl, byteOfFlags_four _ _ _ _⟩, fun none => ?_,
    fun x rest replies => ?_⟩
  · have filler : s.readReply l = { s with wires := s.wires.set l { s.wires.get l with bytes := [0xFF] } } := by
      simp only [State.readReply, none]
    exact congrArg Host.Outcome.next filler
  · have oldest : s.readReply l = { s.setPort l { s.ports.get l with replies := rest } with
        wires := s.wires.set l { s.wires.get l with bytes := x.bytes } } := by
      simp only [State.readReply, replies]
    exact congrArg Host.Outcome.next oldest

/-! ### The role table (R165) -/

theorem exec_notPermitted {i : Instr} {f : CmdFrame} {c : Command} (ready : s.Ready l) (frame : i.frame = some (l, f))
    (parses : parse f = some c) (refused : permitted l c = false) :
    exec i s = .next (s.reply l f .notPermitted []) := by
  obtain ⟨isFrame, fits⟩ := frame_of_parse parses
  have command : isControl f = false := isFrame ▸ command_frame_not_control c f.tag
  have length : f.payload.length ≤ 255 := isFrame ▸ payload_length_of_fits fits
  rw [exec_frameTaken frame command length, takeCommand_notPermitted ready parses refused]

/-! ### Refusals (R166) -/

/-- An answer that is neither OK nor NOT OUT OF SERVICE comes with the state the command found. -/
def Refuses (s : State) (t : State) (code : ReplyCode) : Prop := code ≠ .ok → code ≠ .notOutOfService → t = s

theorem refuses_same (s : State) (code : ReplyCode) : Refuses s s code := fun _ _ => rfl

theorem refuses_ok (s t : State) : Refuses s t .ok := fun refused => absurd rfl refused

theorem refuses_notOutOfService (s t : State) : Refuses s t .notOutOfService := fun _ refused => absurd rfl refused

variable (s)

theorem openStaging_refuses (l : Link) : Refuses s (s.openStaging l).1 (s.openStaging l).2 := by
  unfold State.openStaging
  split
  · exact refuses_same s _
  · split
    · exact refuses_same s _
    · split
      · exact refuses_same s _
      · exact refuses_same s _
      · exact refuses_ok s _

theorem writeEntry_refuses (l : Link) (kind number : Byte) (item : List Byte) :
    Refuses s (s.writeEntry l kind number item).1 (s.writeEntry l kind number item).2.1 := by
  unfold State.writeEntry
  split
  · exact refuses_same s _
  · split
    · exact refuses_same s _
    · exact refuses_ok s _

theorem sealStaging_refuses (l : Link) : Refuses s (s.sealStaging l).1 (s.sealStaging l).2.1 := by
  unfold State.sealStaging
  split
  · exact refuses_same s _
  · dsimp only
    split
    · exact refuses_ok s _
    · exact refuses_same s _

theorem discardStaging_refuses (l : Link) : Refuses s (s.discardStaging l).1 (s.discardStaging l).2 := by
  unfold State.discardStaging
  split
  · exact refuses_same s _
  · split
    · exact refuses_ok s _
    · exact refuses_same s _
  · split
    · exact refuses_same s _
    · exact refuses_ok s _

theorem acceptPlan_refuses (l : Link) (n : Half) : Refuses s (s.acceptPlan l n).1 (s.acceptPlan l n).2 := by
  unfold State.acceptPlan
  split
  · exact refuses_same s _
  · exact refuses_same s _
  · split
    · exact refuses_same s _
    · split
      · exact refuses_ok s _
      · split
        · exact refuses_same s _
        · exact refuses_ok s _

theorem restorePermit_refuses (l : Link) (g : Group) : Refuses s (s.restorePermit l g).1 (s.restorePermit l g).2 := by
  unfold State.restorePermit
  dsimp only
  split
  · exact refuses_same s _
  · split
    · exact refuses_same s _
    · split
      · exact refuses_ok s _
      · split
        · exact refuses_same s _
        · exact refuses_ok s _

theorem serviceOut_refuses (e : Engine) : Refuses s (s.serviceOut e).1 (s.serviceOut e).2 := by
  unfold State.serviceOut
  dsimp only
  split
  · exact refuses_same s _
  · split
    · exact refuses_same s _
    · exact refuses_ok s _

/-- The one refusal that changes the state ends an offer (R151). -/
theorem grantTest_refuses (l : Link) (g : Group) (seconds : Nat) :
    Refuses s (s.grantTest l g seconds).1 (s.grantTest l g seconds).2 := by
  unfold State.grantTest
  split
  · split
    · exact refuses_same s _
    · exact refuses_ok s _
  · split
    · exact refuses_same s _
    · split
      · exact refuses_same s _
      · split
        · exact refuses_notOutOfService s _
        · exact refuses_ok s _
  · exact refuses_same s _

theorem stopTest_refuses (g : Group) : Refuses s (s.stopTest g).1 (s.stopTest g).2 := by
  unfold State.stopTest
  split
  · exact refuses_ok s _
  · exact refuses_ok s _
  · exact refuses_same s _

theorem switchSource_refuses (c : Channel) (x : Source) :
    Refuses s (s.switchSource c x).1 (s.switchSource c x).2 := by
  unfold State.switchSource
  split
  · exact refuses_ok s _
  · exact refuses_same s _

theorem runCommand_refuses (l : Link) (c : Command) :
    Refuses s (s.runCommand l c).state (s.runCommand l c).code := by
  have malformed := refuses_same s .malformed
  cases c with
  | readStatus | readEntry => exact refuses_same s _
  | readNotices | setNoticeMask | clearOverflow | drainWait | clearFaults => exact refuses_ok s _
  | readStats =>
    simp only [State.runCommand, runReadStats]
    split
    · split
      · exact refuses_ok s _
      · exact malformed
    · split
      · exact refuses_ok s _
      · exact malformed
    · exact malformed
  | readResult =>
    simp only [State.runCommand, runReadResult]
    split
    · exact malformed
    · split <;> exact refuses_same s _
  | readChecks =>
    simp only [State.runCommand, runReadChecks]
    split <;> exact refuses_same s _
  | readGroup =>
    simp only [State.runCommand, runReadGroup]
    split <;> exact refuses_same s _
  | openStaging => exact openStaging_refuses s l
  | writeEntry kind number item => exact writeEntry_refuses s l kind number item
  | discardStaging => exact discardStaging_refuses s l
  | acceptPlan n => exact acceptPlan_refuses s l n
  | clearLatch =>
    simp only [State.runCommand, runClearLatch]
    split
    · exact malformed
    · exact refuses_ok s _
  | startQuiet =>
    simp only [State.runCommand, runStartQuiet]
    split
    · exact malformed
    · exact refuses_ok s _
  | restorePermit =>
    simp only [State.runCommand, runRestorePermit]
    split
    · exact malformed
    · exact restorePermit_refuses s l _
  | engineService =>
    simp only [State.runCommand, runEngineService]
    split
    · exact malformed
    · split
      · exact serviceOut_refuses s _
      · exact refuses_ok s _
      · exact malformed
  | testGrant =>
    simp only [State.runCommand, runTestGrant]
    split
    · exact malformed
    · exact grantTest_refuses s l _ _
  | testEnd =>
    simp only [State.runCommand, runTestEnd]
    split
    · exact malformed
    · exact stopTest_refuses s _
  | loadPattern =>
    simp only [State.runCommand, runLoadPattern]
    split
    · exact malformed
    · split
      · exact malformed
      · split
        · exact refuses_same s _
        · exact refuses_ok s _
  | testSource =>
    simp only [State.runCommand, runTestSource]
    split
    · exact switchSource_refuses s _ _
    · exact malformed
  -- SEAL is left, whose name is a word of Lean.
  | _ => exact sealStaging_refuses s l

/-- Settles O49: the role table's answers, then the refusals of each command. -/
theorem refusedCommandsChangeNothing : Obligations.RefusedCommandsChangeNothing := by
  refine ⟨fun i l f c s ready frame parses refused => exec_notPermitted ready frame parses ?_,
    fun s l c => runCommand_refuses s l c⟩
  obtain ⟨rfl, protection⟩ | ⟨other, maintenance⟩ := refused
  · cases c with
    | acceptPlan | clearLatch | startQuiet | restorePermit | testGrant | clearFaults => rfl
    | _ => exact protection.elim
  · cases c with
    | loadPattern | testSource => exact beq_eq_false_iff_ne.2 other
    | _ => exact maintenance.elim

end Sys2Proof.Machine
end

section
/-! SUPPORT. The notice logs (R170 to R172, R180) and READ STATS (R176). -/

namespace Sys2Proof.Machine

/-! ### The record of a notice (R180) -/

theorem service_byte_toNat (x : Service) : x.byte.toNat = serviceNumber x := by cases x <;> rfl

theorem planPhase_byte_toNat (x : PlanPhase) : x.byte.toNat = phaseNumber x := by cases x <;> rfl

theorem testCause_byte_toNat (x : TestCause) : x.byte.toNat = causeNumber x := by cases x <;> rfl

theorem flagByte_toNat (b : Bool) : (flagByte b).toNat = b.toNat := by cases b <;> rfl

theorem byteOf_fin_toNat {n : Nat} (i : Fin n) (small : n ≤ 256) : (byteOf i.val).toNat = i.val := by
  rw [byteOf_toNat]
  omega

theorem byte_setWidth_toNat (b : Byte) : (b.setWidth 16).toNat = b.toNat := by
  have := b.isLt
  rw [BitVec.toNat_setWidth]
  omega

/-- Where the three bytes of a notice between its flags and its stamp are `x`, `y` and `z`, its fields are read off at
the offsets of R180. -/
theorem notice_laid_of_states {n : Notice} {x y z : Byte} (states : n.body.states = [x, y, z])
    (fields : n.body.fields = (n.body.kindByte.toNat, n.body.flags.toNat, x.toNat, y.toNat, z.toNat,
      (n.body.cycle.getD 0).toNat, n.body.detail.toNat)) : n.Laid n.bytes := by
  have bytes : n.bytes = [n.body.kindByte, n.body.flags, x, y, z, 0] ++ le32 n.stamp ++ le32 (n.body.cycle.getD 0)
      ++ le16 n.body.detail := by
    rw [Notice.bytes, states]
    rfl
  have stamp : field32 n.bytes 6 = n.stamp.toNat :=
    field32_of_drop (rest := le32 (n.body.cycle.getD 0) ++ le16 n.body.detail) (by rw [bytes]; rfl)
  have cycle : field32 n.bytes 10 = (n.body.cycle.getD 0).toNat :=
    field32_of_drop (rest := le16 n.body.detail) (by rw [bytes]; rfl)
  have detail : field16 n.bytes 14 = n.body.detail.toNat := field16_of_drop (rest := []) (by rw [bytes]; rfl)
  refine ⟨by rw [bytes]; rfl, by rw [bytes]; rfl, stamp, ?_⟩
  rw [cycle, detail, fields, bytes]
  rfl

theorem notice_laid (n : Notice) : n.Laid n.bytes := by
  obtain ⟨stamp, body⟩ := n
  cases body with
  | check i cycle old new tally =>
    refine notice_laid_of_states rfl ?_
    rw [byteOf_fin_toNat i (by decide), checkState_byte_toNat, checkState_byte_toNat, NoticeBody.detail, halfOf_toNat]
    rfl
  | permit g cycle old new reasons =>
    refine notice_laid_of_states rfl ?_
    rw [numberFrom1_toNat g (by decide), flagByte_toNat, flagByte_toNat, NoticeBody.detail, byte_setWidth_toNat,
      reasons_byte_toNat]
    rfl
  | plan link old new generation =>
    refine notice_laid_of_states rfl ?_
    rw [planPhase_byte_toNat, planPhase_byte_toNat]
    cases link with
    | none => rfl
    | some l =>
      dsimp only
      rw [link_code_toNat]
      rfl
  | sync r cycle old new freq =>
    refine notice_laid_of_states rfl ?_
    rw [ref_number_toNat, mode_byte_toNat, mode_byte_toNat, NoticeBody.detail, halfOf_toNat]
    rfl
  | mismatch c cycle old new count =>
    refine notice_laid_of_states rfl ?_
    rw [numberFrom1_toNat c (by decide), flagByte_toNat, flagByte_toNat, NoticeBody.detail, halfOf_toNat]
    rfl
  | engine e cycle old new abandoned =>
    refine notice_laid_of_states rfl ?_
    rw [service_byte_toNat, service_byte_toNat, NoticeBody.detail, halfOf_toNat]
    cases e <;> rfl
  | test g old new detail =>
    refine notice_laid_of_states rfl ?_
    rw [numberFrom1_toNat g (by decide), testPhase_byte_toNat, testPhase_byte_toNat]
    cases detail with
    | duration seconds =>
      rw [NoticeBody.detail, halfOf_toNat]
      rfl
    | cause x =>
      rw [NoticeBody.detail, byte_setWidth_toNat, testCause_byte_toNat]
      rfl

/-! ### A notice offered to a port (R170, R171) -/

section
variable {p : Port} {n : Notice}

theorem offer_of_not_kept (h : p.mask.keeps n.body = false ∨ p.overflow = true) : p.offer n = p :=
  if_pos (by obtain masked | overflowed := h <;> simp [*])

theorem offer_of_room (kept : p.mask.keeps n.body = true) (clear : p.overflow = false) (room : p.log.length < 32) :
    p.offer n = { p with log := p.log ++ [n] } :=
  (if_neg (by simp [kept, clear])).trans (if_pos room)

theorem offer_of_full (kept : p.mask.keeps n.body = true) (clear : p.overflow = false) (full : 32 ≤ p.log.length) :
    p.offer n = { p with overflow := true } :=
  (if_neg (by simp [kept, clear])).trans (if_neg (Nat.not_lt.2 full))

end

section
variable {s : State} {l : Link}

/-! ### The commands of the notice log (R170 to R172) -/

/-- A command that changes at most the log, the mask and the flags of its port is answered at once. -/
theorem exec_portSet {i : Instr} {tag : Byte} {c : Command} {q : Port} {body : List Byte} (ready : s.Ready l)
    (frame : i.frame = some (l, c.frame tag)) (fits : c.fits = true) (allowed : permitted l c = true)
    (notDrain : c ≠ .drainWait) (noticed : (s.ports.get l).Noticed q)
    (answer : s.runCommand l c = ⟨s.setPort l q, .ok, body⟩) :
    exec i s = .next ((s.setPort l q).reply l (c.frame tag) .ok body) :=
  exec_answered ready frame fits (parse_frame fits tag) allowed notDrain answer
    (notifies_calm (setPort_notifies s noticed) ready.1)

theorem exec_readNotices (tag maximum : Byte) (ready : s.Ready l) :
    exec (.readNotices l tag maximum) s =
      .next ((s.setPort l { s.ports.get l with
          log := (s.ports.get l).log.drop (noticesRead (s.ports.get l) maximum) }).reply l
        ((Command.readNotices maximum).frame tag) .ok
        ([byteOf (noticesRead (s.ports.get l) maximum), flagByte (s.ports.get l).overflow] ++
          ((s.ports.get l).log.take (noticesRead (s.ports.get l) maximum)).flatMap Notice.bytes)) :=
  exec_portSet ready rfl rfl rfl nofun
    ⟨rfl, rfl, rfl, rfl, fun bound => (List.length_drop ▸ Nat.sub_le _ _).trans bound⟩ rfl

/-- Settles O42: the record of a notice field by field, an offer by the mask and the room, and the three commands. -/
theorem noticeLogs : Obligations.NoticeLogs := by
  refine ⟨notice_laid, fun s b l => ⟨fun lost => ?_, fun kept clear room => ?_, fun kept clear full => ?_⟩,
    fun l tag s ready => ⟨fun maximum => exec_readNotices tag maximum ready, fun mask => ?_, ?_⟩⟩
  · exact (raise_ports_get s b l).trans (offer_of_not_kept lost)
  · exact (raise_ports_get s b l).trans (offer_of_room kept clear room)
  · exact (raise_ports_get s b l).trans (offer_of_full kept clear full)
  · exact exec_portSet (c := .setNoticeMask mask) ready rfl rfl rfl nofun ⟨rfl, rfl, rfl, rfl, id⟩ rfl
  · exact exec_portSet (c := .clearOverflow) ready rfl rfl rfl nofun ⟨rfl, rfl, rfl, rfl, id⟩ rfl

/-! ### READ STATS (R176) -/

/-- The counters are cleared or left at the read; no port sees it. -/
theorem exec_readStats {kind number clear : Byte} {t : State} {body : List Byte} (tag : Byte) (ready : s.Ready l)
    (answer : runReadStats s kind number clear = ⟨if bitOf clear 0 = true then t else s, .ok, body⟩)
    (ports : t.ports = s.ports) : exec (.readStats l tag kind number clear) s =
      .next ((if bitOf clear 0 = true then t else s).reply l ((Command.readStats kind number clear).frame tag) .ok
        body) := by
  have calm : (if bitOf clear 0 = true then t else s).calm := by
    split
    · exact (calm_congr ports).2 ready.1
    · exact ready.1
  exact exec_answered (c := .readStats kind number clear) ready rfl rfl rfl rfl nofun answer calm

theorem runReadStats_of_channel {number : Byte} {c : Channel} (clear : Byte) (named : indexFrom1 16 number = some c) :
    runReadStats s 0 number clear = ⟨if bitOf clear 0 = true then s.clearChannelCounters c else s, .ok,
      [0, number] ++ (s.buffers[c]).counters.bytes⟩ := by
  simp only [runReadStats, named]
  rfl

theorem runReadStats_of_ref {number : Byte} {r : Ref} (clear : Byte) (named : refOfByte number = some r) :
    runReadStats s 1 number clear = ⟨if bitOf clear 0 = true then s.clearRefCounters r else s, .ok,
      [1, number] ++ (s.trackers.get r).counters.bytes⟩ := by
  simp only [runReadStats, named]
  rfl

theorem runReadStats_of_none {kind number : Byte} (clear : Byte) (channel : kind = 0 → indexFrom1 16 number = none)
    (ref : kind = 1 → refOfByte number = none) : runReadStats s kind number clear = malformed s := by
  unfold runReadStats
  split
  · next code => simp only [channel (BitVec.eq_of_toNat_eq code)]
  · next code => simp only [ref (BitVec.eq_of_toNat_eq code)]
  · rfl

/-- Settles O41: by what the selector names. -/
theorem readStatsReply : Obligations.ReadStatsReply := by
  refine fun l tag number clear s ready => ⟨fun c named => ?_, fun r named => ?_, fun kind channel ref => ?_⟩
  · rw [exec_readStats tag ready (runReadStats_of_channel clear named) rfl]
    simp [ChannelCounters.bytes, State.clearChannelCounters]
  · rw [exec_readStats tag ready (runReadStats_of_ref clear named) rfl]
    simp [RefCounters.bytes, State.clearRefCounters]
  · exact exec_read (c := .readStats kind number clear) ready rfl rfl rfl rfl nofun
      (runReadStats_of_none clear channel ref)

end

end Sys2Proof.Machine
end

section
/-! SUPPORT. Commands that identify nothing (R165, R167, R179), and that every row of the table has a next state. -/

namespace Sys2Proof.Machine

section
variable {s : State} {l : Link}

/-! ### MALFORMED (R165, R167) -/

/-- A command whose fields identify nothing is answered MALFORMED, whatever the state. -/
theorem exec_malformed {i : Instr} {tag : Byte} {c : Command} (ready : s.Ready l)
    (frame : i.frame = some (l, c.frame tag)) (fits : c.fits = true) (allowed : permitted l c = true)
    (notDrain : c ≠ .drainWait) (answer : s.runCommand l c = malformed s) :
    exec i s = .next (s.reply l (c.frame tag) .malformed []) :=
  exec_read ready frame fits (parse_frame fits tag) allowed notDrain answer

theorem reply_malformed_halts (f : CmdFrame) (body : List Byte) :
    ((s.reply l f .malformed body).ports.get l).halted = true := by
  rw [reply_ports_get]
  exact Bool.or_true _

theorem exec_unknownCommand {tag code : Byte} {payload : List Byte} (ready : s.Ready l)
    (unparsed : parse ⟨code, tag, payload⟩ = none) (command : isControl ⟨code, tag, payload⟩ = false)
    (length : payload.length ≤ 255) :
    exec (.unknownCommand l tag code payload) s = .next (s.reply l ⟨code, tag, payload⟩ .malformed []) := by
  rw [exec_frameTaken rfl command length, takeCommand_malformed ready unparsed]

theorem runEngineService_malformed {engine direction : Byte}
    (h : engineOfByte engine = none ∨ 1 < direction.toNat) : runEngineService s engine direction = malformed s := by
  unfold runEngineService
  split
  · rfl
  · next named =>
    obtain unnamed | beyond := h
    · rw [unnamed] at named
      cases named
    · split
      · omega
      · omega
      · rfl

theorem runLoadPattern_malformed {store slot : Byte} {samples : List Half} (h : indexFrom1 4 store = none ∨
      127 < slot.toNat ∨ 28 < samples.length ∨ 128 < slot.toNat + samples.length) :
    runLoadPattern s store slot samples = malformed s := by
  unfold runLoadPattern
  split
  · rfl
  · next named =>
    obtain unnamed | outside := h
    · rw [unnamed] at named
      cases named
    · exact if_pos outside

theorem sourceOf_eq_none {source : Byte} (h : 4 < source.toNat) : sourceOf source = none := by
  have named : source ≠ 0 := by
    rintro rfl
    exact absurd h (by decide)
  have unnumbered : indexFrom1 4 source = none := dif_neg fun inside => by omega
  rw [sourceOf, if_neg named, unnumbered, Option.map_none]

theorem runTestSource_malformed {channel source : Byte}
    (h : indexFrom1 16 channel = none ∨ 4 < source.toNat) : runTestSource s channel source = malformed s := by
  unfold runTestSource
  split
  · next channelNamed sourceNamed =>
    obtain unnamed | beyond := h
    · rw [unnamed] at channelNamed
      cases channelNamed
    · rw [sourceOf_eq_none beyond] at sourceNamed
      cases sourceNamed
  · rfl

/-- The fields name an item in every plan or in none. -/
theorem readEntry_malformed {plan kind number : Byte} (h : s.plan.item kind number = none ∨ 1 < plan.toNat) :
    s.readEntry plan kind number = (.malformed, []) := by
  unfold State.readEntry
  dsimp only
  by_cases beyond : 1 < plan.toNat
  · split
    · omega
    · omega
    · rfl
  · have unnamed := h.resolve_right beyond
    rw [item_eq_map, Option.map_eq_none_iff] at unnamed
    simp only [item_eq_map, unnamed, Option.map_none, Option.isSome_none, Bool.false_eq_true, if_false]
    split
    · rfl
    · split <;> rfl
    · rfl

/-- Settles O48: each command's field test, and the role table where it has a "no". -/
theorem malformedHalts : Obligations.MalformedHalts := by
  intro l tag s ready
  refine ⟨fun code payload => exec_unknownCommand ready, reply_malformed_halts,
    fun channel orders unnamed fits => ?_, fun first count unnamed => ?_, fun group unnamed => ⟨?_, ?_, fun other =>
      ⟨?_, ?_, fun seconds => ?_⟩⟩, fun check unnamed other => ?_, fun engine direction wrong => ?_,
    fun engine unnamed => ?_, fun store slot samples maintenance fits wrong => ?_, fun plan kind number wrong => ?_,
    fun channel source maintenance wrong => ?_⟩
  · refine exec_malformed ready rfl (decide_eq_true fits) rfl nofun ?_
    simp only [State.runCommand, runReadResult, unnamed]
  · refine exec_malformed (c := .readChecks first count) ready rfl rfl rfl nofun ?_
    simp only [State.runCommand, runReadChecks, unnamed]
  · refine exec_malformed (c := .readGroup group) ready rfl rfl rfl nofun ?_
    simp only [State.runCommand, runReadGroup, unnamed]
  · refine exec_malformed (c := .testEnd group) ready rfl rfl rfl nofun ?_
    simp only [State.runCommand, runTestEnd, unnamed]
  · refine exec_malformed (c := .startQuiet group) ready rfl rfl (bne_iff_ne.2 other) nofun ?_
    simp only [State.runCommand, runStartQuiet, unnamed]
  · refine exec_malformed (c := .restorePermit group) ready rfl rfl (bne_iff_ne.2 other) nofun ?_
    simp only [State.runCommand, runRestorePermit, unnamed]
  · refine exec_malformed (c := .testGrant group seconds) ready rfl rfl (bne_iff_ne.2 other) nofun ?_
    simp only [State.runCommand, runTestGrant, unnamed]
  · refine exec_malformed (c := .clearLatch check) ready rfl rfl (bne_iff_ne.2 other) nofun ?_
    simp only [State.runCommand, runClearLatch, unnamed]
  · exact exec_malformed (c := .engineService engine direction) ready rfl rfl rfl nofun
      (runEngineService_malformed wrong)
  · exact exec_malformed (c := .engineService engine 0) ready rfl rfl rfl nofun
      (runEngineService_malformed (direction := 0) (.inl unnamed))
  · subst maintenance
    exact exec_malformed (c := .loadPattern store slot samples) ready rfl (decide_eq_true fits) rfl nofun
      (runLoadPattern_malformed wrong)
  · exact exec_readEntry tag ready (readEntry_malformed wrong)
  · subst maintenance
    exact exec_malformed (c := .testSource channel source) ready rfl rfl rfl nofun (runTestSource_malformed wrong)

end

/-! ### Every row of the table -/

section
variable {s t : State}

/-- An event has a next state, with the commands that wait as they are, when its effect leaves them. -/
theorem whenDue_completes {due : Bool} {effect : State} (h : effect.pending = s.pending) :
    ∃ t, whenDue due effect s = .next t ∧ t.pending = s.pending := by
  refine ⟨_, rfl, ?_⟩
  split
  · exact h
  · rfl

theorem next_completes {effect : State} (h : effect.pending = s.pending) :
    ∃ t, (.next effect : Result) = .next t ∧ t.pending = s.pending := ⟨effect, rfl, h⟩

theorem runAll_pending (s : State) : s.runAll.pending = s.pending := runAll_changes s .pending (by decide)

theorem afterJoins_pending (s : State) : s.afterJoins.pending = s.pending := afterJoins_changes s .pending (by decide)

theorem settleDown_pending (h : t.pending = s.pending) : t.afterJoins.runAll.pending = s.pending :=
  (runAll_pending _).trans ((afterJoins_pending t).trans h)

/-- Settles O3: a link command clocks its frame in, and each other row leaves the waiting commands by the parts it can
change. -/
theorem everyCommandCompletes : Obligations.EveryCommandCompletes := by
  intro i s
  cases hf : i.frame with
  | some x => exact ⟨_, exec_of_frame s hf, clockIn_changes s _ _ .pending (by decide)⟩
  | none =>
    cases i with
    | powerOnReset => exact ⟨_, rfl, rfl⟩
    | edgeAccepted r =>
      unfold exec execEdgeAccepted
      dsimp only
      split
      · exact whenDue_completes (settleDown_pending (acceptEdge_changes s r _ .pending (by decide)))
      · exact next_completes rfl
    | deadlineExpiry r =>
      exact whenDue_completes (settleDown_pending (expireDeadline_changes s r .pending (by decide)))
    | heldCycleEnd r => exact whenDue_completes (settleDown_pending (endHeldCycle_changes s r .pending (by decide)))
    | strobe r => exact whenDue_completes (nextStrobe_changes s r .pending (by decide))
    | sampleArrival c cycle slot analog =>
      unfold exec execSampleArrival
      dsimp only
      split
      · exact next_completes (settleDown_pending (arriveSample_changes s c _ _ .pending (by decide)))
      · exact next_completes rfl
    | transformComplete e wrong =>
      unfold exec execTransformComplete
      dsimp only
      split
      · exact next_completes
          ((runAll_pending _).trans (completeTransform_changes s e _ wrong .pending (by decide)))
      · exact next_completes rfl
    | stopInputChange asserted => exact whenDue_completes (changeStop_changes s asserted .pending (by decide))
    | inServiceRise g => exact whenDue_completes (breakerCloses_changes s g .pending (by decide))
    | inServiceFall g => exact whenDue_completes (breakerOpens_changes s g .pending (by decide))
    | quietEnd g => exact whenDue_completes (endQuiet_changes s g .pending (by decide))
    | drainTimeout l =>
      exact whenDue_completes ((runAll_pending _).trans (endDrain_changes s l .pending (by decide)))
    | acceptWindowExpiry => exact whenDue_completes (expireAccept_changes s .pending (by decide))
    | restoreWindowExpiry g => exact whenDue_completes (expireRestore_changes s g .pending (by decide))
    | offerWindowExpiry g => exact whenDue_completes (endOffer_changes s g _ .pending (by decide))
    | testRunExpiry g => exact whenDue_completes (endTest_changes s g _ .pending (by decide))
    | droppedFrame l => exact next_completes (dropFrame_changes s l .pending (by decide))
    | transferOut l => exact next_completes (transferOut_changes s l .pending (by decide))
    | replyRead l => exact next_completes (readReply_changes s l .pending (by decide))
    | resume l => exact next_completes (resumeLink_changes s l .pending (by decide))
    | linkReset l => exact next_completes (resetLink_changes s l .pending (by decide))
    | syncInputSample r high =>
      exact whenDue_completes ((afterJoins_pending _).trans (sampleInput_changes s r high .pending (by decide)))
    | _ => cases hf

end

end Sys2Proof.Machine
end

section
/-! SUPPORT. What one step does with the queue of waiting commands, and what one tick does with the time. -/

namespace Sys2Proof.Machine

section
variable {s : State}

/-! ### The passing of time -/

/-- Nothing due may be passed over: the tick leaves the state to the event. -/
theorem tick_of_due (due : s.anyDue = true) : s.tick = s := if_pos due

/-- Each 10000th tick moves the millisecond clock (R174). -/
theorem tick_of_idle (idle : s.anyDue = false) :
    s.tick = { s with
      now := s.now + 1
      clock := if (s.now + 1) % 10000 = 0 then s.clock + 1 else s.clock } :=
  if_neg (by simp only [idle, Bool.false_eq_true, not_false_eq_true])

/-! ### The front of the queue -/

theorem step_of_empty (empty : s.pending = []) : step s = .next s.tick := by
  unfold step
  rw [empty]

theorem step_of_cons {c : Instr} {rest : List Instr} (front : s.pending = c :: rest) :
    step s = exec c { s with pending := rest } := by
  unfold step
  rw [front]

end

/-! ### The statements about the step -/

/-- Settles O1: the branch of the step at a queue that is not empty. -/
theorem stepRunsTheFrontCommand : Obligations.StepRunsTheFrontCommand :=
  fun _ _ _ front => step_of_cons front

/-- Settles O2: the step at an empty queue is a tick, which passes when nothing is due and waits when something is. -/
theorem idleStepPassesOneTick : Obligations.IdleStepPassesOneTick := by
  intro s empty
  rw [step_of_empty empty]
  constructor
  · intro due
    rw [tick_of_due due]
  · intro idle
    rw [tick_of_idle idle]

end Sys2Proof.Machine
end

section
/-! SUPPORT. What a step is made of as the trackers, the frames, the engines and the conversions see it: whole events
(`State.Event`), each with the takes that belong to it (R52), and that every step but the power-on reset is a sequence of
them (`step_events`). The moves of `step_leads` are finer and put all of this aside. -/

namespace Sys2Proof.Machine

/-! ### The events -/

/-- The parts that neither a tracker, a frame, an engine nor a conversion is read from. -/
abbrev apartParts : List Part :=
  [.clock, .records, .checks, .quiet, .quietEndDue, .verdicts, .alert, .planStore, .tests, .sources, .patterns, .ports,
    .inService, .stopInput, .wires, .choices, .pending]

/-- One event or command of which a step is made, short of the power-on reset. -/
inductive State.Event (s : State) : State → Prop where
  | apart {t : State} (h : State.ChangesOnly apartParts s t) : s.Event t
  | empties {t : State} (h : State.ChangesOnly (.buffers :: apartParts) s t)
      (buffers : ∀ c : Channel, (t.buffers[c]).held = (s.buffers[c]).held ∧
        ((t.buffers[c]).fill = (s.buffers[c]).fill ∨ (t.buffers[c]).fill = .idle)) : s.Event t
  | countersCleared (r : Ref) : s.Event (s.clearRefCounters r)
  | sample (r : Ref) (high : Bool) : s.Event (s.sampleInput r high).afterJoins
  | edge (r : Ref) (e : Tick) : s.Event (s.acceptEdge r e).afterJoins
  | deadline {r : Ref} (due : s.deadlineDue r = true) : s.Event (s.expireDeadline r).afterJoins
  | heldEnd {r : Ref} (due : s.heldEndDue r = true) : s.Event (s.endHeldCycle r).afterJoins
  | strobe (r : Ref) : s.Event (s.nextStrobe r)
  | arrival (c : Channel) (v : Conversion) (analog : Int) : s.Event (s.arriveSample c v analog).afterJoins
  | completion {e : Engine} {h : Hand} (wrong : Option Figures) (hand : (s.engines.get e).hand = some h) :
      s.Event (s.completeTransform e h wrong)
  | serviceOut (e : Engine) : s.Event (s.serviceOut e).1
  | serviceIn (e : Engine) : s.Event (s.serviceIn e)
  | faultsCleared : s.Event s.clearFaults
  | channelEmptied (c : Channel) : s.Event (s.emptyChannel c)
  | disarmed (c : Channel) : s.Event (s.disarm c)
  | tick (idle : s.anyDue = false) : s.Event s.tick

/-- `t` is reached from `s` by events. -/
abbrev State.Events (s t : State) : Prop := Relation.ReflTransGen State.Event s t

theorem events_refl (s : State) : s.Events s := .refl

theorem events_trans {s t u : State} (h : s.Events t) (k : t.Events u) : s.Events u := Relation.ReflTransGen.trans h k

theorem events_apart {s t : State} {A : List Part} (h : State.ChangesOnly A s t) (hA : ∀ p ∈ A, p ∈ apartParts) :
    s.Events t := .single (.apart (changes_mono h hA))

/-- What each event keeps is kept by every sequence of them. -/
theorem events_keep {P : State → Prop} (event : ∀ s t, s.Event t → P s → P t) {s t : State} (h : s.Events t) (hs : P s) :
    P t := by
  induction h with
  | refl => exact hs
  | tail _ last ih => exact event _ _ last ih

variable (s : State)

/-! ### The test unit (R150 to R158) -/

theorem endTest_events (g : Group) (cause : TestCause) : s.Events (s.endTest g cause) := by
  refine .single (.empties (changes_mono (endTest_changes s g cause) (by decide)) fun c => ?_)
  rw [(endTest_testEnded s g cause).buffers c]
  split
  · exact ⟨rfl, .inr rfl⟩
  · exact ⟨rfl, .inl rfl⟩

theorem startTest_events (g : Group) (seconds : Nat) : s.Events (s.startTest g seconds) :=
  events_trans (events_apart (setTest_changes s g _) (by decide))
    (events_trans (events_apart (raiseTest_changes _ g _ _ _) (by decide))
      (events_apart (examineEvent_changes _ _ _) (by decide)))

theorem grantTest_events (l : Link) (g : Group) (seconds : Nat) : s.Events (s.grantTest l g seconds).1 := by
  unfold State.grantTest
  repeat' split
  · exact events_refl s
  · exact events_apart (changes_comp [.tests, .ports] (setTest_changes s g _) (raiseTest_changes _ g _ _ _) (by decide)
      (by decide)) (by decide)
  · exact events_refl s
  · exact events_refl s
  · exact events_apart (endOffer_changes s g _) (by decide)
  · exact startTest_events s g _
  · exact events_refl s

theorem stopTest_events (g : Group) : s.Events (s.stopTest g).1 := by
  unfold State.stopTest
  split
  · exact endTest_events s g _
  · exact events_apart (endOffer_changes s g _) (by decide)
  · exact events_refl s

theorem breakerCloses_events (g : Group) : s.Events (s.breakerCloses g) := by
  have closed : s.Events (s.breakerClosed g) :=
    events_trans (events_apart (with_inService s _) (by decide)) (events_apart (loadQuiet_changes _ g) (by decide))
  cases running : s.tests[g].isRunning with
  | true =>
    rw [breakerCloses_of_running running]
    exact events_trans closed (endTest_events _ g _)
  | false =>
    rw [breakerCloses_of_not_running running]
    exact events_trans closed (events_apart (examineEvent_changes _ _ _) (by decide))

/-! ### Activation (R17, R32 to R34, R144) -/

theorem advanceEpoch_events (c : Channel) : s.Events (s.advanceEpoch c) := by
  refine .single (.empties (changes_mono (setBuffers_changes s c _) (by decide)) fun d => ?_)
  simp only [State.advanceEpoch, setBuffers_buffers, vector_getElem_set]
  split
  · next own => exact own ▸ ⟨rfl, .inl rfl⟩
  · exact ⟨rfl, .inl rfl⟩

theorem activateChannel_events (old : Plan) (c : Channel) : s.Events (State.activateChannel old s c) := by
  have disarm : ∀ u : State, u.Events (u.disarm c) := fun u => .single (.disarmed c)
  have empty : s.Events (s.emptyChannel c) := .single (.channelEmptied c)
  unfold State.activateChannel
  split
  · exact events_refl s
  · exact events_trans (advanceEpoch_events s c) (disarm _)
  · exact events_trans empty (disarm _)
  · split
    · exact empty
    · exact events_trans empty (disarm _)

theorem closeTestByPlan_buffers (g : Group) (c : Channel) : (s.closeTestByPlan g).buffers[c] =
    if s.plan.groupOf c = g then { s.buffers[c] with fill := .idle } else s.buffers[c] := by
  rw [show (s.closeTestByPlan g).buffers = (s.closeTest g .plan).buffers from
    commitChecks_changes _ _ _ .buffers (by decide)]
  exact Vector.getElem_ofFn _

theorem closeTestByPlan_events (g : Group) : s.Events (s.closeTestByPlan g) := by
  refine .single (.empties (changes_mono (closeTestByPlan_changes_tests s g) (by decide)) fun c => ?_)
  rw [closeTestByPlan_buffers]
  split
  · exact ⟨rfl, .inr rfl⟩
  · exact ⟨rfl, .inl rfl⟩

theorem foldl_events {α : Type} {f : State → α → State} (h : ∀ (s : State) x, s.Events (f s x)) (xs : List α)
    (s : State) : s.Events (xs.foldl f s) := by
  induction xs generalizing s with
  | nil => exact events_refl s
  | cons x xs ih => exact events_trans (h s x) (ih _)

theorem activate_events (l : Link) (p : Plan) (n : Half) : s.Events (s.activate l p n) := by
  have swap : s.Events (s.swapped l p n) :=
    events_trans (events_trans (events_apart (with_planStore s _) (by decide))
      (events_apart (raisePlan_changes _ _ _ _ _) (by decide)))
      (foldl_events (fun u c => activateChannel_events u s.plan c) _ _)
  have restart : (s.swapped l p n).Events (s.restarted l p n) :=
    events_apart (restarted_changes s l p n) (by decide)
  have close : (s.restarted l p n).Events (s.testsClosed l p n) := foldl_events closeTestByPlan_events _ _
  exact events_trans swap (events_trans restart (events_trans close
    (events_apart (activate_changes_of_testsClosed s l p n) (by decide))))

/-! ### Commands (R165) -/

theorem acceptPlan_events (l : Link) (n : Half) : s.Events (s.acceptPlan l n).1 := by
  unfold State.acceptPlan
  repeat' split
  · exact events_refl s
  · exact events_refl s
  · exact events_refl s
  · exact events_apart (setStaging_changes s _) (by decide)
  · exact events_refl s
  · exact activate_events s l _ _

theorem runReadStats_events (kind number clear : Byte) : s.Events (runReadStats s kind number clear).state := by
  have clears : ∀ u : State, s.Events u → s.Events (if bitOf clear 0 then u else s) := fun u h => by
    split
    · exact h
    · exact events_refl s
  unfold runReadStats
  split
  · split
    · next c _ =>
      refine clears _ (.single (.empties (changes_mono (setBuffers_changes s c _) (by decide)) fun d => ?_))
      simp only [State.clearChannelCounters, setBuffers_buffers, vector_getElem_set]
      split
      · next own => exact own ▸ ⟨rfl, .inl rfl⟩
      · exact ⟨rfl, .inl rfl⟩
    · exact events_refl s
  · split
    · exact clears _ (.single (.countersCleared _))
    · exact events_refl s
  · exact events_refl s

theorem runEngineService_events (engine direction : Byte) : s.Events (runEngineService s engine direction).state := by
  unfold runEngineService
  split
  · exact events_refl s
  · split
    · exact .single (.serviceOut _)
    · exact .single (.serviceIn _)
    · exact events_refl s

theorem runLoadPattern_events (store slot : Byte) (samples : List Half) :
    s.Events (runLoadPattern s store slot samples).state := by
  unfold runLoadPattern
  repeat' split
  · exact events_refl s
  · exact events_refl s
  · exact events_refl s
  · exact events_apart (loadPattern_changes s _ _ _) (by decide)

theorem runTestSource_events (channel source : Byte) : s.Events (runTestSource s channel source).state := by
  unfold runTestSource
  split
  · exact events_apart (switchSource_changes s _ _) (by decide)
  · exact events_refl s

theorem runCommand_events (l : Link) (c : Command) : s.Events (s.runCommand l c).state := by
  cases c with
  | readStatus | drainWait | readEntry => exact events_refl s
  | readStats kind number clear => exact runReadStats_events s kind number clear
  | readNotices | setNoticeMask | clearOverflow => exact events_apart (setPort_changes s l _) (by decide)
  | readResult =>
    simp only [State.runCommand, runReadResult]
    split
    · exact events_refl s
    · split <;> exact events_refl s
  | readChecks =>
    simp only [State.runCommand, runReadChecks]
    split <;> exact events_refl s
  | readGroup =>
    simp only [State.runCommand, runReadGroup]
    split <;> exact events_refl s
  | openStaging => exact events_apart (openStaging_changes s l) (by decide)
  | writeEntry kind number item => exact events_apart (writeEntry_changes s l kind number item) (by decide)
  | discardStaging => exact events_apart (discardStaging_changes s l) (by decide)
  | acceptPlan n => exact acceptPlan_events s l n
  | clearLatch =>
    simp only [State.runCommand, runClearLatch]
    split
    · exact events_refl s
    · exact events_apart (clearLatch_changes s _) (by decide)
  | startQuiet =>
    simp only [State.runCommand, runStartQuiet]
    split
    · exact events_refl s
    · exact events_apart (startQuiet_changes s _) (by decide)
  | restorePermit =>
    simp only [State.runCommand, runRestorePermit]
    split
    · exact events_refl s
    · exact events_apart (restorePermit_changes s l _) (by decide)
  | clearFaults => exact .single .faultsCleared
  | engineService engine direction => exact runEngineService_events s engine direction
  | testGrant =>
    simp only [State.runCommand, runTestGrant]
    split
    · exact events_refl s
    · exact grantTest_events s l _ _
  | testEnd =>
    simp only [State.runCommand, runTestEnd]
    split
    · exact events_refl s
    · exact stopTest_events s _
  | loadPattern store slot samples => exact runLoadPattern_events s store slot samples
  | testSource channel source => exact runTestSource_events s channel source
  -- SEAL is left, whose name is a word of Lean.
  | _ => exact events_apart (sealStaging_changes s l) (by decide)

theorem events_holdsAtPorts : HoldsAtPorts State.Events where
  refl := events_refl
  trans := events_trans
  ports changes := events_apart changes (by decide)
  command s {l c} _ := runCommand_events s l c
  reset s l := events_apart (resetLink_changes s l) (by decide)

/-! ### Every row of the table, and every step -/

theorem whenDue_events {due : Bool} {effect t : State} (h : due = true → s.Events effect)
    (run : whenDue due effect s = .next t) : s.Events t := by
  cases run
  split
  · next isDue => exact h isDue
  · exact events_refl s

theorem next_events {effect t : State} (h : s.Events effect) (run : (.next effect : Result) = .next t) : s.Events t := by
  cases run
  exact h

/-- An event, and the waiting commands that run after it. -/
theorem event_runAll {u : State} (h : s.Event u) : s.Events u.runAll :=
  events_trans (.single h) (runAll_holds events_holdsAtPorts u)

theorem tick_events : s.Events s.tick := by
  cases due : s.anyDue with
  | true => rw [show s.tick = s from if_pos due]
  | false => exact .single (.tick due)

/-- Every row but POWER_ON_RESET is made of events. -/
theorem exec_events {i : Instr} {t : State} (running : i ≠ .powerOnReset) (h : exec i s = .next t) : s.Events t := by
  have apart : ∀ {A : List Part} {u : State}, State.ChangesOnly A s u → (∀ p ∈ A, p ∈ apartParts) → s.Events u :=
    events_apart
  cases hf : i.frame with
  | some x =>
    rw [exec_of_frame s hf] at h
    exact next_events s (clockIn_holds events_holdsAtPorts s _ _) h
  | none =>
    cases i with
    | powerOnReset => exact absurd rfl running
    | edgeAccepted r =>
      unfold exec execEdgeAccepted at h
      dsimp only at h
      split at h
      · exact whenDue_events s (fun _ => event_runAll s (.edge r _)) h
      · exact next_events s (events_refl s) h
    | deadlineExpiry r => exact whenDue_events s (fun due => event_runAll s (.deadline due)) h
    | heldCycleEnd r => exact whenDue_events s (fun due => event_runAll s (.heldEnd due)) h
    | strobe r => exact whenDue_events s (fun _ => .single (.strobe r)) h
    | sampleArrival c cycle slot analog =>
      unfold exec execSampleArrival at h
      dsimp only at h
      split at h
      · exact next_events s (event_runAll s (.arrival c _ analog)) h
      · exact next_events s (events_refl s) h
    | transformComplete e wrong =>
      unfold exec execTransformComplete at h
      dsimp only at h
      split at h
      · next hand => exact next_events s (event_runAll s (.completion wrong hand)) h
      · exact next_events s (events_refl s) h
    | stopInputChange asserted => exact whenDue_events s (fun _ => apart (changeStop_changes s asserted) (by decide)) h
    | inServiceRise g => exact whenDue_events s (fun _ => breakerCloses_events s g) h
    | inServiceFall g => exact whenDue_events s (fun _ => apart (breakerOpens_changes s g) (by decide)) h
    | quietEnd g => exact whenDue_events s (fun _ => apart (endQuiet_changes s g) (by decide)) h
    | drainTimeout l =>
      exact whenDue_events s (fun _ => event_runAll s (.apart (changes_mono (endDrain_changes s l) (by decide)))) h
    | acceptWindowExpiry => exact whenDue_events s (fun _ => apart (expireAccept_changes s) (by decide)) h
    | restoreWindowExpiry g => exact whenDue_events s (fun _ => apart (expireRestore_changes s g) (by decide)) h
    | offerWindowExpiry g => exact whenDue_events s (fun _ => apart (endOffer_changes s g _) (by decide)) h
    | testRunExpiry g => exact whenDue_events s (fun _ => endTest_events s g _) h
    | droppedFrame l => exact next_events s (apart (dropFrame_changes s l) (by decide)) h
    | transferOut l => exact next_events s (apart (transferOut_changes s l) (by decide)) h
    | replyRead l => exact next_events s (apart (readReply_changes s l) (by decide)) h
    | resume l => exact next_events s (resumeLink_holds events_holdsAtPorts s l) h
    | linkReset l => exact next_events s (apart (resetLink_changes s l) (by decide)) h
    | syncInputSample r high => exact whenDue_events s (fun _ => .single (.sample r high)) h
    | _ => cases hf

/-- What a step can do: the power-on reset, or a sequence of events. -/
theorem step_events {t : State} (h : step s = .next t) :
    (∃ stop inService pending choices, t = { State.powerOn stop inService pending with choices := choices }) ∨
    s.Events t := by
  unfold step at h
  split at h
  · exact .inr (next_events s (tick_events s) h)
  · next i rest waiting =>
    have pending : s.Events { s with pending := rest } :=
      .single (.apart fun p hp => by cases p <;> first | exact (hp (by decide)).elim | exact rfl)
    by_cases reset : i = .powerOnReset
    · subst reset
      exact .inl ⟨_, _, _, _, (Host.Outcome.next.inj h).symm⟩
    · exact .inr (events_trans pending (exec_events _ reset h))

/-- An invariant that the power-on reset brings about and every event keeps is kept by every step. -/
theorem step_keeps_of_events {P : State → Prop}
    (reset : ∀ stop inService pending choices, P { State.powerOn stop inService pending with choices := choices })
    (event : ∀ s t, s.Event t → P s → P t) {t : State} (h : step s = .next t) (hs : P s) : P t := by
  obtain ⟨stop, inService, pending, choices, rfl⟩ | events := step_events s h
  · exact reset _ _ _ _
  · exact events_keep event events hs

end Sys2Proof.Machine
end

section
/-! SUPPORT. The trackers along a step (R2 to R11): what each event leaves in the tracker of its reference. -/

namespace Sys2Proof.Machine

variable {s t : State} {r : Ref}

/-! ### What an event leaves in its tracker -/

/-- A tracker at the start of a cycle (R4). -/
def Tracker.started (x : Tracker) (st : Tick) : Tracker :=
  { x with cycle := x.cycle + 1, start := some st, nextStrobe := some 1 }

/-- A tracker that enters LOCKED at an edge, ahead of its new cycle (R6, R11). -/
def Tracker.entersLocked (x : Tracker) (e : Tick) (interval : Nat) : Tracker :=
  { x with
    mode := .locked
    period := interval
    heldCount := 0
    deadline := some (deadlineOf e interval)
    counters := { x.counters with locks := bump16 x.counters.locks } }

/-- A tracker that has accepted an edge outside the spurious ones (R1, R2). -/
def Tracker.edgeTaken (x : Tracker) (e : Tick) : Tracker :=
  { x with filtered := true, accepting := none, previousEdge := some e }

/-- A tracker whose reference is lost (R10). -/
def Tracker.seeks (x : Tracker) : Tracker :=
  { x with
    mode := .seeking
    heldCount := 0
    start := none
    deadline := none
    nextStrobe := none
    counters := { x.counters with losses := bump16 x.counters.losses } }

/-- A LOCKED tracker at its deadline, ahead of the held cycle (R9). -/
def Tracker.holds (x : Tracker) : Tracker :=
  { x with
    mode := .holding
    heldCount := 1
    deadline := none
    counters := { x.counters with holds := bump16 x.counters.holds } }

theorem startCycle_trackers (s : State) (r : Ref) (st : Tick) :
    (s.startCycle r st).trackers = s.trackers.set r ((s.trackers.get r).started st) := rfl

theorem setTracker_startCycle_trackers (s : State) (r : Ref) (x : Tracker) (st : Tick) :
    ((s.setTracker r x).startCycle r st).trackers = s.trackers.set r (x.started st) := by
  rw [startCycle_trackers, setTracker_trackers, perRef_get_set_self, perRef_set_set]

theorem enterLocked_trackers (s : State) (r : Ref) (e : Tick) (interval : Nat) : (s.enterLocked r e interval).trackers =
    s.trackers.set r (((s.trackers.get r).entersLocked e interval).started e) :=
  setTracker_startCycle_trackers s r _ e

theorem lock_trackers (s : State) (r : Ref) (e : Tick) (interval : Nat) : (s.lock r e interval).trackers =
    s.trackers.set r (((s.trackers.get r).entersLocked e interval).started e) :=
  (lockEvent_changes _ r .trackers (by decide)).trans (enterLocked_trackers s r e interval)

theorem lockedEdge_trackers (s : State) (r : Ref) (e : Tick) (interval : Nat) : (s.lockedEdge r e interval).trackers =
    s.trackers.set r (({ s.trackers.get r with
      period := interval, deadline := some (deadlineOf e interval) } : Tracker).started e) := by
  unfold State.lockedEdge
  dsimp only
  rw [setTracker_startCycle_trackers, endCycleFrames_trackers]

theorem relock_trackers (s : State) (r : Ref) (e : Tick) (interval : Nat) : (s.relock r e interval).trackers =
    s.trackers.set r (((s.trackers.get r).entersLocked e interval).started e) := by
  rw [← endCycleFrames_trackers s r .short, ← enterLocked_trackers]
  exact raiseSync_changes _ r _ _ .trackers (by decide)

theorem expireDeadline_trackers (s : State) (r : Ref) : (s.expireDeadline r).trackers =
    s.trackers.set r ((s.trackers.get r).holds.started s.now) := by
  rw [← endCycleFrames_trackers s r .held, ← setTracker_startCycle_trackers]
  exact raiseSync_changes _ r _ _ .trackers (by decide)

theorem loseReference_trackers (s : State) (r : Ref) :
    (s.loseReference r).trackers = s.trackers.set r (s.trackers.get r).seeks :=
  lockEvent_changes _ r .trackers (by decide)

theorem endHeldCycle_trackers (s : State) (r : Ref) : (s.endHeldCycle r).trackers =
    s.trackers.set r (if (s.plan.refs.get r).holdLimit ≤ (s.trackers.get r).heldCount then (s.trackers.get r).seeks
      else ({ s.trackers.get r with heldCount := (s.trackers.get r).heldCount + 1 } : Tracker).started s.now) := by
  unfold State.endHeldCycle
  dsimp only
  rw [endCycleFrames_trackers]
  split
  · rw [loseReference_trackers, endCycleFrames_trackers]
  · rw [setTracker_startCycle_trackers, endCycleFrames_trackers]

theorem issueStrobe_trackers (s : State) (r : Ref) (k : Slot) : (s.issueStrobe r k).trackers = s.trackers := rfl

/-! ### Each way of an accepted edge (R2, R6, R7, R8, R11) -/

theorem acceptEdge_of_spurious {e : Tick} (h : classify (s.trackers.get r).previousEdge e = .spurious) :
    s.acceptEdge r e = s.setTracker r { s.trackers.get r with
      filtered := true
      accepting := none
      counters := { (s.trackers.get r).counters with spurious := bump16 (s.trackers.get r).counters.spurious } } := by
  simp only [State.acceptEdge, h]

theorem acceptEdge_of_outside {e : Tick} (h : classify (s.trackers.get r).previousEdge e = .first ∨
    classify (s.trackers.get r).previousEdge e = .late) :
    s.acceptEdge r e = s.setTracker r ((s.trackers.get r).edgeTaken e) := by
  obtain h | h := h <;> simp only [State.acceptEdge, h] <;> rfl

/-- An in-window edge acts by the state of the tracker, which has taken the edge. -/
theorem acceptEdge_of_inWindow {e : Tick} {interval : Nat}
    (h : classify (s.trackers.get r).previousEdge e = .inWindow interval) : s.acceptEdge r e =
      match (s.trackers.get r).mode with
      | .seeking => (s.setTracker r ((s.trackers.get r).edgeTaken e)).lock r e interval
      | .locked => (s.setTracker r ((s.trackers.get r).edgeTaken e)).lockedEdge r e interval
      | .holding => (s.setTracker r ((s.trackers.get r).edgeTaken e)).relock r e interval := by
  simp only [State.acceptEdge, h]
  rfl

theorem classify_inWindow {previous : Option Tick} {e : Tick} {interval : Nat}
    (h : classify previous e = .inWindow interval) : tMin ≤ interval ∧ interval ≤ tMax := by
  unfold classify at h
  split at h
  · cases h
  · dsimp only at h
    split at h
    · cases h
    · next above =>
      split at h
      · next below =>
        cases h
        exact ⟨Nat.le_of_not_lt above, below⟩
      · cases h

/-! ### Sound trackers -/

theorem trackersSound_of_same (h : s.TrackersSound) (trackers : t.trackers = s.trackers) : t.TrackersSound := fun r => by
  rw [trackers]
  exact h r

theorem trackersSound_of_set {x : Tracker} (h : s.TrackersSound) (trackers : t.trackers = s.trackers.set r x)
    (sound : x.Sound) : t.TrackersSound := fun r' => by
  rw [trackers]
  by_cases own : r' = r
  · rw [own, perRef_get_set_self]
    exact sound
  · rw [perRef_get_set_ne _ _ own]
    exact h r'

theorem edgeTaken_sound {x : Tracker} (h : x.Sound) (e : Tick) : (x.edgeTaken e).Sound :=
  ⟨h.period_in, h.start_iff, h.strobe_iff, h.strobe_le, h.deadline_iff, h.held_iff⟩

/-- A cycle starts outside SEEKING. -/
theorem started_sound {x : Tracker} (period : tMin ≤ x.period ∧ x.period ≤ tMax) (mode : x.mode ≠ .seeking)
    (deadline : x.deadline.isSome = (x.mode == .locked)) (held : 0 < x.heldCount ↔ x.mode = .holding) (st : Tick) :
    (x.started st).Sound :=
  have cycles : (x.mode != .seeking) = true := bne_iff_ne.2 mode
  ⟨period, cycles.symm, cycles.symm, fun k hk => by cases hk; decide, deadline, held⟩

theorem entersLocked_started_sound (x : Tracker) (e : Tick) {interval : Nat}
    (window : tMin ≤ interval ∧ interval ≤ tMax) : ((x.entersLocked e interval).started e).Sound :=
  started_sound window (show TrackerMode.locked ≠ .seeking by decide) rfl
    (show 0 < 0 ↔ TrackerMode.locked = .holding by decide) e

theorem seeks_sound {x : Tracker} (h : x.Sound) : x.seeks.Sound :=
  ⟨h.period_in, rfl, rfl, nofun, rfl, ⟨fun h => absurd h (Nat.lt_irrefl 0), nofun⟩⟩

theorem holds_started_sound {x : Tracker} (h : x.Sound) (st : Tick) : (x.holds.started st).Sound :=
  started_sound (x := x.holds) h.period_in (show TrackerMode.holding ≠ .seeking by decide) rfl
    (show 0 < 1 ↔ TrackerMode.holding = .holding by decide) st

/-! ### Every event -/

theorem acceptEdge_trackersSound (h : s.TrackersSound) (r : Ref) (e : Tick) : (s.acceptEdge r e).TrackersSound := by
  have taken : (s.setTracker r ((s.trackers.get r).edgeTaken e)).TrackersSound :=
    trackersSound_of_set h rfl (edgeTaken_sound (h r) e)
  cases class_ : classify (s.trackers.get r).previousEdge e with
  | first =>
    rw [acceptEdge_of_outside (.inl class_)]
    exact taken
  | late =>
    rw [acceptEdge_of_outside (.inr class_)]
    exact taken
  | spurious =>
    rw [acceptEdge_of_spurious class_]
    exact trackersSound_of_set h rfl ⟨(h r).period_in, (h r).start_iff, (h r).strobe_iff, (h r).strobe_le,
      (h r).deadline_iff, (h r).held_iff⟩
  | inWindow interval =>
    have window := classify_inWindow class_
    rw [acceptEdge_of_inWindow class_]
    cases mode : (s.trackers.get r).mode with
    | seeking => exact trackersSound_of_set taken (lock_trackers _ r e interval) (entersLocked_started_sound _ e window)
    | holding => exact trackersSound_of_set taken (relock_trackers _ r e interval) (entersLocked_started_sound _ e window)
    | locked =>
      have locked : ((s.setTracker r ((s.trackers.get r).edgeTaken e)).trackers.get r).mode = .locked := by
        rw [setTracker_trackers, perRef_get_set_self]
        exact mode
      refine trackersSound_of_set taken (lockedEdge_trackers _ r e interval) (started_sound window ?_ ?_ ?_ e)
      · exact ne_of_eq_of_ne locked nofun
      · exact (beq_iff_eq.2 locked).symm
      · exact (taken r).held_iff

theorem endHeldCycle_trackersSound (h : s.TrackersSound) (mode : (s.trackers.get r).mode = .holding) :
    (s.endHeldCycle r).TrackersSound := by
  refine trackersSound_of_set h (endHeldCycle_trackers s r) ?_
  split
  · exact seeks_sound (h r)
  · exact started_sound (x := { s.trackers.get r with heldCount := (s.trackers.get r).heldCount + 1 })
      (h r).period_in (ne_of_eq_of_ne mode nofun) (h r).deadline_iff ⟨fun _ => mode, fun _ => Nat.succ_pos _⟩ s.now

theorem nextStrobe_trackersSound (h : s.TrackersSound) (r : Ref) : (s.nextStrobe r).TrackersSound := by
  unfold State.nextStrobe
  dsimp only
  split
  · next k strobe =>
    split
    · next below =>
      refine trackersSound_of_set h (issueStrobe_trackers _ r _) ⟨(h r).period_in, (h r).start_iff, ?_, ?_,
        (h r).deadline_iff, (h r).held_iff⟩
      · exact (congrArg Option.isSome strobe).symm.trans (h r).strobe_iff
      · intro k' next
        cases next
        omega
    · exact h
  · exact h

theorem holding_of_heldEndDue (h : s.heldEndDue r = true) : (s.trackers.get r).mode = .holding := by
  obtain ⟨ends, -⟩ := Bool.and_eq_true_iff.1 h
  exact ((heldEndTick_iff s r).1 ends).1

theorem afterJoins_trackers (s : State) : s.afterJoins.trackers = s.trackers :=
  afterJoins_changes s .trackers (by decide)

theorem event_trackersSound (event : s.Event t) (h : s.TrackersSound) : t.TrackersSound := by
  have joins : ∀ {u : State}, u.TrackersSound → u.afterJoins.TrackersSound := fun k =>
    trackersSound_of_same k (afterJoins_trackers _)
  cases event with
  | apart changes => exact trackersSound_of_same h (changes .trackers (by decide))
  | empties changes => exact trackersSound_of_same h (changes .trackers (by decide))
  | countersCleared r =>
    exact trackersSound_of_set h rfl ⟨(h r).period_in, (h r).start_iff, (h r).strobe_iff, (h r).strobe_le,
      (h r).deadline_iff, (h r).held_iff⟩
  | sample r high =>
    exact joins (trackersSound_of_set h rfl ⟨(h r).period_in, (h r).start_iff, (h r).strobe_iff, (h r).strobe_le,
      (h r).deadline_iff, (h r).held_iff⟩)
  | edge r e => exact joins (acceptEdge_trackersSound h r e)
  | @deadline r due => exact joins (trackersSound_of_set h (expireDeadline_trackers s r) (holds_started_sound (h r) _))
  | heldEnd due => exact joins (endHeldCycle_trackersSound h (holding_of_heldEndDue due))
  | strobe r => exact nextStrobe_trackersSound h r
  | arrival c v analog => exact joins (trackersSound_of_same h (arriveSample_changes s c v analog .trackers (by decide)))
  | completion wrong hand => exact trackersSound_of_same h (completeTransform_changes s _ _ wrong .trackers (by decide))
  | serviceOut e => exact trackersSound_of_same h (serviceOut_changes s e .trackers (by decide))
  | serviceIn e => exact trackersSound_of_same h (serviceIn_changes s e .trackers (by decide))
  | faultsCleared => exact trackersSound_of_same h rfl
  | channelEmptied c => exact trackersSound_of_same h (emptyChannel_changes s c .trackers (by decide))
  | disarmed c => exact trackersSound_of_same h rfl
  | tick => exact trackersSound_of_same h (tick_changes s .trackers (by decide))

/-- A tracker is sound after the power-on reset (R3). -/
theorem reset_tracker_sound : Tracker.reset.Sound :=
  ⟨by decide, rfl, rfl, nofun, rfl, ⟨fun h => absurd h (Nat.lt_irrefl 0), nofun⟩⟩

theorem powerOn_trackersSound (stop : Bool) (inService : Vector Bool 4) (pending : List Instr) (choices : Nat) :
    ({ State.powerOn stop inService pending with choices := choices } : State).TrackersSound := fun r => by
  cases r <;> exact reset_tracker_sound

/-- Settles O55: each event leaves every tracker but its own, and its own in one of the shapes above. -/
theorem trackersStaySound : Obligations.TrackersStaySound := fun s _ sound run =>
  step_keeps_of_events s powerOn_trackersSound (fun _ _ => event_trackersSound) run sound

end Sys2Proof.Machine
end

section
/-! SUPPORT. The engines and the audit unit along a step (R51 to R67): what each event keeps of an engine's service and
hand, of the age of a transform, and of the audit unit's modes and records. -/

namespace Sys2Proof.Machine

variable {s t u : State}

/-! ### What an operation keeps -/

/-- Each invariant of the engines and of the audit unit holds of `t` if it holds of `s`. -/
structure State.KeepsWork (s t : State) : Prop where
  engines : s.EnginesSound → t.EnginesSound
  audit : s.AuditSound → t.AuditSound
  time : s.TransformsInTime → t.TransformsInTime
  kept : s.KeptSound → t.KeptSound

theorem keepsWork_refl (s : State) : s.KeepsWork s := ⟨id, id, id, id⟩

theorem keepsWork_trans (h : s.KeepsWork t) (k : t.KeepsWork u) : s.KeepsWork u :=
  ⟨k.engines ∘ h.engines, k.audit ∘ h.audit, k.time ∘ h.time, k.kept ∘ h.kept⟩

/-- Between `s` and `t` the engines go on with the frames that they have in hand, whatever their roles in the audit, and
the audit unit loses kept results at most. -/
structure State.WorkGoesOn (s t : State) : Prop where
  now : t.now = s.now
  service : ∀ e, (t.engines.get e).service = (s.engines.get e).service
  taken : ∀ e, (t.engines.get e).hand.map Hand.taken = (s.engines.get e).hand.map Hand.taken
  audit : t.audit = { s.audit with kept := t.audit.kept }
  kept : ∀ (c : Channel) k, t.audit.kept[c] = some k → s.audit.kept[c] = some k

theorem goesOn_refl (s : State) : s.WorkGoesOn s := ⟨rfl, fun _ => rfl, fun _ => rfl, rfl, fun _ _ h => h⟩

theorem goesOn_trans (h : s.WorkGoesOn t) (k : t.WorkGoesOn u) : s.WorkGoesOn u where
  now := k.now.trans h.now
  service e := (k.service e).trans (h.service e)
  taken e := (k.taken e).trans (h.taken e)
  audit := by rw [k.audit, h.audit]
  kept c x hx := h.kept c x (k.kept c x hx)

theorem goesOn_of_same (now : t.now = s.now) (engines : t.engines = s.engines) (audit : t.audit = s.audit) :
    s.WorkGoesOn t :=
  ⟨now, fun e => by rw [engines], fun e => by rw [engines], by rw [audit], fun c k => by rw [audit]; exact id⟩

theorem goesOn_of_changes {A : List Part} (h : State.ChangesOnly A s t)
    (apart : ∀ p ∈ [Part.now, .engines, .audit], p ∉ A) : s.WorkGoesOn t :=
  goesOn_of_same (h .now (apart _ (by decide))) (h .engines (apart _ (by decide))) (h .audit (apart _ (by decide)))

theorem goesOn_foldl {α : Type} {f : State → α → State} (h : ∀ (s : State) x, s.WorkGoesOn (f s x)) (xs : List α)
    (s : State) : s.WorkGoesOn (xs.foldl f s) := by
  induction xs generalizing s with
  | nil => exact goesOn_refl s
  | cons x xs ih => exact goesOn_trans (h s x) (ih _)

theorem hand_isSome_of_taken {x y : EngineSlot} (h : x.hand.map Hand.taken = y.hand.map Hand.taken) :
    x.hand.isSome = y.hand.isSome := by
  have := congrArg Option.isSome h
  rwa [Option.isSome_map, Option.isSome_map] at this

/-- The soundness of an engine's slot, by its service and by whether it is busy. -/
theorem engineSlot_sound_congr {x y : EngineSlot} (service : x.service = y.service)
    (busy : x.hand.isSome = y.hand.isSome) (h : y.Sound) : x.Sound := by
  refine ⟨fun stopping => busy.trans (h.1 (service ▸ stopping)), fun out => ?_⟩
  have idle := h.2 (service ▸ out)
  rw [idle, Option.isSome_none] at busy
  exact Option.isNone_iff_eq_none.1 (by simpa using busy)

theorem keepsWork_of_goesOn (h : s.WorkGoesOn t) : s.KeepsWork t where
  engines := fun ⟨sound, serving⟩ => by
    refine ⟨fun e => engineSlot_sound_congr (h.service e) (hand_isSome_of_taken (h.taken e)) (sound e), ?_⟩
    have first : t.engines.e1.service = s.engines.e1.service := h.service .e1
    have second : t.engines.e2.service = s.engines.e2.service := h.service .e2
    rw [first, second]
    exact serving
  audit := fun sound => by
    unfold State.AuditSound
    rw [h.audit]
    exact sound
  time := fun sound e x hand => by
    have taken := h.taken e
    rw [hand] at taken
    obtain ⟨y, own, same⟩ := Option.map_eq_some_iff.1 taken.symm
    rw [h.now, ← same]
    exact sound e y own
  kept := fun sound c k isSome => sound c k (h.kept c k isSome)

theorem keepsWork_of_changes {A : List Part} (h : State.ChangesOnly A s t)
    (apart : ∀ p ∈ [Part.now, .engines, .audit], p ∉ A) : s.KeepsWork t := keepsWork_of_goesOn (goesOn_of_changes h apart)

/-! ### Roles and kept results that go (R33, R63, R64) -/

theorem setRole_goesOn (s : State) (e : Engine) (c : Channel) (role : AuditRole) : s.WorkGoesOn (s.setRole e c role) := by
  have changes := setRole_changes s e c role
  have audit : (s.setRole e c role).audit = s.audit := changes .audit (by decide)
  have slots : ∀ e', ((s.setRole e c role).engines.get e').service = (s.engines.get e').service ∧
      ((s.setRole e c role).engines.get e').hand.map Hand.taken = (s.engines.get e').hand.map Hand.taken := by
    intro e'
    by_cases own : e' = e
    · subst own
      rw [setRole_get]
      refine ⟨rfl, ?_⟩
      rw [Option.map_map]
      refine congrArg (Option.map · _) (funext fun h => ?_)
      rw [Function.comp_apply, Hand.withRole]
      split <;> rfl
    · rw [setRole_get_ne s own]
      exact ⟨rfl, rfl⟩
  exact ⟨changes .now (by decide), fun e' => (slots e').1, fun e' => (slots e').2, by rw [audit],
    fun d k => by rw [audit]; exact id⟩

theorem unkept_goesOn (s : State) (c : Channel) : s.WorkGoesOn (s.setKept c none) := by
  refine ⟨rfl, fun _ => rfl, fun _ => rfl, rfl, fun d k isSome => ?_⟩
  rw [setKept_audit, vector_getElem_set] at isSome
  split at isSome
  · cases isSome
  · exact isSome

theorem abandonAudit_goesOn (s : State) (e : Engine) (c : Channel) : s.WorkGoesOn (s.abandonAudit e c) := by
  have leaves : s.WorkGoesOn (s.dequeue c) := goesOn_of_same rfl rfl rfl
  unfold State.abandonAudit
  dsimp only
  split
  · exact goesOn_trans leaves (goesOn_trans (unkept_goesOn _ c) (goesOn_of_changes (arrive_changes _ _) (by decide)))
  · exact goesOn_trans leaves (setRole_goesOn _ _ c _)

theorem removeBuffered_goesOn (s : State) (c : Channel) : s.WorkGoesOn (s.removeBuffered c) := by
  have empties : s.WorkGoesOn (s.setBuffers c { s.buffers[c] with held := none }) := goesOn_of_same rfl rfl rfl
  have leaves : s.WorkGoesOn ((s.setBuffers c { s.buffers[c] with held := none }).dequeue c) :=
    goesOn_of_same rfl rfl rfl
  unfold State.removeBuffered
  dsimp only
  split
  · exact goesOn_refl s
  · split
    · refine goesOn_trans leaves ?_
      split
      · exact goesOn_of_changes (settle_changes _ c _) (by decide)
      · split
        · exact goesOn_trans (unkept_goesOn _ c) (goesOn_of_changes (dropResult_changes _ _) (by decide))
        · exact goesOn_trans (setRole_goesOn _ .e1 c _) (setRole_goesOn _ .e2 c _)
    · exact empties

theorem emptyChannel_goesOn (s : State) (c : Channel) : s.WorkGoesOn (s.emptyChannel c) := by
  unfold State.emptyChannel
  dsimp only
  exact goesOn_trans (goesOn_trans (goesOn_of_changes (setBuffers_changes s c _) (by decide))
    (goesOn_of_changes (setConverter_changes _ c _) (by decide)))
    (goesOn_trans (removeBuffered_goesOn _ c) (goesOn_of_changes (setRecord_changes _ c none) (by decide)))

/-! ### Takes (R53, R56 to R58) -/

/-- The audit unit after a first take keeps all but its counter and a bounded count of skips. -/
theorem auditTake_skips_le {a : AuditUnit} (h : a.skips ≤ 65535) (k : Nat) (other : Service) :
    (a.take k other).skips ≤ 65535 := by
  cases decides : a.decides k with
  | true =>
    rw [(auditTake_of_decides decides other).2]
    split
    · omega
    · exact h
  | false =>
    rw [(auditTake_of_not_decides decides other).2]
    exact h

/-- An engine that takes is IN SERVICE and has been idle; its transform begins at the take. -/
theorem takeFrame_keepsWork {e : Engine} (serving : (s.engines.get e).service = .inService) (c : Channel) (f : Frame) :
    s.KeepsWork (s.takeFrame e c f) := by
  obtain ⟨marked, role, queue, audit, take, second, first⟩ := takeFrame_taken s e c f
  have unit : audit = s.audit ∨ audit = s.audit.take s.plan.auditInterval (s.engines.get e.other).service := by
    cases mark : f.audit with
    | true => exact .inl (second mark).2.2.2
    | false => exact .inr (first mark).2.2.2
  have own : (s.taken e c f marked role queue audit).engines.get e = { s.engines.get e with
      hand := some ⟨{ f with audit := marked, engines := f.engines.set e true }, role, s.now⟩
      lastCycle := f.cycle } := perEngine_get_set_self _ _ _
  have others : ∀ e', e' ≠ e → (s.taken e c f marked role queue audit).engines.get e' = s.engines.get e' :=
    fun e' ne => perEngine_get_set_ne _ _ ne
  have service : ∀ e', ((s.taken e c f marked role queue audit).engines.get e').service =
      (s.engines.get e').service := fun e' => by
    by_cases h : e' = e
    · rw [h, own]
    · rw [others e' h]
  rw [take]
  exact {
    engines := fun ⟨sound, one⟩ => by
      refine ⟨fun e' => ?_, ?_⟩
      · by_cases h : e' = e
        · rw [h, own]
          exact ⟨fun _ => rfl, fun out => absurd (serving.symm.trans out) nofun⟩
        · rw [others e' h]
          exact sound e'
      · have serving1 : (s.taken e c f marked role queue audit).engines.e1.service = s.engines.e1.service := service .e1
        have serving2 : (s.taken e c f marked role queue audit).engines.e2.service = s.engines.e2.service := service .e2
        rw [serving1, serving2]
        exact one
    audit := fun ⟨all, mismatches, skips, records, overflow⟩ => by
      obtain same | same := unit <;> rw [same]
      · exact ⟨all, mismatches, skips, records, overflow⟩
      · exact ⟨all, mismatches, auditTake_skips_le skips _ _, records, overflow⟩
    time := fun sound e' h hand => by
      by_cases he : e' = e
      · rw [he, own] at hand
        cases hand
        exact ⟨Nat.le_refl _, Nat.le_add_right _ _⟩
      · rw [others e' he] at hand
        exact sound e' h hand
    kept := fun sound d k isSome => by
      obtain same | same := unit <;> rw [same] at isSome <;> exact sound d k isSome }

theorem engineTake_keepsWork (s : State) (e : Engine) : s.KeepsWork (s.engineTake e) := by
  obtain nothing | ⟨c, f, serving, -, -, -, -, take⟩ := engineTake_cases s e
  · rw [nothing]
    exact keepsWork_refl s
  · rw [take]
    exact takeFrame_keepsWork serving c f

theorem enginesTake_keepsWork (s : State) : s.KeepsWork s.enginesTake := by
  unfold State.enginesTake
  split
  · exact keepsWork_refl s
  · exact keepsWork_trans (engineTake_keepsWork s .e1) (engineTake_keepsWork _ .e2)

theorem afterJoins_keepsWork (s : State) : s.KeepsWork s.afterJoins := by
  unfold State.afterJoins
  split
  · exact enginesTake_keepsWork s
  · exact keepsWork_refl s

/-! ### Completions (R54, R59 to R62) -/

/-- Audit-all mode is on from the third mismatch, and a count does not fall (R61). -/
theorem auditAll_of_counted {all : Bool} {n : Nat} (h : all = true ↔ 3 ≤ n) :
    (all || decide (3 ≤ bump8 n)) = true ↔ 3 ≤ bump8 n := by
  rw [Bool.or_eq_true, decide_eq_true_iff, h]
  unfold bump8
  omega

/-- A mismatch is counted and written with the fault records filled together (R61, R62). -/
theorem mismatch_keepsWork (s : State) (res : TransformResult) (q : FaultQuantity) (v w : Half) :
    s.KeepsWork (s.mismatch res q v w) := by
  have changes := mismatch_changes s res q v w
  have now : (s.mismatch res q v w).now = s.now := changes .now (by decide)
  have engines : (s.mismatch res q v w).engines = s.engines := changes .engines (by decide)
  have unit := mismatch_audit s res q v w
  exact {
    engines := fun sound => by
      unfold State.EnginesSound
      rw [engines]
      exact sound
    audit := fun ⟨all, mismatches, skips, _, _⟩ => by
      unfold State.AuditSound
      rw [unit]
      refine ⟨auditAll_of_counted all, Nat.min_le_right _ _, skips, ?_, fun _ => rfl⟩
      show (if s.audit.first.isSome then s.audit.first else some _).isSome = true
      split
      · next first => exact first
      · rfl
    time := fun sound => by
      unfold State.TransformsInTime
      rw [engines, now]
      exact sound
    kept := fun sound c k isSome => by
      rw [unit] at isSome
      exact sound c k isSome }

theorem setKept_keepsWork (s : State) {c : Channel} {k : Kept} (channel : k.result.channel = c) :
    s.KeepsWork (s.setKept c (some k)) where
  engines := id
  audit := id
  time := id
  kept sound d x isSome := by
    rw [setKept_audit, vector_getElem_set] at isSome
    split at isSome
    · next own =>
      cases isSome
      exact channel.trans own.symm
    · exact sound d x isSome

theorem routeResult_keepsWork (s : State) (e : Engine) (role : AuditRole) (res : TransformResult) :
    s.KeepsWork (s.routeResult e role res) := by
  have arrives : ∀ (u : State) res, u.KeepsWork (u.arrive res) := fun u res =>
    keepsWork_of_changes (arrive_changes u res) (by decide)
  unfold State.routeResult
  split
  · exact arrives s _
  · exact arrives s _
  · exact keepsWork_of_changes (dropResult_changes s res) (by decide)
  · split
    · exact setKept_keepsWork s rfl
    · refine keepsWork_trans (keepsWork_of_goesOn (unkept_goesOn s res.channel)) ?_
      unfold State.compare
      dsimp only
      split
      · exact mismatch_keepsWork _ _ _ _ _
      · exact arrives _ _

/-- An engine whose hand is emptied, but for its service: STOPPING does not outlast a completion. -/
theorem handEmptied_keepsWork (s : State) (e : Engine) :
    (s.AuditSound → (s.setEngine e { s.engines.get e with hand := none }).AuditSound) ∧
    (s.TransformsInTime → (s.setEngine e { s.engines.get e with hand := none }).TransformsInTime) ∧
    (s.KeptSound → (s.setEngine e { s.engines.get e with hand := none }).KeptSound) := by
  refine ⟨id, fun sound e' h hand => ?_, id⟩
  rw [setEngine_engines] at hand
  by_cases own : e' = e
  · rw [own, perEngine_get_set_self] at hand
    cases hand
  · rw [perEngine_get_set_ne _ _ own] at hand
    exact sound e' h hand

/-- One engine's slot is set: the other's stays sound, and one of the two is IN SERVICE. -/
theorem setEngine_enginesSound {e : Engine} {x : EngineSlot} (h : s.EnginesSound) (sound : x.Sound)
    (serving : x.service = .inService ∨ (s.engines.get e.other).service = .inService) :
    (s.setEngine e x).EnginesSound := by
  refine ⟨fun e' => ?_, ?_⟩
  · rw [setEngine_engines]
    by_cases own : e' = e
    · rw [own, perEngine_get_set_self]
      exact sound
    · rw [perEngine_get_set_ne _ _ own]
      exact h.1 e'
  · cases e with
    | e1 => exact serving
    | e2 => exact serving.symm

theorem other_serving {e : Engine} (h : s.EnginesSound) (out : (s.engines.get e).service ≠ .inService) :
    (s.engines.get e.other).service = .inService := by
  cases e with
  | e1 => exact h.2.resolve_left out
  | e2 => exact h.2.resolve_right out

theorem completeTransform_enginesSound {e : Engine} {h : Hand} (wrong : Option Figures)
    (hand : (s.engines.get e).hand = some h) (sound : s.EnginesSound) : (s.completeTransform e h wrong).EnginesSound := by
  let own := wrong.getD (transform h.frame.values)
  show ((s.routed e h own).afterCompletion e).EnginesSound
  have slots := routed_engines s e h own
  have slot : (s.routed e h own).engines.get e = { s.engines.get e with hand := none } := by
    rw [slots, perEngine_get_set_self]
  by_cases stopping : ((s.routed e h own).engines.get e).service = .stopping
  · have was : (s.engines.get e).service = .stopping := by rw [slot] at stopping; exact stopping
    rw [afterCompletion_of_stopping stopping]
    have set := setEngine_enginesSound (e := e) (x := { s.engines.get e with hand := none, service := .out }) sound
      ⟨nofun, fun _ => rfl⟩ (.inr (other_serving sound (was ▸ nofun)))
    have engines : (((s.routed e h own).setEngine e { (s.routed e h own).engines.get e with service := .out }).raise
        (.engine e ((s.routed e h own).engines.get e).lastCycle .stopping .out 0)).engines =
        (s.setEngine e { s.engines.get e with hand := none, service := .out }).engines := by
      rw [raise_engines, setEngine_engines, setEngine_engines, slot, slots, perEngine_set_set]
    unfold State.EnginesSound
    rw [engines]
    exact set
  · rw [afterCompletion_of_not_stopping stopping]
    refine (enginesTake_keepsWork _).engines ?_
    have inService : (s.engines.get e).service = .inService := by
      rw [slot] at stopping
      cases service : (s.engines.get e).service with
      | inService => rfl
      | stopping => exact absurd service stopping
      | out => exact absurd (hand.symm.trans ((sound.1 e).2 service)) nofun
    have set := setEngine_enginesSound (e := e) (x := { s.engines.get e with hand := none }) sound
      ⟨fun stops => absurd (inService.symm.trans stops) nofun, fun _ => rfl⟩ (.inl inService)
    unfold State.EnginesSound
    rw [slots]
    exact set

theorem afterCompletion_keepsWork (s : State) (e : Engine) :
    (s.AuditSound → (s.afterCompletion e).AuditSound) ∧
    (s.TransformsInTime → (s.afterCompletion e).TransformsInTime) ∧
    (s.KeptSound → (s.afterCompletion e).KeptSound) := by
  by_cases stopping : (s.engines.get e).service = .stopping
  · rw [afterCompletion_of_stopping stopping]
    refine ⟨id, fun sound e' h hand => ?_, id⟩
    rw [raise_engines, setEngine_engines] at hand
    by_cases own : e' = e
    · rw [own, perEngine_get_set_self] at hand
      exact sound e h hand
    · rw [perEngine_get_set_ne _ _ own] at hand
      exact sound e' h hand
  · rw [afterCompletion_of_not_stopping stopping]
    have takes := enginesTake_keepsWork s
    exact ⟨takes.audit, takes.time, takes.kept⟩

theorem completeTransform_keepsWork {e : Engine} {h : Hand} (wrong : Option Figures)
    (hand : (s.engines.get e).hand = some h) : s.KeepsWork (s.completeTransform e h wrong) := by
  obtain ⟨audit, time, kept⟩ := handEmptied_keepsWork s e
  have route := routeResult_keepsWork (s.setEngine e { s.engines.get e with hand := none }) e h.role
    (h.frame.result (wrong.getD (transform h.frame.values)))
  obtain ⟨audit', time', kept'⟩ := afterCompletion_keepsWork _ e
  exact ⟨completeTransform_enginesSound wrong hand, audit' ∘ route.audit ∘ audit, time' ∘ route.time ∘ time,
    kept' ∘ route.kept ∘ kept⟩

/-! ### Service (R65, R66) -/

/-- A change of service leaves the hands and the audit unit. -/
theorem serviceChanged_keepsWork {e : Engine} {new : Service} (b : NoticeBody)
    (sound : s.EnginesSound → (s.serviceChanged e new b).EnginesSound) : s.KeepsWork (s.serviceChanged e new b) where
  engines := sound
  audit := id
  time := fun sound e' h hand => by
    rw [State.serviceChanged, raise_engines, setEngine_engines] at hand
    by_cases own : e' = e
    · rw [own, perEngine_get_set_self] at hand
      exact sound e h hand
    · rw [perEngine_get_set_ne _ _ own] at hand
      exact sound e' h hand
  kept := id

theorem serviceIn_keepsWork (s : State) (e : Engine) : s.KeepsWork (s.serviceIn e) := by
  have enters : ∀ b, s.KeepsWork (s.serviceChanged e .inService b) := fun b =>
    serviceChanged_keepsWork b fun sound => setEngine_enginesSound sound ⟨nofun, nofun⟩ (.inl rfl)
  cases service : (s.engines.get e).service with
  | inService =>
    rw [serviceIn_of_inService service]
    exact keepsWork_refl s
  | stopping =>
    rw [serviceIn_of_stopping service]
    exact enters _
  | out =>
    rw [serviceIn_of_out service]
    exact keepsWork_trans (enters _) (enginesTake_keepsWork _)

/-- A busy engine that leaves service is STOPPING, an idle one is OUT OF SERVICE (R66). -/
theorem leaving_sound (x : EngineSlot) : ({ x with service := x.leaving } : EngineSlot).Sound := by
  unfold EngineSlot.leaving
  cases hand : x.hand with
  | none => exact ⟨nofun, fun _ => rfl⟩
  | some h => exact ⟨fun _ => rfl, nofun⟩

theorem serviceOut_keepsWork (s : State) (e : Engine) : s.KeepsWork (s.serviceOut e).1 := by
  by_cases serving : (s.engines.get e).service = .inService
  · by_cases other : (s.engines.get e.other).service = .inService
    · rw [serviceOut_of_both serving other]
      exact keepsWork_trans
        (serviceChanged_keepsWork _ fun sound => setEngine_enginesSound sound (leaving_sound _) (.inr other))
        (keepsWork_of_goesOn (goesOn_foldl (fun u c => abandonAudit_goesOn u e c) _ _))
    · rw [serviceOut_of_last serving other]
      exact keepsWork_refl s
  · rw [serviceOut_of_not_inService serving]
    exact keepsWork_refl s

theorem clearFaults_keepsWork (s : State) : s.KeepsWork s.clearFaults where
  engines := id
  audit := fun ⟨_, _, skips, _, _⟩ => ⟨⟨nofun, nofun⟩, Nat.zero_le _, skips, rfl, nofun⟩
  time := id
  kept := id

/-! ### The passing of time, and every event -/

theorem tick_of_not_due (idle : s.anyDue = false) : s.tick = { s with
    now := s.now + 1
    clock := if (s.now + 1) % millisecondTicks = 0 then s.clock + 1 else s.clock } := if_neg (by simp [idle])

/-- What time does not pass over. -/
theorem not_due_of_idle (idle : s.anyDue = false) :
    (∀ r, s.sampleDue r = false ∧ s.strobeDue r = false ∧ s.heldEndDue r = false ∧ s.edgeDue r = false ∧
      s.deadlineDue r = false) ∧
    (∀ c : Channel, s.arrivalDue c = false) ∧ ∀ e, s.transformDue e = false := by
  simp only [State.anyDue, Bool.or_eq_false_iff, List.any_cons, List.any_nil, Bool.or_false, List.any_eq_false,
    List.mem_finRange, true_implies, Bool.not_eq_true] at idle
  obtain ⟨⟨⟨⟨⟨⟨r1, r2⟩, arrivals⟩, ⟨e1, e2⟩⟩, -⟩, -⟩, -⟩ := idle
  refine ⟨fun r => ?_, arrivals, fun e => ?_⟩
  · cases r with
    | r1 =>
      obtain ⟨⟨⟨⟨sample, strobe⟩, heldEnd⟩, edge⟩, deadline⟩ := r1
      exact ⟨sample, strobe, heldEnd, edge, deadline⟩
    | r2 =>
      obtain ⟨⟨⟨⟨sample, strobe⟩, heldEnd⟩, edge⟩, deadline⟩ := r2
      exact ⟨sample, strobe, heldEnd, edge, deadline⟩
  · cases e with
    | e1 => exact e1
    | e2 => exact e2

theorem tick_keepsWork (idle : s.anyDue = false) : s.KeepsWork s.tick := by
  obtain ⟨-, -, running⟩ := not_due_of_idle idle
  rw [tick_of_not_due idle]
  refine ⟨id, id, fun sound e h hand => ?_, id⟩
  have hand : (s.engines.get e).hand = some h := hand
  obtain ⟨reached, within⟩ := sound e h hand
  have due := running e
  simp only [State.transformDue, hand, beq_eq_false_iff_ne, ne_eq] at due
  exact ⟨Nat.le_succ_of_le reached, Nat.succ_le_of_lt (Nat.lt_of_le_of_ne within (Ne.symm due))⟩

theorem event_keepsWork (event : s.Event t) : s.KeepsWork t := by
  have joins : ∀ {u : State}, s.KeepsWork u → s.KeepsWork u.afterJoins := fun k =>
    keepsWork_trans k (afterJoins_keepsWork _)
  cases event with
  | apart changes => exact keepsWork_of_changes changes (by decide)
  | empties changes => exact keepsWork_of_changes changes (by decide)
  | countersCleared r => exact keepsWork_of_changes (setTracker_changes s r _) (by decide)
  | sample r high => exact joins (keepsWork_of_changes (sampleInput_changes s r high) (by decide))
  | edge r e => exact joins (keepsWork_of_changes (acceptEdge_changes s r e) (by decide))
  | deadline => exact joins (keepsWork_of_changes (expireDeadline_changes s _) (by decide))
  | heldEnd => exact joins (keepsWork_of_changes (endHeldCycle_changes s _) (by decide))
  | strobe r => exact keepsWork_of_changes (nextStrobe_changes s r) (by decide)
  | arrival c v analog => exact joins (keepsWork_of_changes (arriveSample_changes s c v analog) (by decide))
  | completion wrong hand => exact completeTransform_keepsWork wrong hand
  | serviceOut e => exact serviceOut_keepsWork s e
  | serviceIn e => exact serviceIn_keepsWork s e
  | faultsCleared => exact clearFaults_keepsWork s
  | channelEmptied c => exact keepsWork_of_goesOn (emptyChannel_goesOn s c)
  | disarmed c => exact keepsWork_of_changes (setConverter_changes s c _) (by decide)
  | tick idle => exact tick_keepsWork idle

/-! ### Power-on (R51, R56 to R62) -/

section
variable (stop : Bool) (inService : Vector Bool 4) (pending : List Instr) (choices : Nat)

theorem powerOn_enginesSound :
    ({ State.powerOn stop inService pending with choices := choices } : State).EnginesSound :=
  ⟨fun e => by cases e <;> exact ⟨nofun, nofun⟩, .inl rfl⟩

theorem powerOn_auditSound : ({ State.powerOn stop inService pending with choices := choices } : State).AuditSound :=
  ⟨⟨nofun, nofun⟩, Nat.zero_le _, Nat.zero_le _, rfl, nofun⟩

theorem powerOn_transformsInTime :
    ({ State.powerOn stop inService pending with choices := choices } : State).TransformsInTime := fun e h hand => by
  cases e <;> cases hand

theorem powerOn_kept (c : Channel) : (State.powerOn stop inService pending).audit.kept[c] = none :=
  Vector.getElem_replicate _

theorem powerOn_keptSound : ({ State.powerOn stop inService pending with choices := choices } : State).KeptSound :=
  fun c _ isSome => absurd ((powerOn_kept stop inService pending c).symm.trans isSome) nofun

end

end Sys2Proof.Machine
end

section
/-! SUPPORT. The buffers, the frame queue and the conversions along a step (R17 to R30, R53): what withdraws frames from
the queue, what a take, a join and a cycle make of it, and how old a conversion grows. -/

namespace Sys2Proof.Machine

variable {s t u : State}

/-- The buffers and the frame queue are as R19 to R30 allow. -/
def State.FramesSound (s : State) : Prop := s.BuffersSound ∧ s.QueueSound

/-! ### Frames that leave (R30, R33, R63) -/

/-- Between `s` and `t` frames have left buffers and the queue, and no other frame has changed: a frame that has left the
queue alone is with an engine. -/
structure State.Withdraws (s t : State) : Prop where
  now : t.now = s.now
  fills : ∀ c : Channel, (t.buffers[c]).fill = (s.buffers[c]).fill ∨ (t.buffers[c]).fill = .idle
  queue : t.queue.Sublist s.queue
  held : ∀ c : Channel, (t.buffers[c]).held = (s.buffers[c]).held ∨ (t.buffers[c]).held = none ∧ c ∉ t.queue
  left : ∀ (c : Channel) f, c ∈ s.queue → c ∉ t.queue → (t.buffers[c]).held = some f →
    (f.engines.e1 || f.engines.e2) = true

theorem withdraws_held_of_some (h : s.Withdraws t) {c : Channel} {f : Frame} (held : (t.buffers[c]).held = some f) :
    (s.buffers[c]).held = some f := by
  obtain same | ⟨none_, -⟩ := h.held c
  · exact same.symm.trans held
  · exact absurd (none_.symm.trans held) nofun

theorem withdraws_held_of_queued (h : s.Withdraws t) {c : Channel} (queued : c ∈ t.queue) :
    (t.buffers[c]).held = (s.buffers[c]).held :=
  (h.held c).resolve_right fun gone => gone.2 queued

theorem withdraws_trans (h : s.Withdraws t) (k : t.Withdraws u) : s.Withdraws u where
  now := k.now.trans h.now
  fills c := (k.fills c).elim (fun same => (h.fills c).imp same.trans same.trans) .inr
  queue := k.queue.trans h.queue
  held c := by
    obtain same | gone := k.held c
    · rw [same]
      exact (h.held c).imp_right fun gone => ⟨gone.1, fun queued => gone.2 (k.queue.subset queued)⟩
    · exact .inr gone
  left c f queued gone held := by
    by_cases still : c ∈ t.queue
    · exact k.left c f still gone held
    · exact h.left c f queued still (withdraws_held_of_some k held)

theorem withdraws_of_same (now : t.now = s.now) (buffers : t.buffers = s.buffers) (queue : t.queue = s.queue) :
    s.Withdraws t :=
  ⟨now, fun c => .inl (by rw [buffers]), queue ▸ List.Sublist.refl _, fun c => .inl (by rw [buffers]),
    fun c f queued gone => absurd (queue ▸ queued) gone⟩

theorem withdraws_refl (s : State) : s.Withdraws s := withdraws_of_same rfl rfl rfl

theorem withdraws_of_changes {A : List Part} (h : State.ChangesOnly A s t)
    (apart : ∀ p ∈ [Part.now, .buffers, .queue], p ∉ A) : s.Withdraws t :=
  withdraws_of_same (h .now (apart _ (by decide))) (h .buffers (apart _ (by decide))) (h .queue (apart _ (by decide)))

/-- A frame that is with an engine leaves the queue. -/
theorem dequeue_withdraws {c : Channel} (taken : ∀ f, (s.buffers[c]).held = some f →
    (f.engines.e1 || f.engines.e2) = true) : s.Withdraws (s.dequeue c) where
  now := rfl
  fills _ := .inl rfl
  queue := List.filter_sublist
  held _ := .inl rfl
  left d f queued gone held := by
    obtain rfl : d = c := by
      by_contra ne
      exact gone (List.mem_filter.2 ⟨queued, bne_iff_ne.2 ne⟩)
    exact taken f held

/-- The frame of channel `c` leaves the held buffer and the queue. -/
theorem withdraws_of_emptied {c : Channel} (now : t.now = s.now)
    (buffers : t.buffers = s.buffers.set c { s.buffers[c] with held := none })
    (queue : t.queue = s.queue.filter (fun d => d != c)) : s.Withdraws t := by
  have own : t.buffers[c] = { s.buffers[c] with held := none } := by rw [buffers, vector_getElem_set_self]
  have others : ∀ d : Channel, d ≠ c → t.buffers[d] = s.buffers[d] := fun d ne => by
    rw [buffers, vector_getElem_set_ne _ ne]
  refine ⟨now, fun d => .inl ?_, queue ▸ List.filter_sublist, fun d => ?_, fun d f queued gone held => ?_⟩
  · by_cases ne : d = c
    · rw [ne, own]
    · rw [others d ne]
  · by_cases ne : d = c
    · refine .inr ⟨by rw [ne, own], ?_⟩
      rw [queue, ne]
      simp
    · exact .inl (by rw [others d ne])
  · by_cases ne : d = c
    · rw [ne, own] at held
      cases held
    · refine absurd ?_ gone
      rw [queue]
      exact List.mem_filter.2 ⟨queued, bne_iff_ne.2 ne⟩

theorem settle_withdraws (s : State) (c : Channel) (j : Nat) : s.Withdraws (s.settle c j) := by
  have release : s.Withdraws (s.release c j) := by
    unfold State.release
    dsimp only
    repeat' split
    · exact withdraws_of_emptied rfl rfl rfl
    all_goals exact withdraws_refl s
  exact withdraws_trans release (withdraws_of_changes (with_ports _ _) (by decide))

theorem storeResult_withdraws (s : State) (res : TransformResult) : s.Withdraws (s.storeResult res) :=
  withdraws_trans (withdraws_of_changes (setRecord_changes s _ _) (by decide)) (settle_withdraws _ _ _)

theorem arrive_withdraws (s : State) (res : TransformResult) : s.Withdraws (s.arrive res) := by
  unfold State.arrive
  repeat' split
  · exact settle_withdraws s _ _
  · exact settle_withdraws s _ _
  · exact storeResult_withdraws s res
  · exact withdraws_trans (storeResult_withdraws s res)
      (withdraws_of_changes (evaluationEvent_changes _ _ _) (by decide))

theorem mismatch_withdraws (s : State) (res : TransformResult) (q : FaultQuantity) (v w : Half) :
    s.Withdraws (s.mismatch res q v w) :=
  withdraws_trans (settle_withdraws s _ _)
    (withdraws_trans (withdraws_of_changes (with_audit _ _) (by decide))
      (withdraws_of_changes (raise_changes _ _) (by decide)))

theorem routeResult_withdraws (s : State) (e : Engine) (role : AuditRole) (res : TransformResult) :
    s.Withdraws (s.routeResult e role res) := by
  have keeps : ∀ k, s.Withdraws (s.setKept res.channel k) := fun k =>
    withdraws_of_changes (setKept_changes s _ k) (by decide)
  unfold State.routeResult
  split
  · exact arrive_withdraws s _
  · exact arrive_withdraws s _
  · exact settle_withdraws s _ _
  · split
    · exact keeps _
    · refine withdraws_trans (keeps none) ?_
      unfold State.compare
      dsimp only
      split
      · exact mismatch_withdraws _ _ _ _ _
      · exact arrive_withdraws _ _

theorem abandonAudit_withdraws {c : Channel} (taken : ∀ f, (s.buffers[c]).held = some f →
    (f.engines.e1 || f.engines.e2) = true) (e : Engine) : s.Withdraws (s.abandonAudit e c) := by
  refine withdraws_trans (dequeue_withdraws taken) ?_
  unfold State.abandonAudit
  dsimp only
  split
  · exact withdraws_trans (withdraws_of_changes (setKept_changes _ c none) (by decide)) (arrive_withdraws _ _)
  · exact withdraws_of_changes (setRole_changes _ _ c _) (by decide)

/-- Audits that wait are abandoned one after the other: each of their frames stays with the engine that has taken it. -/
theorem abandonAudits_withdraws (e : Engine) (cs : List Channel) (s : State)
    (taken : ∀ c ∈ cs, ∀ f, (s.buffers[c]).held = some f → (f.engines.e1 || f.engines.e2) = true) :
    s.Withdraws (cs.foldl (fun u c => u.abandonAudit e c) s) := by
  induction cs generalizing s with
  | nil => exact withdraws_refl s
  | cons c cs ih =>
    have first := abandonAudit_withdraws (taken c (.head _)) e
    exact withdraws_trans first (ih _ fun d hd f held => taken d (.tail _ hd) f (withdraws_held_of_some first held))

/-- Filling buffers are emptied and counters or epochs written. -/
theorem withdraws_of_fills (now : t.now = s.now) (queue : t.queue = s.queue)
    (buffers : ∀ c : Channel, (t.buffers[c]).held = (s.buffers[c]).held ∧
      ((t.buffers[c]).fill = (s.buffers[c]).fill ∨ (t.buffers[c]).fill = .idle)) : s.Withdraws t :=
  ⟨now, fun c => (buffers c).2, queue ▸ List.Sublist.refl _, fun c => .inl (buffers c).1,
    fun _ _ queued gone => absurd (queue ▸ queued) gone⟩

theorem removeBuffered_withdraws (s : State) (c : Channel) : s.Withdraws (s.removeBuffered c) := by
  have leaves : s.Withdraws ((s.setBuffers c { s.buffers[c] with held := none }).dequeue c) :=
    withdraws_of_emptied rfl rfl rfl
  unfold State.removeBuffered
  dsimp only
  split
  · exact withdraws_refl s
  · split
    · refine withdraws_trans leaves ?_
      split
      · exact settle_withdraws _ c _
      · split
        · exact withdraws_trans (withdraws_of_changes (setKept_changes _ c none) (by decide)) (settle_withdraws _ _ _)
        · exact withdraws_trans (withdraws_of_changes (setRole_changes _ .e1 c _) (by decide))
            (withdraws_of_changes (setRole_changes _ .e2 c _) (by decide))
    · next unqueued =>
      refine withdraws_of_emptied rfl rfl (List.filter_eq_self.2 fun d hd => bne_iff_ne.2 ?_).symm
      rintro rfl
      exact unqueued hd

theorem setBuffers_withdraws {c : Channel} {b : Buffers} (held : b.held = (s.buffers[c]).held)
    (fill : b.fill = (s.buffers[c]).fill ∨ b.fill = .idle) : s.Withdraws (s.setBuffers c b) := by
  refine withdraws_of_fills rfl rfl fun d => ?_
  rw [setBuffers_buffers, vector_getElem_set]
  split
  · next own => exact own ▸ ⟨held, fill⟩
  · exact ⟨rfl, .inl rfl⟩

theorem emptyChannel_withdraws (s : State) (c : Channel) : s.Withdraws (s.emptyChannel c) := by
  have empties : s.Withdraws (s.setBuffers c { s.buffers[c] with epoch := s.buffers[c].epoch + 1, fill := .idle }) :=
    setBuffers_withdraws rfl (.inr rfl)
  unfold State.emptyChannel
  dsimp only
  exact withdraws_trans (withdraws_trans empties (withdraws_of_changes (setConverter_changes _ c _) (by decide)))
    (withdraws_trans (removeBuffered_withdraws _ c) (withdraws_of_changes (setRecord_changes _ c none) (by decide)))

theorem serviceOut_withdraws (s : State) (e : Engine) : s.Withdraws (s.serviceOut e).1 := by
  by_cases serving : (s.engines.get e).service = .inService
  · by_cases other : (s.engines.get e.other).service = .inService
    · rw [serviceOut_of_both serving other]
      refine withdraws_trans (t := s.serviceChanged e (s.engines.get e).leaving (s.leavingNotice e))
        (withdraws_of_same rfl rfl rfl) (abandonAudits_withdraws e _ _ fun c waits f held => ?_)
      obtain ⟨-, f', held', -, taken, -⟩ := (mem_waitingFor_iff s e c).1 waits
      obtain rfl : f' = f := Option.some.inj (held'.symm.trans held)
      cases e with
      | e1 => exact Bool.or_eq_true_iff.2 (.inr taken)
      | e2 => exact Bool.or_eq_true_iff.2 (.inl taken)
    · rw [serviceOut_of_last serving other]
      exact withdraws_refl s
  · rw [serviceOut_of_not_inService serving]
    exact withdraws_refl s

/-! ### What stays of the queue order (R28) -/

theorem heldPriority_eq (s : State) (c : Channel) :
    s.heldPriority c = ((s.buffers[c]).held.map (fun f => f.untaken.priority)).getD 0 := by
  unfold State.heldPriority
  split <;> next held => rw [held]; rfl

theorem heldJoin_eq (s : State) (c : Channel) :
    s.heldJoin c = ((s.buffers[c]).held.map (fun f => f.untaken.joinOrder)).getD 0 := by
  unfold State.heldJoin
  split <;> next held => rw [held]; rfl

/-- The place of a frame in the queue order does not depend on what a take writes into it. -/
theorem queueOrder_congr {a b : Channel}
    (ha : (t.buffers[a]).held.map Frame.untaken = (s.buffers[a]).held.map Frame.untaken)
    (hb : (t.buffers[b]).held.map Frame.untaken = (s.buffers[b]).held.map Frame.untaken) (h : s.queueOrder a b) :
    t.queueOrder a b := by
  have priority : ∀ c : Channel, (t.buffers[c]).held.map Frame.untaken = (s.buffers[c]).held.map Frame.untaken →
      t.heldPriority c = s.heldPriority c := fun c same => by
    have := congrArg (Option.map Frame.priority) same
    rw [Option.map_map, Option.map_map] at this
    rw [heldPriority_eq, heldPriority_eq]
    exact congrArg (Option.getD · 0) this
  have join : ∀ c : Channel, (t.buffers[c]).held.map Frame.untaken = (s.buffers[c]).held.map Frame.untaken →
      t.heldJoin c = s.heldJoin c := fun c same => by
    have := congrArg (Option.map Frame.joinOrder) same
    rw [Option.map_map, Option.map_map] at this
    rw [heldJoin_eq, heldJoin_eq]
    exact congrArg (Option.getD · 0) this
  unfold State.queueOrder at h ⊢
  rw [priority a ha, priority b hb, join a ha, join b hb]
  exact h

theorem withdraws_framesSound (h : s.Withdraws t) (sound : s.FramesSound) : t.FramesSound := by
  obtain ⟨buffers, queue⟩ := sound
  refine ⟨fun c => ⟨?_, fun f held => ?_⟩, ⟨queue.nodup.sublist h.queue, ?_, fun c queued => ?_, fun c f held gone => ?_⟩⟩
  · obtain same | idle := h.fills c
    · rw [same]
      exact (buffers c).1
    · rw [idle]
      trivial
  · rw [h.now]
    exact (buffers c).2 f (withdraws_held_of_some h held)
  · refine (queue.ordered.sublist h.queue).imp_of_mem fun ha hb order => queueOrder_congr ?_ ?_ order
    · rw [withdraws_held_of_queued h ha]
    · rw [withdraws_held_of_queued h hb]
  · rw [withdraws_held_of_queued h queued]
    exact queue.queued c (h.queue.subset queued)
  · by_cases queued : c ∈ s.queue
    · exact h.left c f queued gone held
    · exact queue.unqueued c f (withdraws_held_of_some h held) queued

/-! ### Takes (R52, R53) -/

/-- What a take leaves of every channel's buffers, and of the priorities, the join orders and all else of the buffered
frames but their audit mark and their engines. -/
structure State.TakesLeave (s t : State) : Prop where
  buffers : ∀ c : Channel, t.buffers[c] = { s.buffers[c] with held := (t.buffers[c]).held }
  held : ∀ c : Channel, (t.buffers[c]).held.map Frame.untaken = (s.buffers[c]).held.map Frame.untaken

theorem takesLeave_refl (s : State) : s.TakesLeave s := ⟨fun _ => rfl, fun _ => rfl⟩

theorem takesLeave_trans (h : s.TakesLeave t) (k : t.TakesLeave u) : s.TakesLeave u :=
  ⟨fun c => by rw [k.buffers c, h.buffers c], fun c => (k.held c).trans (h.held c)⟩

theorem taken_at (s : State) (e : Engine) (c : Channel) (f : Frame) (marked : Bool) (role : AuditRole)
    (queue : List Channel) (audit : AuditUnit) (d : Channel) :
    (s.taken e c f marked role queue audit).buffers[d] = if d = c then { s.buffers[c] with
        held := some { f with audit := marked, engines := f.engines.set e true } }
      else s.buffers[d] := vector_getElem_set _ _ _ _

theorem taken_takesLeave {c : Channel} {f : Frame} (held : (s.buffers[c]).held = some f) (e : Engine) (marked : Bool)
    (role : AuditRole) (queue : List Channel) (audit : AuditUnit) :
    s.TakesLeave (s.taken e c f marked role queue audit) := by
  refine ⟨fun d => ?_, fun d => ?_⟩
  · rw [taken_at]
    split
    · next own => rw [own]
    · rfl
  · rw [taken_at]
    split
    · next own =>
      rw [own, held]
      rfl
    · rfl

theorem engineTake_takesLeave (s : State) (e : Engine) : s.TakesLeave (s.engineTake e) := by
  obtain nothing | ⟨c, f, -, -, -, -, held, take⟩ := engineTake_cases s e
  · rw [nothing]
    exact takesLeave_refl s
  · obtain ⟨marked, role, queue, audit, taken, -⟩ := takeFrame_taken s e c f
    rw [take, taken]
    exact taken_takesLeave held e _ _ _ _

theorem enginesTake_takesLeave (s : State) : s.TakesLeave s.enginesTake := by
  unfold State.enginesTake
  split
  · exact takesLeave_refl s
  · exact takesLeave_trans (engineTake_takesLeave s .e1) (engineTake_takesLeave _ .e2)

theorem afterJoins_takesLeave (s : State) : s.TakesLeave s.afterJoins := by
  unfold State.afterJoins
  split
  · exact enginesTake_takesLeave s
  · exact takesLeave_refl s

theorem buffersSound_of_takes (h : s.TakesLeave t) (now : t.now = s.now) (sound : s.BuffersSound) : t.BuffersSound := by
  refine fun c => ⟨?_, fun f held => ?_⟩
  · rw [h.buffers c]
    exact (sound c).1
  · have same := h.held c
    rw [held] at same
    obtain ⟨f', held', untaken⟩ := Option.map_eq_some_iff.1 same.symm
    have channel : f'.untaken.channel = f.untaken.channel := congrArg Frame.channel untaken
    have priority : f'.untaken.priority = f.untaken.priority := congrArg Frame.priority untaken
    have join : f'.untaken.joinOrder = f.untaken.joinOrder := congrArg Frame.joinOrder untaken
    rw [now]
    exact channel ▸ priority ▸ join ▸ (sound c).2 f' held'

/-- A take leaves the frame with the engine, and in the queue only where the other engine is to take it as well. -/
theorem taken_queueSound {e : Engine} {c : Channel} {f : Frame} {marked : Bool} {queue : List Channel}
    (held : (s.buffers[c]).held = some f) (role : AuditRole) (audit : AuditUnit) (sound : s.QueueSound)
    (stays : queue = s.queue.filter (fun d => d != c) ∨ queue = s.queue ∧ marked = true ∧ f.engines = ⟨false, false⟩) :
    (s.taken e c f marked role queue audit).QueueSound := by
  have leave := taken_takesLeave held e marked role queue audit
  have sub : queue.Sublist s.queue := by
    obtain rfl | ⟨rfl, -⟩ := stays
    · exact List.filter_sublist
    · exact List.Sublist.refl _
  have any : ((f.engines.set e true).e1 || (f.engines.set e true).e2) = true := by
    cases e with
    | e1 => exact Bool.true_or _
    | e2 => exact Bool.or_true _
  refine ⟨sound.nodup.sublist sub, ?_, fun d queued => ?_, fun d g held' gone => ?_⟩
  · exact (sound.ordered.sublist sub).imp fun order => queueOrder_congr (leave.held _) (leave.held _) order
  · rw [taken_at]
    split
    · next own =>
      subst own
      obtain rfl | ⟨-, marked, untaken⟩ := stays
      · simp [State.taken] at queued
      · refine ⟨_, rfl, .inr ⟨marked, ?_⟩⟩
        show (f.engines.set e true).e1 ≠ (f.engines.set e true).e2
        rw [untaken]
        cases e <;> decide
    · exact sound.queued d (sub.subset queued)
  · rw [taken_at] at held'
    split at held'
    · cases held'
      exact any
    · next ne =>
      refine sound.unqueued d g held' fun queued => gone ?_
      obtain same | ⟨same, -⟩ := stays
      · exact same ▸ List.mem_filter.2 ⟨queued, bne_iff_ne.2 ne⟩
      · exact same ▸ queued

theorem engineTake_framesSound (sound : s.FramesSound) (e : Engine) : (s.engineTake e).FramesSound := by
  obtain ⟨buffers, queue⟩ := sound
  refine ⟨buffersSound_of_takes (engineTake_takesLeave s e) (engineTake_changes s e .now (by decide)) buffers, ?_⟩
  obtain nothing | ⟨c, f, -, -, queued, -, held, take⟩ := engineTake_cases s e
  · rw [nothing]
    exact queue
  · obtain ⟨marked, role, rest, audit, taken, second, first⟩ := takeFrame_taken s e c f
    rw [take, taken]
    refine taken_queueSound held role audit queue ?_
    obtain ⟨g, held', kind⟩ := queue.queued c queued
    obtain rfl : g = f := Option.some.inj (held'.symm.trans held)
    obtain ⟨unmarked, untaken⟩ | ⟨marked_, -⟩ := kind
    · obtain ⟨mark, -, rest, -⟩ := first unmarked
      split at rest
      · next marks => exact .inr ⟨rest, by rw [mark, marks]; rfl, untaken⟩
      · exact .inl rest
    · exact .inl (second marked_).2.2.1

theorem enginesTake_framesSound (sound : s.FramesSound) : s.enginesTake.FramesSound := by
  unfold State.enginesTake
  split
  · exact sound
  · exact engineTake_framesSound (engineTake_framesSound sound .e1) .e2

theorem afterJoins_framesSound (sound : s.FramesSound) : s.afterJoins.FramesSound := by
  unfold State.afterJoins
  split
  · exact enginesTake_framesSound sound
  · exact sound

/-! ### The close of a frame (R25, R27, R28) -/

theorem joinQueue_at (s : State) (f : Frame) (d : Channel) : (s.joinQueue f).buffers[d] =
    if d = f.channel then { s.buffers[f.channel] with held := some { f with joinOrder := 16 * s.now + f.channel.val } }
    else s.buffers[d] := vector_getElem_set _ _ _ _

/-- A close touches no other channel. -/
theorem closeFrame_at_ne (s : State) {f : Frame} {d : Channel} (ne : d ≠ f.channel) :
    (s.closeFrame f).buffers[d] = s.buffers[d] := by
  cases held : (s.buffers[f.channel]).held with
  | none => rw [closeFrame_of_held_none held, joinQueue_at, if_neg ne, setBuffers_at_ne s ne]
  | some old =>
    cases taken : old.engines.e1 || old.engines.e2 with
    | true => rw [closeFrame_of_taken held taken, setBuffers_at_ne s ne]
    | false => rw [closeFrame_of_untaken held taken, joinQueue_at, if_neg ne, superseded_buffers, if_neg ne]

/-- Of the channel's own buffers a close writes the held buffer and the counters. -/
theorem closeFrame_at_self (s : State) (f : Frame) : (s.closeFrame f).buffers[f.channel] = { s.buffers[f.channel] with
    held := ((s.closeFrame f).buffers[f.channel]).held
    counters := ((s.closeFrame f).buffers[f.channel]).counters } := by
  cases held : (s.buffers[f.channel]).held with
  | none => rw [closeFrame_of_held_none held, joinQueue_at, if_pos rfl, setBuffers_at]
  | some old =>
    cases taken : old.engines.e1 || old.engines.e2 with
    | true => rw [closeFrame_of_taken held taken, setBuffers_at]
    | false => rw [closeFrame_of_untaken held taken, joinQueue_at, if_pos rfl, superseded_buffers, if_pos rfl]

theorem closeFrame_fill (s : State) (f : Frame) (d : Channel) :
    ((s.closeFrame f).buffers[d]).fill = (s.buffers[d]).fill := by
  by_cases own : d = f.channel
  · rw [own, closeFrame_at_self]
  · rw [closeFrame_at_ne s own]

theorem closeFrame_now (s : State) (f : Frame) : (s.closeFrame f).now = s.now := closeFrame_changes s f .now (by decide)

theorem priorityOf_le (s : State) (c : Channel) : s.priorityOf c ≤ 3 := Nat.min_le_left _ _

/-- A frame with no engine joins at its own place in the queue. -/
theorem joinsAt_framesSound {f : Frame} {queue : List Channel} (joins : s.JoinsAt t f queue)
    (rest : queue = s.queue.filter (fun d => d != f.channel)) (now : t.now = s.now)
    (fills : ∀ d : Channel, (t.buffers[d]).fill = (s.buffers[d]).fill)
    (others : ∀ d : Channel, d ≠ f.channel → t.buffers[d] = s.buffers[d]) (unmarked : f.audit = false)
    (untaken : f.engines = ⟨false, false⟩) (sound : s.FramesSound) : t.FramesSound := by
  obtain ⟨buffers, queueSound⟩ := sound
  obtain ⟨ahead, behind, parts, place, before, after, -, own⟩ := joins
  have elsewhere : ∀ d ∈ ahead ++ behind, d ∈ s.queue ∧ d ≠ f.channel := fun d hd => by
    rw [← parts, rest, List.mem_filter] at hd
    exact ⟨hd.1, bne_iff_ne.1 hd.2⟩
  have mem : ∀ d, d ∈ t.queue ↔ d = f.channel ∨ d ∈ s.queue := fun d => by
    have : d ∈ ahead ++ behind ↔ d ∈ s.queue ∧ d ≠ f.channel := by rw [← parts, rest, List.mem_filter, bne_iff_ne]
    rw [List.mem_append] at this
    rw [place, List.mem_append, List.mem_cons]
    tauto
  have ordered : (ahead ++ behind).Pairwise t.queueOrder := by
    rw [← parts, rest]
    refine (queueSound.ordered.filter _).imp_of_mem fun ha hb order => ?_
    have neA := bne_iff_ne.1 (List.mem_filter.1 ha).2
    have neB := bne_iff_ne.1 (List.mem_filter.1 hb).2
    exact queueOrder_congr (by rw [others _ neA]) (by rw [others _ neB]) order
  have nodup : (ahead ++ behind).Nodup := by
    rw [← parts, rest]
    exact queueSound.nodup.filter _
  have ownPriority : t.heldPriority f.channel = s.priorityOf f.channel := by rw [State.heldPriority, own]
  have ownJoin : t.heldJoin f.channel = 16 * s.now + f.channel.val := by rw [State.heldJoin, own]
  have priority : ∀ d, d ≠ f.channel → t.heldPriority d = s.heldPriority d := fun d ne => by
    rw [State.heldPriority, others d ne, State.heldPriority]
  have join : ∀ d, d ≠ f.channel → t.heldJoin d = s.heldJoin d := fun d ne => by
    rw [State.heldJoin, others d ne, State.heldJoin]
  have strict : ∀ d ∈ behind, s.heldJoin d ≠ 16 * s.now + f.channel.val := fun d hd same => by
    obtain ⟨queued, ne⟩ := elsewhere d (List.mem_append_right _ hd)
    obtain ⟨g, held, -⟩ := queueSound.queued d queued
    obtain ⟨-, -, number, -⟩ := (buffers d).2 g held
    have same : g.joinOrder = 16 * s.now + f.channel.val := by rwa [State.heldJoin, held] at same
    have below := f.channel.isLt
    exact ne (Fin.ext (by omega))
  refine ⟨fun d => ⟨fills d ▸ (buffers d).1, fun g held => ?_⟩, ⟨?_, ?_, fun d queued => ?_, fun d g held gone => ?_⟩⟩
  · by_cases ne : d = f.channel
    · subst ne
      rw [own] at held
      cases held
      have below := f.channel.isLt
      refine ⟨rfl, priorityOf_le s _, ?_, ?_⟩ <;> simp only [now] <;> omega
    · rw [others d ne] at held
      rw [now]
      exact (buffers d).2 g held
  · rw [place]
    refine List.nodup_middle.2 (List.nodup_cons.2 ⟨fun own => (elsewhere _ own).2 rfl, nodup⟩)
  · rw [place]
    obtain ⟨first, second, between⟩ := List.pairwise_append.1 ordered
    refine List.pairwise_append.2 ⟨first, List.pairwise_cons.2 ⟨fun d hd => ?_, second⟩, fun d hd d' hd' => ?_⟩
    · obtain ⟨-, ne⟩ := elsewhere d (List.mem_append_right _ hd)
      rw [ownPriority, ownJoin, priority d ne, join d ne]
      obtain lower | ⟨same, later⟩ := after d hd
      · exact .inl lower
      · exact .inr ⟨same.symm, Nat.lt_of_le_of_ne later (strict d hd).symm⟩
    · obtain rfl | hd' := List.mem_cons.1 hd'
      · obtain ⟨-, ne⟩ := elsewhere d (List.mem_append_left _ hd)
        have := before d hd
        rw [ownPriority, ownJoin, priority d ne, join d ne]
        omega
      · exact between d hd d' hd'
  · by_cases ne : d = f.channel
    · subst ne
      exact ⟨_, own, .inl ⟨unmarked, untaken⟩⟩
    · rw [others d ne]
      exact queueSound.queued d (((mem d).1 queued).resolve_left ne)
  · have ne : d ≠ f.channel := fun own => gone ((mem d).2 (.inl own))
    rw [others d ne] at held
    exact queueSound.unqueued d g held fun queued => gone ((mem d).2 (.inr queued))

theorem closeFrame_framesSound {f : Frame} (unclosed : f.Unclosed f.channel) (sound : s.FramesSound) :
    (s.closeFrame f).FramesSound := by
  obtain ⟨-, unmarked, untaken⟩ := unclosed
  have joins : ∀ queue, s.JoinsAt (s.closeFrame f) f queue → queue = s.queue.filter (fun d => d != f.channel) →
      (s.closeFrame f).FramesSound := fun queue joins rest =>
    joinsAt_framesSound joins rest (closeFrame_now s f) (closeFrame_fill s f) (fun d ne => closeFrame_at_ne s ne)
      unmarked untaken sound
  obtain ⟨-, queue⟩ := id sound
  cases held : (s.buffers[f.channel]).held with
  | none =>
    have fresh : f.channel ∉ s.queue := fun queued => by
      obtain ⟨g, isSome, -⟩ := queue.queued _ queued
      exact absurd (held.symm.trans isSome) nofun
    refine joins _ (closeFrame_joins_of_held_none held fresh queue.ordered)
      (List.filter_eq_self.2 fun d hd => bne_iff_ne.2 ?_).symm
    rintro rfl
    exact fresh hd
  | some old =>
    cases taken : old.engines.e1 || old.engines.e2 with
    | true =>
      rw [closeFrame_of_taken held taken]
      exact withdraws_framesSound (setBuffers_withdraws rfl (.inl rfl)) sound
    | false => exact joins _ (closeFrame_joins_of_untaken held taken queue.ordered) rfl

/-! ### Filling buffers (R21 to R24) -/

/-- What the assembler does in one go: it writes filling buffers with frames of their channels that have not closed, or it
writes one and the frame that has left it closes. -/
inductive State.Assembles (s : State) : State → Prop where
  | fills {t : State} (now : t.now = s.now) (queue : t.queue = s.queue) (lastJoin : t.lastJoin = s.lastJoin)
      (engines : t.engines = s.engines) (held : ∀ c : Channel, (t.buffers[c]).held = (s.buffers[c]).held)
      (sound : ∀ c : Channel, (s.buffers[c]).fill.Sound c → (t.buffers[c]).fill.Sound c) : s.Assembles t
  | closes {c : Channel} {b : Buffers} {f : Frame} (held : b.held = (s.buffers[c]).held)
      (sound : (s.buffers[c]).fill.Sound c → b.fill.Sound c ∧ f.Unclosed c) :
      s.Assembles ((s.setBuffers c b).closeFrame f)

/-- `t` is reached from `s` by what the assembler does. -/
abbrev State.Assembled (s t : State) : Prop := Relation.ReflTransGen State.Assembles s t

theorem assembled_trans (h : s.Assembled t) (k : t.Assembled u) : s.Assembled u := Relation.ReflTransGen.trans h k

theorem assembled_of_changes {A : List Part} (h : State.ChangesOnly A s t)
    (apart : ∀ p ∈ [Part.now, .buffers, .queue, .lastJoin, .engines], p ∉ A) : s.Assembled t := by
  have buffers : t.buffers = s.buffers := h .buffers (apart _ (by decide))
  exact .single (.fills (h .now (apart _ (by decide))) (h .queue (apart _ (by decide)))
    (h .lastJoin (apart _ (by decide))) (h .engines (apart _ (by decide))) (fun c => by rw [buffers])
    (fun c sound => by rw [buffers]; exact sound))

theorem assembles_framesSound (h : s.Assembles t) (sound : s.FramesSound) : t.FramesSound := by
  have fills : ∀ {t : State}, t.now = s.now → t.queue = s.queue →
      (∀ c : Channel, (t.buffers[c]).held = (s.buffers[c]).held) →
      (∀ c : Channel, (s.buffers[c]).fill.Sound c → (t.buffers[c]).fill.Sound c) → t.FramesSound := by
    intro t now queue held fills
    obtain ⟨buffers, queueSound⟩ := sound
    refine ⟨fun c => ⟨fills c (buffers c).1, fun f isSome => ?_⟩, ⟨queue ▸ queueSound.nodup, ?_, fun c queued => ?_,
      fun c f isSome gone => ?_⟩⟩
    · rw [now]
      exact (buffers c).2 f (held c ▸ isSome)
    · rw [queue]
      exact queueSound.ordered.imp fun order => queueOrder_congr (by rw [held]) (by rw [held]) order
    · rw [held]
      exact queueSound.queued c (queue ▸ queued)
    · exact queueSound.unqueued c f (held c ▸ isSome) (queue ▸ gone)
  cases h with
  | fills now queue lastJoin engines held sound => exact fills now queue held sound
  | @closes c b f held keeps =>
    obtain ⟨fill, rfl, unclosed⟩ := keeps (sound.1 c).1
    refine closeFrame_framesSound ⟨rfl, unclosed⟩ (fills rfl rfl (fun d => ?_) (fun d same => ?_))
    · rw [setBuffers_buffers, vector_getElem_set]
      split
      · next own => rw [held, own]
      · rfl
    · rw [setBuffers_buffers, vector_getElem_set]
      split
      · next own => exact own ▸ fill
      · exact same

theorem assembled_framesSound (h : s.Assembled t) (sound : s.FramesSound) : t.FramesSound := by
  induction h with
  | refl => exact sound
  | tail _ last ih => exact assembles_framesSound last ih

/-- One filling buffer is written. -/
theorem setBuffers_assembled {c : Channel} {b : Buffers} (held : b.held = (s.buffers[c]).held)
    (fill : (s.buffers[c]).fill.Sound c → b.fill.Sound c) : s.Assembled (s.setBuffers c b) := by
  refine .single (.fills rfl rfl rfl rfl (fun d => ?_) (fun d same => ?_))
  · rw [setBuffers_buffers, vector_getElem_set]
    split
    · next own => rw [held, own]
    · rfl
  · rw [setBuffers_buffers, vector_getElem_set]
    split
    · next own =>
      subst own
      exact fill same
    · exact same

theorem endFrame_assembled (s : State) (r : Ref) (o : Outcome) (c : Channel) : s.Assembled (s.endFrame r o c) := by
  unfold State.endFrame
  dsimp only
  split
  · next f filling =>
    have own : (s.buffers[c]).fill.Sound c → f.Unclosed c := fun sound => by
      rw [filling] at sound
      exact sound
    repeat' split
    · exact setBuffers_assembled rfl fun _ => trivial
    · exact .single (.closes rfl fun sound => ⟨trivial, own sound⟩)
    · exact setBuffers_assembled rfl own
    · exact .single (.closes rfl fun sound => ⟨trivial, own sound⟩)
    · exact setBuffers_assembled rfl own
    · exact .refl
  · exact .refl
  · exact .refl

theorem endCycleFrames_assembled (s : State) (r : Ref) (o : Outcome) : s.Assembled (s.endCycleFrames r o) := by
  unfold State.endCycleFrames
  generalize List.finRange 16 = cs
  induction cs generalizing s with
  | nil => exact .refl
  | cons c cs ih => exact assembled_trans (endFrame_assembled s r o c) (ih _)

/-- A frame that starts waits behind a closing one, or fills (R21). -/
theorem start_sound {c : Channel} {f : Frame} {fill : FillBuffer} (unclosed : f.Unclosed c) (sound : fill.Sound c) :
    (fill.start f).Sound c := by
  match fill with
  | .idle => exact unclosed
  | .filling old => exact sound
  | .closing old none => exact ⟨sound, unclosed⟩
  | .closing old (some p) => exact sound

theorem startFrames_at (s : State) (r : Ref) (cycle : Word) (c : Channel) : (s.startFrames r cycle).buffers[c] =
    if s.usesRef r c then { s.buffers[c] with fill := s.buffers[c].fill.start (s.newFrame c r cycle) }
    else s.buffers[c] := Vector.getElem_ofFn _

theorem startFrames_assembled (s : State) (r : Ref) (cycle : Word) : s.Assembled (s.startFrames r cycle) := by
  have changes := startFrames_changes s r cycle
  refine .single (.fills (changes .now (by decide)) (changes .queue (by decide)) (changes .lastJoin (by decide))
    (changes .engines (by decide)) (fun c => ?_) (fun c fill => ?_))
  · rw [startFrames_at]
    split <;> rfl
  · rw [startFrames_at]
    split
    · exact start_sound ⟨rfl, rfl, rfl⟩ fill
    · exact fill

theorem startCycle_assembled (s : State) (r : Ref) (st : Tick) : s.Assembled (s.startCycle r st) := by
  unfold State.startCycle
  dsimp only
  exact assembled_trans (assembled_of_changes (setTracker_changes s r _) (by decide))
    (assembled_trans (startFrames_assembled _ r _)
      (assembled_trans (assembled_of_changes (countQuiet_changes _ r) (by decide))
        (assembled_trans (assembled_of_changes (armConverters_changes _ r) (by decide))
          (assembled_of_changes (issueStrobe_changes _ r 0) (by decide)))))

theorem setTracker_startCycle_assembled (s : State) (r : Ref) (x : Tracker) (st : Tick) :
    s.Assembled ((s.setTracker r x).startCycle r st) :=
  assembled_trans (assembled_of_changes (setTracker_changes s r _) (by decide)) (startCycle_assembled _ r st)

theorem raiseSync_assembled (s : State) (r : Ref) (old new : TrackerMode) : s.Assembled (s.raiseSync r old new) :=
  assembled_of_changes (raiseSync_changes s r old new) (by decide)

theorem lockEvent_assembled (s : State) (r : Ref) : s.Assembled (s.lockEvent r) :=
  assembled_of_changes (lockEvent_changes s r) (by decide)

theorem acceptEdge_assembled (s : State) (r : Ref) (e : Tick) : s.Assembled (s.acceptEdge r e) := by
  have writes : ∀ x, s.Assembled (s.setTracker r x) := fun x =>
    assembled_of_changes (setTracker_changes s r x) (by decide)
  cases class_ : classify (s.trackers.get r).previousEdge e with
  | first =>
    rw [acceptEdge_of_outside (.inl class_)]
    exact writes _
  | late =>
    rw [acceptEdge_of_outside (.inr class_)]
    exact writes _
  | spurious =>
    rw [acceptEdge_of_spurious class_]
    exact writes _
  | inWindow interval =>
    rw [acceptEdge_of_inWindow class_]
    cases (s.trackers.get r).mode with
    | seeking =>
      exact assembled_trans (writes _) (assembled_trans (setTracker_startCycle_assembled _ r _ e)
        (assembled_trans (raiseSync_assembled _ r _ _) (lockEvent_assembled _ r)))
    | locked =>
      exact assembled_trans (writes _) (assembled_trans (endCycleFrames_assembled _ r _)
        (setTracker_startCycle_assembled _ r _ e))
    | holding =>
      exact assembled_trans (writes _) (assembled_trans (endCycleFrames_assembled _ r _)
        (assembled_trans (setTracker_startCycle_assembled _ r _ e) (raiseSync_assembled _ r _ _)))

theorem expireDeadline_assembled (s : State) (r : Ref) : s.Assembled (s.expireDeadline r) :=
  assembled_trans (endCycleFrames_assembled s r _)
    (assembled_trans (setTracker_startCycle_assembled _ r _ _) (raiseSync_assembled _ r _ _))

theorem endHeldCycle_assembled (s : State) (r : Ref) : s.Assembled (s.endHeldCycle r) := by
  unfold State.endHeldCycle
  dsimp only
  refine assembled_trans (endCycleFrames_assembled s r .held) ?_
  split
  · exact assembled_trans (assembled_of_changes (setTracker_changes _ r _) (by decide))
      (assembled_trans (raiseSync_assembled _ r _ _) (lockEvent_assembled _ r))
  · exact setTracker_startCycle_assembled _ r _ _

theorem enter_unclosed {c : Channel} {p : PendingStart} (h : p.frame.Unclosed c) : p.enter.Unclosed c := by
  unfold PendingStart.enter
  split <;> exact h

theorem closing_sound_iff (f : Frame) (next : Option PendingStart) (c : Channel) :
    (FillBuffer.closing f next).Sound c ↔ f.Unclosed c ∧ ∀ p, next = some p → p.frame.Unclosed c := by
  cases next with
  | none => exact ⟨fun sound => ⟨sound, nofun⟩, fun sound => sound.1⟩
  | some p => exact ⟨fun sound => ⟨sound.1, fun q same => by cases same; exact sound.2⟩,
      fun sound => ⟨sound.1, sound.2 p rfl⟩⟩

theorem writeSample_assembled (s : State) (c : Channel) (v : Conversion) (x : Sample) :
    s.Assembled (s.writeSample c v x) := by
  unfold State.writeSample
  dsimp only
  split
  · exact .refl
  · next f filling =>
    split
    · refine setBuffers_assembled rfl fun sound => ?_
      rw [filling] at sound
      exact sound
    · exact .refl
  · next f next_ closing =>
    have own : (s.buffers[c]).fill.Sound c → f.Unclosed c ∧ ∀ p, next_ = some p → p.frame.Unclosed c := fun sound => by
      rw [closing] at sound
      exact (closing_sound_iff f next_ c).1 sound
    split
    · split
      · refine .single (.closes rfl fun sound => ?_)
        obtain ⟨closes, waits⟩ := own sound
        refine ⟨?_, closes⟩
        cases next_ with
        | none => trivial
        | some p => exact enter_unclosed (waits p rfl)
      · exact setBuffers_assembled rfl fun sound => (closing_sound_iff (f.put v.slot x) next_ c).2 (own sound)
    · split
      · next p =>
        split
        · refine setBuffers_assembled rfl fun sound => (closing_sound_iff f _ c).2 ?_
          obtain ⟨closes, waits⟩ := own sound
          refine ⟨closes, fun q same => ?_⟩
          cases same
          exact waits p rfl
        · exact .refl
      · exact .refl

theorem arriveSample_assembled (s : State) (c : Channel) (v : Conversion) (analog : Int) :
    s.Assembled (s.arriveSample c v analog) := by
  unfold State.arriveSample
  dsimp only
  split
  · exact assembled_trans (assembled_of_changes (setConverter_changes s c _) (by decide)) (writeSample_assembled _ c v _)
  · exact assembled_of_changes (setConverter_changes s c _) (by decide)

/-! ### Every event -/

/-- An engine is on its way out or back in, or its result is routed: frames leave, and then the engines may take. -/
theorem serviceIn_framesSound (sound : s.FramesSound) (e : Engine) : (s.serviceIn e).FramesSound := by
  have enters : ∀ b, (s.serviceChanged e .inService b).FramesSound := fun b =>
    withdraws_framesSound (s := s) (withdraws_of_same rfl rfl rfl) sound
  cases service : (s.engines.get e).service with
  | inService =>
    rw [serviceIn_of_inService service]
    exact sound
  | stopping =>
    rw [serviceIn_of_stopping service]
    exact enters _
  | out =>
    rw [serviceIn_of_out service]
    exact enginesTake_framesSound (enters _)

theorem routed_withdraws (s : State) (e : Engine) (h : Hand) (own : Figures) : s.Withdraws (s.routed e h own) :=
  withdraws_trans (withdraws_of_changes (setEngine_changes s e _) (by decide)) (routeResult_withdraws _ e _ _)

theorem completeTransform_framesSound (sound : s.FramesSound) (e : Engine) (h : Hand) (wrong : Option Figures) :
    (s.completeTransform e h wrong).FramesSound := by
  let own := wrong.getD (transform h.frame.values)
  show ((s.routed e h own).afterCompletion e).FramesSound
  have routed := withdraws_framesSound (routed_withdraws s e h own) sound
  by_cases stopping : ((s.routed e h own).engines.get e).service = .stopping
  · rw [afterCompletion_of_stopping stopping]
    exact withdraws_framesSound (s := s.routed e h own) (withdraws_of_same rfl rfl rfl) routed
  · rw [afterCompletion_of_not_stopping stopping]
    exact enginesTake_framesSound routed

/-- Time passes: no frame and no place in the queue changes. -/
theorem tick_framesSound (idle : s.anyDue = false) (sound : s.FramesSound) : s.tick.FramesSound := by
  obtain ⟨buffers, queue⟩ := sound
  rw [tick_of_not_due idle]
  refine ⟨fun c => ⟨(buffers c).1, fun f held => ?_⟩, ⟨queue.nodup, queue.ordered, queue.queued, queue.unqueued⟩⟩
  obtain ⟨channel, level, number, reached⟩ := (buffers c).2 f held
  exact ⟨channel, level, number, Nat.le_succ_of_le reached⟩

theorem event_framesSound (event : s.Event t) (sound : s.FramesSound) : t.FramesSound := by
  have leaves : ∀ {t : State}, s.Withdraws t → t.FramesSound := fun h => withdraws_framesSound h sound
  have assembles : ∀ {t : State}, s.Assembled t → t.FramesSound := fun h => assembled_framesSound h sound
  cases event with
  | apart changes => exact leaves (withdraws_of_changes changes (by decide))
  | empties changes buffers =>
    exact leaves (withdraws_of_fills (changes .now (by decide)) (changes .queue (by decide)) buffers)
  | countersCleared r => exact leaves (withdraws_of_changes (setTracker_changes s r _) (by decide))
  | sample r high =>
    exact afterJoins_framesSound (leaves (withdraws_of_changes (sampleInput_changes s r high) (by decide)))
  | edge r e => exact afterJoins_framesSound (assembles (acceptEdge_assembled s r e))
  | deadline => exact afterJoins_framesSound (assembles (expireDeadline_assembled s _))
  | heldEnd => exact afterJoins_framesSound (assembles (endHeldCycle_assembled s _))
  | strobe r => exact leaves (withdraws_of_changes (nextStrobe_changes s r) (by decide))
  | arrival c v analog => exact afterJoins_framesSound (assembles (arriveSample_assembled s c v analog))
  | completion wrong hand => exact completeTransform_framesSound sound _ _ wrong
  | serviceOut e => exact leaves (serviceOut_withdraws s e)
  | serviceIn e => exact serviceIn_framesSound sound e
  | faultsCleared => exact leaves (withdraws_of_changes (clearFaults_changes s) (by decide))
  | channelEmptied c => exact leaves (emptyChannel_withdraws s c)
  | disarmed c => exact leaves (withdraws_of_changes (setConverter_changes s c _) (by decide))
  | tick idle => exact tick_framesSound idle sound

/-! ### Conversions (R17) -/

/-- Between `s` and `t` conversions have ended, or have begun at the present tick. -/
structure State.ConversionsGoOn (s t : State) : Prop where
  now : t.now = s.now
  inFlight : ∀ (c : Channel) v, v ∈ (t.converters[c]).inFlight →
    v.issued = s.now ∨ ∃ w ∈ (s.converters[c]).inFlight, w.issued = v.issued

theorem conversionsGoOn_trans (h : s.ConversionsGoOn t) (k : t.ConversionsGoOn u) : s.ConversionsGoOn u := by
  refine ⟨k.now.trans h.now, fun c v hv => ?_⟩
  obtain now | ⟨w, hw, same⟩ := k.inFlight c v hv
  · exact .inl (now.trans h.now)
  · exact same ▸ h.inFlight c w hw

theorem conversionsGoOn_of_same (now : t.now = s.now) (converters : t.converters = s.converters) :
    s.ConversionsGoOn t := ⟨now, fun c v hv => .inr ⟨v, by rwa [converters] at hv, rfl⟩⟩

theorem conversionsGoOn_of_changes {A : List Part} (h : State.ChangesOnly A s t)
    (apart : ∀ p ∈ [Part.now, .converters], p ∉ A) : s.ConversionsGoOn t :=
  conversionsGoOn_of_same (h .now (apart _ (by decide))) (h .converters (apart _ (by decide)))

theorem setConverter_goesOn {c : Channel} {x : Converter}
    (inFlight : ∀ v ∈ x.inFlight, ∃ w ∈ (s.converters[c]).inFlight, w.issued = v.issued) :
    s.ConversionsGoOn (s.setConverter c x) := by
  refine ⟨rfl, fun d v hv => .inr ?_⟩
  rw [setConverter_converters, vector_getElem_set] at hv
  split at hv
  · next own =>
    subst own
    exact inFlight v hv
  · exact ⟨v, hv, rfl⟩

theorem armConverters_at (s : State) (r : Ref) (c : Channel) : (s.armConverters r).converters[c] =
    if s.usesRef r c then { s.converters[c] with armed := true, latched := s.sources[c] } else s.converters[c] :=
  Vector.getElem_ofFn _

theorem issueStrobe_at (s : State) (r : Ref) (k : Slot) (c : Channel) : (s.issueStrobe r k).converters[c] =
    if s.usesRef r c && s.converters[c].armed then { s.converters[c] with
      inFlight := s.converters[c].inFlight ++ [⟨(s.trackers.get r).cycle, k, s.converters[c].latched, s.now, true⟩] }
    else s.converters[c] := Vector.getElem_ofFn _

theorem armConverters_goesOn (s : State) (r : Ref) : s.ConversionsGoOn (s.armConverters r) := by
  refine ⟨rfl, fun c v hv => .inr ⟨v, ?_, rfl⟩⟩
  rw [armConverters_at] at hv
  split at hv <;> exact hv

theorem issueStrobe_goesOn (s : State) (r : Ref) (k : Slot) : s.ConversionsGoOn (s.issueStrobe r k) := by
  refine ⟨rfl, fun c v hv => ?_⟩
  rw [issueStrobe_at] at hv
  split at hv
  · obtain old | new := List.mem_append.1 hv
    · exact .inr ⟨v, old, rfl⟩
    · rw [List.mem_singleton.1 new]
      exact .inl rfl
  · exact .inr ⟨v, hv, rfl⟩

theorem startCycle_goesOn (s : State) (r : Ref) (st : Tick) : s.ConversionsGoOn (s.startCycle r st) := by
  unfold State.startCycle
  dsimp only
  exact conversionsGoOn_trans (conversionsGoOn_trans (conversionsGoOn_trans
    (conversionsGoOn_of_changes (setTracker_changes s r _) (by decide))
    (conversionsGoOn_trans (conversionsGoOn_of_changes (startFrames_changes _ r _) (by decide))
      (conversionsGoOn_of_changes (countQuiet_changes _ r) (by decide))))
    (armConverters_goesOn _ r)) (issueStrobe_goesOn _ r 0)

theorem endCycleFrames_goesOn (s : State) (r : Ref) (o : Outcome) : s.ConversionsGoOn (s.endCycleFrames r o) :=
  conversionsGoOn_of_changes (endCycleFrames_changes s r o) (by decide)

theorem raiseSync_goesOn (s : State) (r : Ref) (old new : TrackerMode) : s.ConversionsGoOn (s.raiseSync r old new) :=
  conversionsGoOn_of_changes (raiseSync_changes s r old new) (by decide)

theorem lockEvent_goesOn (s : State) (r : Ref) : s.ConversionsGoOn (s.lockEvent r) :=
  conversionsGoOn_of_changes (lockEvent_changes s r) (by decide)

theorem setTracker_goesOn (s : State) (r : Ref) (x : Tracker) : s.ConversionsGoOn (s.setTracker r x) :=
  conversionsGoOn_of_changes (setTracker_changes s r x) (by decide)

theorem acceptEdge_goesOn (s : State) (r : Ref) (e : Tick) : s.ConversionsGoOn (s.acceptEdge r e) := by
  cases class_ : classify (s.trackers.get r).previousEdge e with
  | first =>
    rw [acceptEdge_of_outside (.inl class_)]
    exact setTracker_goesOn s r _
  | late =>
    rw [acceptEdge_of_outside (.inr class_)]
    exact setTracker_goesOn s r _
  | spurious =>
    rw [acceptEdge_of_spurious class_]
    exact setTracker_goesOn s r _
  | inWindow interval =>
    rw [acceptEdge_of_inWindow class_]
    have starts : ∀ (u : State) x, u.ConversionsGoOn ((u.setTracker r x).startCycle r e) := fun u x =>
      conversionsGoOn_trans (setTracker_goesOn u r x) (startCycle_goesOn _ r e)
    refine conversionsGoOn_trans (setTracker_goesOn s r ((s.trackers.get r).edgeTaken e)) ?_
    cases (s.trackers.get r).mode with
    | seeking =>
      exact conversionsGoOn_trans (starts _ _) (conversionsGoOn_trans (raiseSync_goesOn _ r _ _) (lockEvent_goesOn _ r))
    | locked => exact conversionsGoOn_trans (endCycleFrames_goesOn _ r _) (starts _ _)
    | holding =>
      exact conversionsGoOn_trans (endCycleFrames_goesOn _ r _)
        (conversionsGoOn_trans (starts _ _) (raiseSync_goesOn _ r _ _))

theorem expireDeadline_goesOn (s : State) (r : Ref) : s.ConversionsGoOn (s.expireDeadline r) :=
  conversionsGoOn_trans (endCycleFrames_goesOn s r _) (conversionsGoOn_trans (setTracker_goesOn _ r _)
    (conversionsGoOn_trans (startCycle_goesOn _ r _) (raiseSync_goesOn _ r _ _)))

theorem endHeldCycle_goesOn (s : State) (r : Ref) : s.ConversionsGoOn (s.endHeldCycle r) := by
  unfold State.endHeldCycle
  dsimp only
  refine conversionsGoOn_trans (endCycleFrames_goesOn s r .held) ?_
  split
  · exact conversionsGoOn_trans (setTracker_goesOn _ r _)
      (conversionsGoOn_trans (raiseSync_goesOn _ r _ _) (lockEvent_goesOn _ r))
  · exact conversionsGoOn_trans (setTracker_goesOn _ r _) (startCycle_goesOn _ r _)

theorem nextStrobe_goesOn (s : State) (r : Ref) : s.ConversionsGoOn (s.nextStrobe r) := by
  unfold State.nextStrobe
  dsimp only
  repeat' split
  · exact conversionsGoOn_trans (setTracker_goesOn s r _) (issueStrobe_goesOn _ r _)
  · exact conversionsGoOn_of_same rfl rfl
  · exact conversionsGoOn_of_same rfl rfl

theorem arriveSample_goesOn (s : State) (c : Channel) (v : Conversion) (analog : Int) :
    s.ConversionsGoOn (s.arriveSample c v analog) := by
  have ends : s.ConversionsGoOn (s.setConverter c { s.converters[c] with
      inFlight := s.converters[c].inFlight.erase v }) :=
    setConverter_goesOn fun w hw => ⟨w, List.mem_of_mem_erase hw, rfl⟩
  unfold State.arriveSample
  dsimp only
  split
  · exact conversionsGoOn_trans ends (conversionsGoOn_of_changes (writeSample_changes _ c v _) (by decide))
  · exact ends

theorem emptyChannel_conversions (s : State) (c : Channel) : s.ConversionsGoOn (s.emptyChannel c) := by
  unfold State.emptyChannel
  dsimp only
  refine conversionsGoOn_trans (conversionsGoOn_trans
    (conversionsGoOn_of_changes (setBuffers_changes s c _) (by decide)) (setConverter_goesOn fun v hv => ?_))
    (conversionsGoOn_trans (conversionsGoOn_of_changes (removeBuffered_changes _ c) (by decide))
      (conversionsGoOn_of_changes (setRecord_changes _ c none) (by decide)))
  obtain ⟨w, hw, rfl⟩ := List.mem_map.1 hv
  exact ⟨w, hw, rfl⟩

theorem conversionsInTime_of_goesOn (h : s.ConversionsGoOn t) (sound : s.ConversionsInTime) : t.ConversionsInTime := by
  intro c v hv
  rw [h.now]
  obtain now | ⟨w, hw, same⟩ := h.inFlight c v hv
  · rw [now]
    exact ⟨Nat.le_refl _, Nat.le_add_right _ _⟩
  · exact same ▸ sound c w hw

theorem tick_conversionsInTime (idle : s.anyDue = false) (sound : s.ConversionsInTime) : s.tick.ConversionsInTime := by
  obtain ⟨-, arrivals, -⟩ := not_due_of_idle idle
  rw [tick_of_not_due idle]
  intro c v hv
  have hv : v ∈ (s.converters[c]).inFlight := hv
  obtain ⟨reached, within⟩ := sound c v hv
  have notDue : v.issued + conversionTicks ≠ s.now := fun due =>
    absurd (arrivals c) (by simpa [State.arrivalDue] using ⟨v, hv, due⟩)
  exact ⟨Nat.le_succ_of_le reached, Nat.succ_le_of_lt (Nat.lt_of_le_of_ne within notDue.symm)⟩

theorem event_conversionsInTime (event : s.Event t) (sound : s.ConversionsInTime) : t.ConversionsInTime := by
  have goesOn : ∀ {u : State}, s.ConversionsGoOn u → u.ConversionsInTime := fun h => conversionsInTime_of_goesOn h sound
  have joins : ∀ {u : State}, u.ConversionsInTime → u.afterJoins.ConversionsInTime := fun {u} h =>
    conversionsInTime_of_goesOn (conversionsGoOn_of_changes (afterJoins_changes u) (by decide)) h
  cases event with
  | apart changes => exact goesOn (conversionsGoOn_of_changes changes (by decide))
  | empties changes => exact goesOn (conversionsGoOn_of_changes changes (by decide))
  | countersCleared r => exact goesOn (setTracker_goesOn s r _)
  | sample r high => exact joins (goesOn (setTracker_goesOn s r _))
  | edge r e => exact joins (goesOn (acceptEdge_goesOn s r e))
  | deadline => exact joins (goesOn (expireDeadline_goesOn s _))
  | heldEnd => exact joins (goesOn (endHeldCycle_goesOn s _))
  | strobe r => exact goesOn (nextStrobe_goesOn s r)
  | arrival c v analog => exact joins (goesOn (arriveSample_goesOn s c v analog))
  | completion wrong => exact goesOn (conversionsGoOn_of_changes (completeTransform_changes s _ _ wrong) (by decide))
  | serviceOut e => exact goesOn (conversionsGoOn_of_changes (serviceOut_changes s e) (by decide))
  | serviceIn e => exact goesOn (conversionsGoOn_of_changes (serviceIn_changes s e) (by decide))
  | faultsCleared => exact goesOn (conversionsGoOn_of_changes (clearFaults_changes s) (by decide))
  | channelEmptied c => exact goesOn (emptyChannel_conversions s c)
  | disarmed c => exact goesOn (setConverter_goesOn fun v hv => ⟨v, hv, rfl⟩)
  | tick idle => exact tick_conversionsInTime idle sound

/-- The queue names no channel twice, so it holds sixteen frames at most. -/
theorem queue_length_le (sound : s.QueueSound) : s.queue.length ≤ 16 := by
  simpa using sound.nodup.length_le_card

/-! ### Power-on -/

section
variable (stop : Bool) (inService : Vector Bool 4) (pending : List Instr) (choices : Nat)

theorem powerOn_buffers (c : Channel) : (State.powerOn stop inService pending).buffers[c] = Buffers.reset :=
  Vector.getElem_replicate _

theorem powerOn_converters (c : Channel) : (State.powerOn stop inService pending).converters[c] =
    { armed := false, latched := .live, inFlight := [] } := Vector.getElem_replicate _

theorem powerOn_framesSound : ({ State.powerOn stop inService pending with choices := choices } : State).FramesSound := by
  have empty := powerOn_buffers stop inService pending
  refine ⟨fun c => ?_, ⟨List.nodup_nil, List.Pairwise.nil, nofun, fun c f held => ?_⟩⟩
  · show ((State.powerOn stop inService pending).buffers[c]).fill.Sound c ∧ _
    rw [empty]
    exact ⟨trivial, nofun⟩
  · exact absurd ((congrArg Buffers.held (empty c)).symm.trans held) nofun

theorem powerOn_conversionsInTime :
    ({ State.powerOn stop inService pending with choices := choices } : State).ConversionsInTime := fun c v hv => by
  have hv : v ∈ ((State.powerOn stop inService pending).converters[c]).inFlight := hv
  rw [powerOn_converters] at hv
  cases hv

end

end Sys2Proof.Machine
end

section
/-! SUPPORT. The takes along a step (R52): what leaves an engine that is IN SERVICE and idle no frame to take. -/

namespace Sys2Proof.Machine

variable {s t u : State}

/-- No engine that is IN SERVICE and idle has an eligible frame in the queue. -/
def State.NoTakeLeft (s : State) : Prop :=
  ∀ e, (s.engines.get e).service = .inService → (s.engines.get e).hand = none → ∀ c ∈ s.queue, s.eligible e c = false

/-! ### What the engines take -/

theorem exists_held_of_eligible {e : Engine} {c : Channel} (h : s.eligible e c = true) :
    ∃ f, (s.buffers[c]).held = some f ∧ (f.audit = true → f.engines.get e = false) := by
  unfold State.eligible at h
  split at h
  · next f held => exact ⟨f, held, fun audit => by simpa [audit] using h⟩
  · cases h

theorem eligible_of_held {c : Channel} {f : Frame} (held : (s.buffers[c]).held = some f) (e : Engine) :
    s.eligible e c = !(f.audit && f.engines.get e) := by
  unfold State.eligible
  rw [held]

theorem eligible_congr {c : Channel} (h : (t.buffers[c]).held = (s.buffers[c]).held) (e : Engine) :
    t.eligible e c = s.eligible e c := by
  unfold State.eligible
  rw [h]

/-- An engine that stays idle has found nothing to take. -/
theorem engineTake_leaves_none (s : State) (e : Engine) (serving : ((s.engineTake e).engines.get e).service = .inService)
    (idle : ((s.engineTake e).engines.get e).hand = none) : ∀ c ∈ (s.engineTake e).queue,
      (s.engineTake e).eligible e c = false := by
  obtain nothing | ⟨c, f, -, -, -, -, -, take⟩ := engineTake_cases s e
  · rw [nothing] at serving idle ⊢
    cases first : s.queue.find? (s.eligible e) with
    | none => simpa using List.find?_eq_none.1 first
    | some c =>
      obtain ⟨eligible, ahead, behind, queue, passed⟩ := List.find?_eq_some_iff_append.1 first
      obtain ⟨f, held, -⟩ := exists_held_of_eligible eligible
      have take := engineTake_of_first serving idle queue (fun d hd => by simpa using passed d hd) eligible held
      obtain ⟨marked, role, rest, audit, taken, -⟩ := takeFrame_taken s e c f
      rw [nothing, taken] at take
      rw [take, State.taken, perEngine_get_set_self] at idle
      cases idle
  · obtain ⟨marked, role, rest, audit, taken, -⟩ := takeFrame_taken s e c f
    rw [take, taken, State.taken, perEngine_get_set_self] at idle
    cases idle

theorem engineTake_queue_subset (s : State) (e : Engine) : (s.engineTake e).queue ⊆ s.queue := by
  obtain nothing | ⟨c, f, -, -, -, -, -, take⟩ := engineTake_cases s e
  · rw [nothing]
    exact fun _ => id
  · obtain ⟨marked, role, rest, audit, taken, second, first⟩ := takeFrame_taken s e c f
    rw [take, taken]
    cases marked_ : f.audit with
    | true =>
      obtain ⟨-, -, rfl, -⟩ := second marked_
      exact List.filter_subset_self _
    | false =>
      obtain ⟨-, -, rfl, -⟩ := first marked_
      show (if _ then s.queue else _) ⊆ s.queue
      split
      · exact fun _ => id
      · exact List.filter_subset_self _

/-- A take makes no frame eligible for the other engine that was not. -/
theorem eligible_of_engineTake {e e' : Engine} (ne : e' ≠ e) {d : Channel}
    (h : (s.engineTake e).eligible e' d = true) : s.eligible e' d = true := by
  obtain nothing | ⟨c, f, -, -, -, -, held, take⟩ := engineTake_cases s e
  · rwa [nothing] at h
  · obtain ⟨marked, role, rest, audit, taken, second, -⟩ := takeFrame_taken s e c f
    rw [take, taken] at h
    by_cases own : d = c
    · subst own
      rw [eligible_of_held held]
      cases mark : f.audit with
      | false => rfl
      | true =>
        obtain ⟨rfl, -⟩ := second mark
        rwa [eligible_of_held (by rw [taken_at, if_pos rfl]), perEngine_get_set_ne _ _ ne] at h
    · rwa [eligible_congr (s := s) (by rw [taken_at, if_neg own])] at h

theorem engineTakes_noTakeLeft (s : State) : ((s.engineTake .e1).engineTake .e2).NoTakeLeft := by
  intro e serving idle c queued
  cases e with
  | e2 => exact engineTake_leaves_none _ .e2 serving idle c queued
  | e1 =>
    have ne : Engine.e1 ≠ .e2 := by decide
    rw [engineTake_get_ne _ ne] at serving idle
    have none_ := engineTake_leaves_none s .e1 serving idle c (engineTake_queue_subset _ _ queued)
    rw [← Bool.not_eq_true] at none_ ⊢
    exact fun eligible => none_ (eligible_of_engineTake ne eligible)

theorem enginesTake_takesDone (s : State) : s.enginesTake.TakesDone := by
  by_cases joining : s.joining = true
  · rw [enginesTake_of_joining joining]
    exact fun done => absurd (joining.symm.trans done) nofun
  · rw [enginesTake_of_not_joining joining]
    exact fun _ => engineTakes_noTakeLeft s

/-! ### Frames that join -/

/-- Between `s` and `t` a frame has joined at the present tick, or neither the queue nor a buffered frame nor an engine has
changed. -/
structure State.JoinsOrStays (s t : State) : Prop where
  now : t.now = s.now
  joins : t.lastJoin = some t.now ∨ t.lastJoin = s.lastJoin ∧ t.queue = s.queue ∧ t.engines = s.engines ∧
    ∀ c : Channel, (t.buffers[c]).held = (s.buffers[c]).held

theorem joinsOrStays_refl (s : State) : s.JoinsOrStays s := ⟨rfl, .inr ⟨rfl, rfl, rfl, fun _ => rfl⟩⟩

theorem joinsOrStays_trans (h : s.JoinsOrStays t) (k : t.JoinsOrStays u) : s.JoinsOrStays u := by
  refine ⟨k.now.trans h.now, ?_⟩
  obtain joined | ⟨lastJoin, queue, engines, held⟩ := k.joins
  · exact .inl joined
  · obtain joined | ⟨lastJoin', queue', engines', held'⟩ := h.joins
    · exact .inl (by rw [lastJoin, joined, k.now])
    · exact .inr ⟨lastJoin.trans lastJoin', queue.trans queue', engines.trans engines',
        fun c => (held c).trans (held' c)⟩

theorem closeFrame_joinsOrStays (s : State) (f : Frame) : s.JoinsOrStays (s.closeFrame f) := by
  have now := closeFrame_now s f
  refine ⟨now, ?_⟩
  rw [now]
  cases held : (s.buffers[f.channel]).held with
  | none =>
    rw [closeFrame_of_held_none held]
    exact .inl rfl
  | some old =>
    cases taken : old.engines.e1 || old.engines.e2 with
    | true =>
      rw [closeFrame_of_taken held taken]
      refine .inr ⟨rfl, rfl, rfl, fun d => ?_⟩
      by_cases own : d = f.channel
      · rw [own, setBuffers_at]
      · rw [setBuffers_at_ne s own]
    | false =>
      rw [closeFrame_of_untaken held taken]
      have now : (s.superseded f.channel f.clipped old.joinOrder).now = s.now := settle_changes _ _ _ .now (by decide)
      exact .inl (congrArg some now)

theorem assembles_joinsOrStays (h : s.Assembles t) : s.JoinsOrStays t := by
  cases h with
  | fills now queue lastJoin engines held => exact ⟨now, .inr ⟨lastJoin, queue, engines, held⟩⟩
  | @closes c b f held =>
    refine joinsOrStays_trans (t := s.setBuffers c b) ⟨rfl, .inr ⟨rfl, rfl, rfl, fun d => ?_⟩⟩
      (closeFrame_joinsOrStays _ f)
    rw [setBuffers_buffers, vector_getElem_set]
    split
    · next own => rw [held, own]
    · rfl

theorem assembled_joinsOrStays (h : s.Assembled t) : s.JoinsOrStays t := by
  induction h with
  | refl => exact joinsOrStays_refl s
  | tail _ last ih => exact joinsOrStays_trans ih (assembles_joinsOrStays last)

/-- The engines take at the event at which a frame has joined. -/
theorem afterJoins_takesDone (h : s.JoinsOrStays u) (done : s.TakesDone) : u.afterJoins.TakesDone := by
  unfold State.afterJoins
  split
  · exact enginesTake_takesDone u
  · next clear =>
    obtain ⟨lastJoin, queue, engines, held⟩ := h.joins.resolve_left clear
    have notJoining : s.joining = false := by
      rw [← Bool.not_eq_true, joining_iff, ← lastJoin, ← h.now]
      exact fun joining => clear joining.1
    intro _ e serving idle c queued
    rw [eligible_congr (held c)]
    rw [engines] at serving idle
    exact done notJoining e serving idle c (queue ▸ queued)

/-! ### What keeps the engines waiting for more frames -/

/-- Whatever may yet bring a frame to its close at this tick in `s` may still do so in `t`. -/
theorem joining_of_same (now : t.now = s.now) (lastJoin : t.lastJoin = s.lastJoin)
    (samples : ∀ r, (t.trackers.get r).nextSample = (s.trackers.get r).nextSample)
    (accepting : ∀ r, (t.trackers.get r).accepting = (s.trackers.get r).accepting)
    (cycles : ∀ r, (t.trackers.get r).mode = (s.trackers.get r).mode ∧
      (t.trackers.get r).deadline = (s.trackers.get r).deadline ∧ (t.trackers.get r).start = (s.trackers.get r).start ∧
      (t.trackers.get r).period = (s.trackers.get r).period)
    (arrivals : ∀ c, s.arrivalDue c = true → t.arrivalDue c = true) (joining : s.joining = true) : t.joining = true := by
  rw [joining_iff, closesAhead_iff] at joining ⊢
  rw [lastJoin, now]
  refine joining.imp_right (Or.imp ?_ fun ⟨c, due⟩ => ⟨c, arrivals c due⟩)
  rintro ⟨r, due⟩
  obtain ⟨mode, deadline, start, period⟩ := cycles r
  refine ⟨r, ?_⟩
  rw [accepting, mode, deadline, start, period]
  unfold State.sampleDue at due ⊢
  rwa [now, samples]

theorem arrivalDue_of_issued {c : Channel} (now : t.now = s.now)
    (issued : ∀ v ∈ (s.converters[c]).inFlight, ∃ w ∈ (t.converters[c]).inFlight, w.issued = v.issued)
    (due : s.arrivalDue c = true) : t.arrivalDue c = true := by
  unfold State.arrivalDue at due ⊢
  rw [List.any_eq_true] at due ⊢
  obtain ⟨v, hv, due⟩ := due
  obtain ⟨w, hw, same⟩ := issued v hv
  exact ⟨w, hw, by rwa [now, same]⟩

/-- Where the trackers are the same and every conversion in flight is in flight still. -/
theorem joining_of_conversions (now : t.now = s.now) (lastJoin : t.lastJoin = s.lastJoin) (trackers : t.trackers = s.trackers)
    (issued : ∀ (c : Channel), ∀ v ∈ (s.converters[c]).inFlight, ∃ w ∈ (t.converters[c]).inFlight, w.issued = v.issued)
    (joining : s.joining = true) : t.joining = true :=
  joining_of_same now lastJoin (fun r => by rw [trackers]) (fun r => by rw [trackers])
    (fun r => by rw [trackers]; exact ⟨rfl, rfl, rfl, rfl⟩) (fun c => arrivalDue_of_issued now (issued c)) joining

theorem joining_of_changes {A : List Part} (h : State.ChangesOnly A s t)
    (apart : ∀ p ∈ [Part.now, .trackers, .converters, .lastJoin], p ∉ A) (joining : s.joining = true) :
    t.joining = true := by
  have converters : t.converters = s.converters := h .converters (apart _ (by decide))
  exact joining_of_conversions (h .now (apart _ (by decide))) (h .lastJoin (apart _ (by decide)))
    (h .trackers (apart _ (by decide))) (fun c v hv => ⟨v, by rwa [converters], rfl⟩) joining

/-- One tracker is written apart from what an edge, a sample or a cycle of this tick depends on. -/
theorem setTracker_joining {r : Ref} {x : Tracker} (sample : x.nextSample = (s.trackers.get r).nextSample)
    (accepting : x.accepting = (s.trackers.get r).accepting) (mode : x.mode = (s.trackers.get r).mode)
    (deadline : x.deadline = (s.trackers.get r).deadline) (start : x.start = (s.trackers.get r).start)
    (period : x.period = (s.trackers.get r).period) (joining : s.joining = true) :
    (s.setTracker r x).joining = true := by
  have at_ : ∀ {α : Type} (field : Tracker → α), field x = field (s.trackers.get r) → ∀ r',
      field ((s.setTracker r x).trackers.get r') = field (s.trackers.get r') := by
    intro α field same r'
    rw [setTracker_trackers]
    by_cases own : r' = r
    · rw [own, perRef_get_set_self, same]
    · rw [perRef_get_set_ne _ _ own]
  exact joining_of_same (s := s) rfl rfl (at_ _ sample) (at_ _ accepting)
    (fun r' => ⟨at_ _ mode r', at_ _ deadline r', at_ _ start r', at_ _ period r'⟩) (fun c due => due) joining

theorem setConverter_joining {c : Channel} {x : Converter}
    (issued : ∀ v ∈ (s.converters[c]).inFlight, ∃ w ∈ x.inFlight, w.issued = v.issued) (joining : s.joining = true) :
    (s.setConverter c x).joining = true := by
  refine joining_of_conversions (s := s) rfl rfl rfl (fun d v hv => ?_) joining
  rw [setConverter_converters, vector_getElem_set]
  split
  · next own =>
    subst own
    exact issued v hv
  · exact ⟨v, hv, rfl⟩

/-- The engines have done their takes after an operation at which frames leave at most, and no engine that is IN SERVICE
becomes idle. -/
theorem takesDone_of_withdraws (h : s.Withdraws t) (joining : s.joining = true → t.joining = true)
    (slots : ∀ e, (t.engines.get e).service = .inService → (t.engines.get e).hand = none →
      (s.engines.get e).service = .inService ∧ (s.engines.get e).hand = none) (done : s.TakesDone) : t.TakesDone := by
  intro notJoining e serving idle c queued
  obtain ⟨serving, idle⟩ := slots e serving idle
  have before : s.joining = false := by
    rw [← Bool.not_eq_true]
    exact fun was => absurd ((joining was).symm.trans notJoining) nofun
  rw [eligible_congr (withdraws_held_of_queued h queued)]
  exact done before e serving idle c (h.queue.subset queued)

theorem slots_of_same (engines : t.engines = s.engines) (e : Engine) (serving : (t.engines.get e).service = .inService)
    (idle : (t.engines.get e).hand = none) :
    (s.engines.get e).service = .inService ∧ (s.engines.get e).hand = none := by
  rw [engines] at serving idle
  exact ⟨serving, idle⟩

theorem slots_of_goesOn (h : s.WorkGoesOn t) (e : Engine) (serving : (t.engines.get e).service = .inService)
    (idle : (t.engines.get e).hand = none) :
    (s.engines.get e).service = .inService ∧ (s.engines.get e).hand = none := by
  refine ⟨(h.service e).symm.trans serving, ?_⟩
  have busy := hand_isSome_of_taken (h.taken e)
  rw [idle] at busy
  exact Option.isNone_iff_eq_none.1 (by simpa using busy.symm)

/-! ### Each event -/

theorem completeTransform_takesDone (done : s.TakesDone) (e : Engine) (h : Hand) (wrong : Option Figures) :
    (s.completeTransform e h wrong).TakesDone := by
  let own := wrong.getD (transform h.frame.values)
  show ((s.routed e h own).afterCompletion e).TakesDone
  by_cases stopping : ((s.routed e h own).engines.get e).service = .stopping
  · have changes := routed_changes s e h own
    rw [afterCompletion_of_stopping stopping]
    refine takesDone_of_withdraws (withdraws_trans (routed_withdraws s e h own) (withdraws_of_same rfl rfl rfl))
      (fun joining => ?_) (fun e' serving idle => ?_) done
    · exact joining_of_changes (s := s.routed e h own)
        (changes_comp [.engines, .ports] (setEngine_changes _ e _) (raise_changes _ _) (by decide) (by decide)) (by decide)
        (joining_of_changes changes (by decide) joining)
    · rw [raise_engines, setEngine_engines] at serving idle
      by_cases ne : e' = e
      · rw [ne, perEngine_get_set_self] at serving
        cases serving
      · rw [perEngine_get_set_ne _ _ ne, routed_engines, perEngine_get_set_ne _ _ ne] at serving idle
        exact ⟨serving, idle⟩
  · rw [afterCompletion_of_not_stopping stopping]
    exact enginesTake_takesDone _

theorem serviceOut_takesDone (done : s.TakesDone) (e : Engine) : (s.serviceOut e).1.TakesDone := by
  refine takesDone_of_withdraws (serviceOut_withdraws s e)
    (joining_of_changes (serviceOut_changes s e) (by decide)) (fun e' serving idle => ?_) done
  by_cases inService : (s.engines.get e).service = .inService
  · by_cases other : (s.engines.get e.other).service = .inService
    · rw [serviceOut_of_both inService other] at serving idle
      obtain ⟨serving, idle⟩ := slots_of_goesOn (goesOn_foldl (fun u c => abandonAudit_goesOn u e c) _ _) e' serving idle
      rw [State.serviceChanged, raise_engines, setEngine_engines] at serving idle
      by_cases ne : e' = e
      · rw [ne, perEngine_get_set_self] at serving
        unfold EngineSlot.leaving at serving
        dsimp only at serving
        split at serving <;> cases serving
      · rw [perEngine_get_set_ne _ _ ne] at serving idle
        exact ⟨serving, idle⟩
    · rw [serviceOut_of_last inService other] at serving idle
      exact ⟨serving, idle⟩
  · rw [serviceOut_of_not_inService inService] at serving idle
    exact ⟨serving, idle⟩

/-- An engine that was STOPPING is busy, so it enters service with a frame in hand. -/
theorem serviceIn_takesDone (sound : s.EnginesSound) (done : s.TakesDone) (e : Engine) : (s.serviceIn e).TakesDone := by
  cases service : (s.engines.get e).service with
  | inService =>
    rw [serviceIn_of_inService service]
    exact done
  | out =>
    rw [serviceIn_of_out service]
    exact enginesTake_takesDone _
  | stopping =>
    rw [serviceIn_of_stopping service]
    refine takesDone_of_withdraws (s := s) (withdraws_of_same rfl rfl rfl)
      (joining_of_changes (changes_comp [.engines, .ports] (setEngine_changes s e _) (raise_changes _ _) (by decide)
        (by decide)) (by decide)) (fun e' serving idle => ?_) done
    rw [State.serviceChanged, raise_engines, setEngine_engines] at serving idle
    by_cases ne : e' = e
    · rw [ne, perEngine_get_set_self] at idle
      have busy := (sound.1 e).1 service
      rw [show (s.engines.get e).hand = none from idle] at busy
      cases busy
    · rw [perEngine_get_set_ne _ _ ne] at serving idle
      exact ⟨serving, idle⟩

/-- A conversion that is not handed on arrives all the same. -/
theorem emptyChannel_joining (c : Channel) (joining : s.joining = true) : (s.emptyChannel c).joining = true := by
  unfold State.emptyChannel
  dsimp only
  refine joining_of_changes (setRecord_changes _ c none) (by decide)
    (joining_of_changes (removeBuffered_changes _ c) (by decide)
      (setConverter_joining (fun v hv => ⟨_, List.mem_map_of_mem hv, rfl⟩)
        (joining_of_changes (setBuffers_changes s c _) (by decide) joining)))

theorem tick_takesDone (idle : s.anyDue = false) (done : s.TakesDone) : s.tick.TakesDone := by
  obtain ⟨trackers, arrivals, -⟩ := not_due_of_idle idle
  have notAhead : s.closesAhead = false := by
    simp only [State.closesAhead, Bool.or_eq_false_iff, List.any_eq_false, List.mem_finRange, true_implies,
      Bool.not_eq_true]
    refine ⟨fun r _ => ?_, arrivals⟩
    obtain ⟨sample, strobe, heldEnd, edge, deadline⟩ := trackers r
    have accepting : (s.trackers.get r).accepting.isSome = false := by
      simpa [State.edgeDue, strobe, heldEnd] using edge
    simp_all [State.deadlineDue, State.heldEndDue]
  have notJoining : s.joining = false := by rw [State.joining, notAhead, Bool.and_false]
  rw [tick_of_not_due idle]
  exact fun _ => done notJoining

theorem issueStrobe_joining (r : Ref) (k : Slot) (joining : s.joining = true) : (s.issueStrobe r k).joining = true := by
  refine joining_of_conversions (s := s) rfl rfl rfl (fun c v hv => ⟨v, ?_, rfl⟩) joining
  rw [issueStrobe_at]
  split
  · exact List.mem_append_left _ hv
  · exact hv

theorem nextStrobe_joining (r : Ref) (joining : s.joining = true) : (s.nextStrobe r).joining = true := by
  unfold State.nextStrobe
  dsimp only
  repeat' split
  · exact issueStrobe_joining r _ (setTracker_joining rfl rfl rfl rfl rfl rfl joining)
  · exact joining
  · exact joining

theorem event_takesDone (event : s.Event t) (sound : s.EnginesSound) (done : s.TakesDone) : t.TakesDone := by
  have joins : ∀ {u : State}, s.Assembled u → u.afterJoins.TakesDone := fun h =>
    afterJoins_takesDone (assembled_joinsOrStays h) done
  have leaves : ∀ {t : State} {A : List Part}, State.ChangesOnly A s t → s.Withdraws t →
      (∀ p ∈ [Part.now, .trackers, .converters, .lastJoin, .engines], p ∉ A) → t.TakesDone := fun changes h apart =>
    takesDone_of_withdraws h (joining_of_changes changes fun p hp => apart p (by simp at hp ⊢; tauto))
      (slots_of_same (changes .engines (apart _ (by decide)))) done
  cases event with
  | apart changes => exact leaves changes (withdraws_of_changes changes (by decide)) (by decide)
  | empties changes buffers =>
    exact leaves changes (withdraws_of_fills (changes .now (by decide)) (changes .queue (by decide)) buffers) (by decide)
  | countersCleared r =>
    exact takesDone_of_withdraws (withdraws_of_changes (setTracker_changes s r _) (by decide))
      (setTracker_joining rfl rfl rfl rfl rfl rfl) (slots_of_same rfl) done
  | sample r high => exact joins (assembled_of_changes (sampleInput_changes s r high) (by decide))
  | edge r e => exact joins (acceptEdge_assembled s r e)
  | deadline => exact joins (expireDeadline_assembled s _)
  | heldEnd => exact joins (endHeldCycle_assembled s _)
  | strobe r =>
    have changes := nextStrobe_changes s r
    exact takesDone_of_withdraws (withdraws_of_changes changes (by decide)) (nextStrobe_joining r)
      (slots_of_same (changes .engines (by decide))) done
  | arrival c v analog => exact joins (arriveSample_assembled s c v analog)
  | completion wrong hand => exact completeTransform_takesDone done _ _ wrong
  | serviceOut e => exact serviceOut_takesDone done e
  | serviceIn e => exact serviceIn_takesDone sound done e
  | faultsCleared =>
    have changes := clearFaults_changes s
    exact leaves changes (withdraws_of_changes changes (by decide)) (by decide)
  | channelEmptied c =>
    exact takesDone_of_withdraws (emptyChannel_withdraws s c) (emptyChannel_joining c)
      (slots_of_goesOn (emptyChannel_goesOn s c)) done
  | disarmed c =>
    exact takesDone_of_withdraws (withdraws_of_changes (setConverter_changes s c _) (by decide))
      (setConverter_joining fun v hv => ⟨v, hv, rfl⟩) (slots_of_same rfl) done
  | tick idle => exact tick_takesDone idle done

theorem powerOn_takesDone (stop : Bool) (inService : Vector Bool 4) (pending : List Instr) (choices : Nat) :
    ({ State.powerOn stop inService pending with choices := choices } : State).TakesDone := fun _ _ _ _ _ => nofun

/-- Settles O56: each event keeps the engines and the audit unit (`event_keepsWork`), the buffers and the queue
(`event_framesSound`), the conversions, and the takes. -/
theorem enginesStaySound : Obligations.EnginesStaySound := by
  refine ⟨fun s t engines audit time run => ?_, fun s t buffers queue conversions run => ?_, fun s t kept run => ?_,
    fun s t engines done run => ?_⟩
  · exact step_keeps_of_events (P := fun s => s.EnginesSound ∧ s.AuditSound ∧ s.TransformsInTime) s
      (fun stop inService pending choices => ⟨powerOn_enginesSound stop inService pending choices,
        powerOn_auditSound stop inService pending choices, powerOn_transformsInTime stop inService pending choices⟩)
      (fun _ _ event ⟨engines, audit, time⟩ =>
        have keeps := event_keepsWork event
        ⟨keeps.engines engines, keeps.audit audit, keeps.time time⟩) run ⟨engines, audit, time⟩
  · obtain ⟨⟨buffers, queue⟩, conversions⟩ :=
      step_keeps_of_events (P := fun s => s.FramesSound ∧ s.ConversionsInTime) s
        (fun stop inService pending choices => ⟨powerOn_framesSound stop inService pending choices,
          powerOn_conversionsInTime stop inService pending choices⟩)
        (fun _ _ event ⟨frames, conversions⟩ =>
          ⟨event_framesSound event frames, event_conversionsInTime event conversions⟩) run ⟨⟨buffers, queue⟩, conversions⟩
    exact ⟨buffers, queue, conversions, queue_length_le queue⟩
  · exact step_keeps_of_events s powerOn_keptSound (fun _ _ event => (event_keepsWork event).kept) run kept
  · obtain ⟨-, done⟩ := step_keeps_of_events (P := fun s => s.EnginesSound ∧ s.TakesDone) s
      (fun stop inService pending choices => ⟨powerOn_enginesSound stop inService pending choices,
        powerOn_takesDone stop inService pending choices⟩)
      (fun _ _ event ⟨engines, done⟩ =>
        ⟨(event_keepsWork event).engines engines, event_takesDone event engines done⟩) run ⟨engines, done⟩
    exact done

end Sys2Proof.Machine
end

section
/-! SUPPORT. Power-on reset: its values block by block (R3 to R161), and that every invariant holds after it. -/

namespace Sys2Proof.Machine

/-- Settles O6: the levels of the inputs are those of before, and every other field is its block's reset value. -/
theorem powerOnResetValues : Obligations.PowerOnResetValues := by
  intro s
  have converters := powerOn_converters s.stopInput s.inService s.pending
  refine ⟨_, rfl, fun r => ?_, fun c => ⟨Vector.getElem_replicate _, Vector.getElem_replicate _, Vector.getElem_replicate _,
      congrArg Converter.inFlight (converters c), congrArg Converter.armed (converters c),
      powerOn_kept s.stopInput s.inService s.pending c⟩,
    rfl, fun e => ?_, rfl, rfl, rfl, rfl, rfl, rfl, rfl, rfl, rfl, fun i => Vector.getElem_replicate _,
    fun c => Vector.getElem_replicate _, fun g => Vector.getElem_replicate _, fun r => ?_, rfl, rfl,
    fun o => Vector.getElem_replicate _, fun i => Vector.getElem_replicate _,
    fun g => ⟨Vector.getElem_replicate _, Vector.getElem_replicate _, Vector.getElem_replicate _⟩, fun p k => ?_,
    fun l => ?_, rfl, rfl, rfl, rfl⟩
  · cases r <;> exact ⟨rfl, rfl, rfl, rfl, rfl, rfl, rfl, rfl, rfl, rfl, rfl⟩
  · cases e <;> rfl
  · cases r <;> rfl
  · have store : (State.powerOn s.stopInput s.inService s.pending).patterns[p] = Vector.replicate 128 0 :=
      Vector.getElem_replicate _
    exact (congrArg (fun x : Vector Sample 128 => x[k]) store).trans (Vector.getElem_replicate _)
  · cases l <;> rfl

theorem powerOn_sealSound (stop : Bool) (inService : Vector Bool 4) (pending : List Instr) (choices : Nat) :
    ({ State.powerOn stop inService pending with choices := choices } : State).SealSound := fun _ _ _ sealed =>
  absurd sealed nofun

/-- Settles O52: the invariants are those that the step lemmas keep, each at its value after the reset. -/
theorem resetHoldsTheInvariants : Obligations.ResetHoldsTheInvariants := by
  intro stop inService waiting
  obtain ⟨ports, calm⟩ := powerOn_orderly stop inService waiting 0
  obtain ⟨buffers, queue⟩ := powerOn_framesSound stop inService waiting 0
  exact ⟨ports, calm, powerOn_plansInRange _ _ _ 0, powerOn_sealSound _ _ _ 0, powerOn_trackersSound _ _ _ 0,
    powerOn_enginesSound _ _ _ 0, powerOn_auditSound _ _ _ 0, powerOn_transformsInTime _ _ _ 0, powerOn_keptSound _ _ _ 0,
    powerOn_takesDone _ _ _ 0, buffers, queue, powerOn_conversionsInTime _ _ _ 0, powerOn_checksSound _ _ _ 0,
    powerOn_permitsSound _ _ _ 0, powerOn_verdictsCurrent _ _ _ 0, powerOn_reasonsCurrent _ _ _ 0,
    powerOn_sourcesSound _ _ _ 0, powerOn_pairingsSound _ _ _ 0⟩

end Sys2Proof.Machine
end

section
/-! SUPPORT. The sync input filter (R1), the edges outside the window (R2), and the strobes of a cycle (R5, R17). -/

namespace Sys2Proof.Machine

/-! ### The sync input filter (R1) -/

/-- Settles O7: the tracker is the one of `Tracker.sample`, and no other part of the sample depends on it. -/
theorem syncInputSampleFilters : Obligations.SyncInputSampleFilters := by
  intro r high s due
  refine ⟨_, congrArg Host.Outcome.next (if_pos due), rfl, rfl, ?_, ?_, ?_, rfl, rfl, rfl, rfl, rfl, rfl, rfl, rfl, rfl,
    rfl⟩ <;> cases high <;> simp [Tracker.sample]

/-! ### Edges outside the window (R2) -/

theorem classify_of_none (e : Tick) : classify none e = .first := rfl

theorem classify_of_spurious {p e : Tick} (h : e - p < tMin) : classify (some p) e = .spurious := if_pos h

theorem classify_of_inWindow {p e : Tick} (low : tMin ≤ e - p) (high : e - p ≤ tMax) :
    classify (some p) e = .inWindow (e - p) := by
  unfold classify
  dsimp only
  rw [if_neg (Nat.not_lt.2 low), if_pos high]

theorem classify_of_late {p e : Tick} (h : tMax < e - p) : classify (some p) e = .late := by
  have low : ¬e - p < tMin := Nat.not_lt.2 (Nat.le_of_lt (Nat.lt_trans (by decide) h))
  unfold classify
  dsimp only
  rw [if_neg low, if_neg (Nat.not_le.2 h)]

theorem exec_edgeAccepted {s : State} {r : Ref} {e : Tick} (due : s.edgeDue r = true)
    (accepting : (s.trackers.get r).accepting = some e) :
    exec (.edgeAccepted r) s = .next (s.acceptEdge r e).afterJoins.runAll := by
  unfold exec execEdgeAccepted
  dsimp only
  rw [accepting]
  exact congrArg Host.Outcome.next (if_pos due)

/-- Neither the write of a tracker nor the takes touch a port. -/
theorem setTracker_afterJoins_runAll {s : State} (calm : s.calm) (r : Ref) (x : Tracker) :
    (s.setTracker r x).afterJoins.runAll = (s.setTracker r x).afterJoins :=
  runAll_of_calm ((calm_congr (afterJoins_changes (s.setTracker r x) .ports (by decide))).2 calm)

/-- Settles O8: the class of the edge decides, and no command waits to be executed. -/
theorem edgesOutsideTheWindow : Obligations.EdgesOutsideTheWindow := by
  intro r e s calm due accepting
  rw [exec_edgeAccepted due accepting]
  refine ⟨fun p previous short => ?_, fun outside => ?_⟩
  · rw [acceptEdge_of_spurious (by rw [previous]; exact classify_of_spurious short)]
    exact congrArg Host.Outcome.next (setTracker_afterJoins_runAll calm r _)
  · have classes : classify (s.trackers.get r).previousEdge e = .first ∨
        classify (s.trackers.get r).previousEdge e = .late := by
      obtain none_ | ⟨p, previous, late⟩ := outside
      · exact .inl (none_ ▸ classify_of_none e)
      · exact .inr (previous ▸ classify_of_late late)
    rw [acceptEdge_of_outside classes]
    exact congrArg Host.Outcome.next (setTracker_afterJoins_runAll calm r _)

/-! ### Strobes (R5, R17) -/

theorem strobeDue_iff (s : State) (r : Ref) : s.strobeDue r = true ↔ ∃ st k, (s.trackers.get r).start = some st ∧
    (s.trackers.get r).nextStrobe = some k ∧ 1 ≤ k ∧ k < 128 ∧ s.now = strobeTick st (s.trackers.get r).period k := by
  unfold State.strobeDue
  dsimp only
  split
  · next st k start strobe => simp [start, strobe, and_assoc]
  · next other =>
    refine ⟨nofun, ?_⟩
    rintro ⟨st, k, start, strobe, -⟩
    exact (other st k start strobe).elim

theorem nextStrobe_of_some {s : State} {r : Ref} {k : Slot} (strobe : (s.trackers.get r).nextStrobe = some k.val) :
    s.nextStrobe r = (s.setTracker r { s.trackers.get r with nextStrobe := some (k.val + 1) }).issueStrobe r k := by
  unfold State.nextStrobe
  simp only [strobe, k.isLt, dif_pos]

/-- Settles O12: the strobe is issued to the converters that `issueStrobe_at` names. -/
theorem strobeStartsConversions : Obligations.StrobeStartsConversions := by
  intro r s due
  obtain ⟨st, k, -, strobe, -, below, -⟩ := (strobeDue_iff s r).1 due
  have issued := nextStrobe_of_some (k := ⟨k, below⟩) strobe
  refine ⟨⟨k, below⟩, _, strobe, congrArg Host.Outcome.next (if_pos due), ?_, fun c => ?_, nextStrobe_changes s r⟩
  · rw [issued, issueStrobe_trackers, setTracker_trackers]
  · rw [issued, issueStrobe_at]
    simp only [setTracker_trackers, perRef_get_set_self, Bool.and_eq_true]
    rfl

end Sys2Proof.Machine
end

section
/-! SUPPORT. The end and the start of a cycle on every channel (R4, R17, R18, R21, R23, R25, R102). -/

namespace Sys2Proof.Machine

variable {s t u v : State} {r : Ref} {o : Outcome} {c : Channel}

/-! ### What a close leaves in the channel's buffers (R25, R27, R35) -/

/-- What has closed is read from the held buffer and the counters before it, the priority of the channel and the tick,
and from the held buffer but for its takes and the counters after it. -/
theorem closes_congr {o : Option Frame} (held : (v.buffers[c]).held = (s.buffers[c]).held)
    (counters : (v.buffers[c]).counters = (s.buffers[c]).counters) (priority : v.priorityOf c = s.priorityOf c)
    (now : v.now = s.now)
    (held' : (u.buffers[c]).held.map Frame.untaken = (t.buffers[c]).held.map Frame.untaken)
    (counters' : (u.buffers[c]).counters = (t.buffers[c]).counters) (h : s.Closes t c o) : v.Closes u c o := by
  unfold State.Closes at h ⊢
  rw [held, counters, priority, now, held', counters']
  exact h

theorem closes_none_of_held (held : (t.buffers[c]).held = (s.buffers[c]).held) : s.Closes t c none :=
  congrArg (Option.map Frame.untaken) held

theorem takesLeave_counters (h : u.TakesLeave t) (c : Channel) : (t.buffers[c]).counters = (u.buffers[c]).counters := by
  rw [h.buffers c]

theorem takesLeave_fill (h : u.TakesLeave t) (c : Channel) : (t.buffers[c]).fill = (u.buffers[c]).fill := by
  rw [h.buffers c]

theorem takesLeave_epoch (h : u.TakesLeave t) (c : Channel) : (t.buffers[c]).epoch = (u.buffers[c]).epoch := by
  rw [h.buffers c]

theorem closes_of_takes {o : Option Frame} (takes : u.TakesLeave t) (h : s.Closes u c o) : s.Closes t c o :=
  closes_congr rfl rfl rfl rfl (takes.held c) (takesLeave_counters takes c) h

theorem closeFrame_closes (s : State) (f : Frame) : s.Closes (s.closeFrame f) f.channel (some f) := by
  unfold State.Closes
  dsimp only
  cases held : (s.buffers[f.channel]).held with
  | none =>
    dsimp only
    rw [closeFrame_of_held_none held, joinQueue_at, if_pos rfl, setBuffers_at]
    exact ⟨rfl, rfl⟩
  | some old =>
    dsimp only
    cases taken : old.engines.e1 || old.engines.e2 with
    | true =>
      rw [if_pos rfl, closeFrame_of_taken held taken, setBuffers_at, held]
      exact ⟨rfl, rfl⟩
    | false =>
      have now : (s.superseded f.channel f.clipped old.joinOrder).now = s.now := settle_changes _ _ _ .now (by decide)
      rw [if_neg nofun, closeFrame_of_untaken held taken, joinQueue_at, if_pos rfl, superseded_buffers, if_pos rfl, now]
      exact ⟨rfl, rfl⟩

/-- A filling buffer is written and the frame that has left it closes. -/
theorem setBuffers_closeFrame {b : Buffers} {f : Frame} (own : f.channel = c) (held : b.held = (s.buffers[c]).held)
    (counters : b.counters = (s.buffers[c]).counters) :
    s.Closes ((s.setBuffers c b).closeFrame f) c (some f) ∧
    (((s.setBuffers c b).closeFrame f).buffers[c]).fill = b.fill ∧
    (((s.setBuffers c b).closeFrame f).buffers[c]).epoch = b.epoch ∧
    ∀ d : Channel, d ≠ c → ((s.setBuffers c b).closeFrame f).buffers[d] = s.buffers[d] := by
  subst own
  have at_ := setBuffers_at s f.channel b
  refine ⟨closes_congr (s := s.setBuffers f.channel b) ?_ ?_ rfl rfl rfl rfl (closeFrame_closes _ f), ?_, ?_,
    fun d ne => ?_⟩
  · rw [at_, held]
  · rw [at_, counters]
  · rw [closeFrame_at_self, at_]
  · rw [closeFrame_at_self, at_]
  · rw [closeFrame_at_ne _ ne, setBuffers_at_ne s ne]

/-! ### The end of a cycle (R23) -/

/-- The end of a cycle at one channel: the frame that closes, if one does, leaves the filling buffer and closes. -/
theorem endFrame_eq (s : State) (r : Ref) (o : Outcome) (c : Channel) : s.endFrame r o c =
    match (s.buffers[c]).fill.closedAt r o with
    | some f => (s.setBuffers c { s.buffers[c] with fill := (s.buffers[c]).fill.ended r o }).closeFrame f
    | none => s.setBuffers c { s.buffers[c] with
        fill := (s.buffers[c]).fill.ended r o
        counters := { (s.buffers[c]).counters with
          short := if (s.buffers[c]).fill.shortAt r o = true then min ((s.buffers[c]).counters.short + 1) 65535
            else (s.buffers[c]).counters.short } } := by
  have same : ∀ fill, (s.buffers[c]).fill = fill → s = s.setBuffers c { s.buffers[c] with fill := fill } := by
    rintro fill rfl
    rw [State.setBuffers, show s.buffers.set c s.buffers[c] = s.buffers from Vector.set_getElem_self _]
  unfold State.endFrame
  dsimp only
  cases filling : (s.buffers[c]).fill with
  | idle => exact same _ filling
  | closing f next => exact same _ filling
  | filling f =>
    by_cases own : f.ref = r
    · subst own
      have unheld : (Outcome.complete == Outcome.held) = false := rfl
      cases o with
      | short => simp [FillBuffer.closedAt, FillBuffer.ended, FillBuffer.shortAt, bump16]
      | complete =>
        by_cases full : f.samples[127].isSome = true <;>
        simp [FillBuffer.closedAt, FillBuffer.ended, FillBuffer.shortAt, Frame.complete, unheld, full]
      | held =>
        by_cases full : f.samples[127].isSome = true <;>
        simp [FillBuffer.closedAt, FillBuffer.ended, FillBuffer.shortAt, Frame.complete, full]
    · simp only [FillBuffer.closedAt, FillBuffer.ended, FillBuffer.shortAt, own, false_and, if_false,
        beq_eq_false_iff_ne.2 own, Bool.false_and, Bool.false_eq_true]
      exact same _ filling

/-- The end of a cycle of reference `r` with outcome `o` between `s` and `t` on channel `c`. -/
def State.EndsAt (s t : State) (r : Ref) (o : Outcome) (c : Channel) : Prop :=
  s.Closes t c ((s.buffers[c]).fill.closedAt r o) ∧
  ((s.buffers[c]).fill.closedAt r o = none →
    (t.buffers[c]).counters = { (s.buffers[c]).counters with
      short := if (s.buffers[c]).fill.shortAt r o = true then min ((s.buffers[c]).counters.short + 1) 65535
        else (s.buffers[c]).counters.short }) ∧
  (t.buffers[c]).epoch = (s.buffers[c]).epoch ∧ (t.buffers[c]).fill = (s.buffers[c]).fill.ended r o

theorem closedAt_channel {f : Frame} {fill : FillBuffer} (sound : fill.Sound c) (closes : fill.closedAt r o = some f) :
    f.channel = c := by
  unfold FillBuffer.closedAt at closes
  split at closes
  · split at closes
    · cases closes
      exact sound.1
    · cases closes
  · cases closes
  · cases closes

theorem ended_sound {fill : FillBuffer} (sound : fill.Sound c) (r : Ref) (o : Outcome) : (fill.ended r o).Sound c := by
  unfold FillBuffer.ended
  split
  · split
    · split
      · trivial
      · exact sound
    · exact sound
  · exact sound
  · exact sound

theorem endFrame_endsAt (sound : (s.buffers[c]).fill.Sound c) (r : Ref) (o : Outcome) :
    s.EndsAt (s.endFrame r o c) r o c ∧ ∀ d : Channel, d ≠ c → (s.endFrame r o c).buffers[d] = s.buffers[d] := by
  rw [endFrame_eq, State.EndsAt]
  cases closes : (s.buffers[c]).fill.closedAt r o with
  | some f =>
    obtain ⟨closed, fill, epoch, others⟩ := setBuffers_closeFrame (s := s) (f := f)
      (b := { s.buffers[c] with fill := (s.buffers[c]).fill.ended r o }) (closedAt_channel sound closes) rfl rfl
    exact ⟨⟨closed, nofun, epoch, fill⟩, others⟩
  | none =>
    refine ⟨⟨closes_none_of_held ?_, fun _ => ?_, ?_, ?_⟩, fun d ne => setBuffers_at_ne s ne _⟩ <;> rw [setBuffers_at]

/-- What has ended is read from the channel's own buffers, its priority and the tick. -/
theorem endsAt_congr (before : v.buffers[c] = s.buffers[c]) (priority : v.priorityOf c = s.priorityOf c)
    (now : v.now = s.now) (after : u.buffers[c] = t.buffers[c]) (h : s.EndsAt t r o c) : v.EndsAt u r o c := by
  obtain ⟨closes, counters, epoch, fill⟩ := h
  unfold State.EndsAt
  rw [before, after]
  exact ⟨closes_congr (by rw [before]) (by rw [before]) priority now (by rw [after]) (by rw [after]) closes, counters,
    epoch, fill⟩

theorem priorityOf_congr (plan : t.plan = s.plan) (checks : t.checks = s.checks) (c : Channel) :
    t.priorityOf c = s.priorityOf c := by
  unfold State.priorityOf
  rw [plan, checks]

/-- A cycle ends on each of some channels, and no other is touched. -/
theorem endFrames_endsAt (r : Ref) (o : Outcome) (cs : List Channel) (distinct : cs.Nodup) (s : State)
    (sound : ∀ c : Channel, (s.buffers[c]).fill.Sound c) (c : Channel) :
    (c ∈ cs → s.EndsAt (cs.foldl (fun s c => s.endFrame r o c) s) r o c) ∧
    (c ∉ cs → (cs.foldl (fun s c => s.endFrame r o c) s).buffers[c] = s.buffers[c]) := by
  induction cs generalizing s with
  | nil => exact ⟨nofun, fun _ => rfl⟩
  | cons d cs ih =>
    obtain ⟨fresh, distinct⟩ := List.nodup_cons.1 distinct
    obtain ⟨ends, others⟩ := endFrame_endsAt (sound d) r o
    have changes := endFrame_changes s r o d
    have soundAfter : ∀ c' : Channel, ((s.endFrame r o d).buffers[c']).fill.Sound c' := fun c' => by
      by_cases own : c' = d
      · obtain ⟨-, -, -, fill⟩ := ends
        rw [own, fill]
        exact ended_sound (sound d) r o
      · rw [others c' own]
        exact sound c'
    obtain ⟨within, without⟩ := ih distinct (s.endFrame r o d) soundAfter
    refine ⟨fun hc => ?_, fun hc => ?_⟩
    · by_cases own : c = d
      · subst own
        exact endsAt_congr rfl rfl rfl (without fresh) ends
      · exact endsAt_congr (others c own).symm
          (priorityOf_congr (plan_of_changes changes (by decide)) (changes .checks (by decide)) c).symm
          (changes .now (by decide)).symm rfl (within ((List.mem_cons.1 hc).resolve_left own))
    · exact (without fun hd => hc (.tail _ hd)).trans (others c fun own => hc (own ▸ .head _))

theorem endCycleFrames_endsAt (sound : s.BuffersSound) (r : Ref) (o : Outcome) (c : Channel) :
    s.EndsAt (s.endCycleFrames r o) r o c :=
  (endFrames_endsAt r o _ (List.nodup_finRange 16) s (fun c => (sound c).1) c).1 (List.mem_finRange c)

/-- A cycle has ended in `u`, and what follows touches filling buffers alone, and takes. -/
theorem cycleEnds_of_endsAt (ends : ∀ c, s.EndsAt u r o c)
    (held : ∀ c : Channel, (t.buffers[c]).held.map Frame.untaken = (u.buffers[c]).held.map Frame.untaken)
    (counters : ∀ c : Channel, (t.buffers[c]).counters = (u.buffers[c]).counters)
    (epoch : ∀ c : Channel, (t.buffers[c]).epoch = (u.buffers[c]).epoch) : s.CycleEnds t r o := by
  intro c
  obtain ⟨closes, short, same, -⟩ := ends c
  exact ⟨closes_congr rfl rfl rfl rfl (held c) (counters c) closes, fun none_ => (counters c).trans (short none_),
    (epoch c).trans same⟩

/-! ### Notices at the end of a cycle (10.6, R31) -/

theorem closeFrame_raised (s : State) (f : Frame) : s.Raised (s.closeFrame f) [] := by
  refine raised_of_ports (q := (s.closeFrame f).ports.get) (fun l => ?_) fun _ => rfl
  rw [closeFrame_ports_get]
  split
  · rfl
  · split
    · rfl
    · exact settled_keeps _ _

theorem setBuffers_closeFrame_raised (s : State) (c : Channel) (b : Buffers) (f : Frame) :
    s.Raised ((s.setBuffers c b).closeFrame f) [] :=
  raised_trans (bs := []) (cs := []) (by rfl) (raised_nil_of_ports (by rfl)) (closeFrame_raised (s.setBuffers c b) f)

theorem endFrame_raised (s : State) (r : Ref) (o : Outcome) (c : Channel) : s.Raised (s.endFrame r o c) [] := by
  rw [endFrame_eq]
  split
  · exact setBuffers_closeFrame_raised s c _ _
  · exact raised_nil_of_ports (by rfl)

theorem endCycleFrames_raised (s : State) (r : Ref) (o : Outcome) : s.Raised (s.endCycleFrames r o) [] := by
  unfold State.endCycleFrames
  generalize List.finRange 16 = cs
  induction cs generalizing s with
  | nil => exact raised_nil_of_ports rfl
  | cons c cs ih =>
    exact raised_trans (bs := []) (cs := []) (endFrame_changes s r o c .clock (by decide)) (endFrame_raised s r o c)
      (ih (s.endFrame r o c))

/-! ### The start of a cycle (R4, R17, R18, R21, R102) -/

theorem startCycle_fill (s : State) (r : Ref) (st : Tick) (c : Channel) : ((s.startCycle r st).buffers[c]) =
    if s.usesRef r c then { s.buffers[c] with
      fill := s.buffers[c].fill.start (s.newFrame c r ((s.trackers.get r).cycle + 1)) }
    else s.buffers[c] := by
  have buffers : (s.startCycle r st).buffers =
      ((s.setTracker r ((s.trackers.get r).started st)).startFrames r ((s.trackers.get r).cycle + 1)).buffers := rfl
  rw [buffers]
  exact startFrames_at _ r _ c

/-- Strobe 0 goes to every converter of the reference, since each is armed at that strobe. -/
theorem armed_strobe_at (s : State) (r : Ref) (c : Channel) : ((s.armConverters r).issueStrobe r 0).converters[c] =
    if s.usesRef r c = true then
      { armed := true
        latched := s.sources[c]
        inFlight := (s.converters[c]).inFlight ++ [⟨(s.trackers.get r).cycle, 0, s.sources[c], s.now, true⟩] }
    else s.converters[c] := by
  have same : (s.armConverters r).usesRef r c = s.usesRef r c := rfl
  rw [issueStrobe_at, armConverters_at, same]
  cases uses : s.usesRef r c with
  | true => rfl
  | false => rfl

theorem startCycle_converters (s : State) (r : Ref) (st : Tick) (c : Channel) :
    ((s.startCycle r st).converters[c]) = if s.usesRef r c = true then
      { armed := true
        latched := s.sources[c]
        inFlight := (s.converters[c]).inFlight ++ [⟨(s.trackers.get r).cycle + 1, 0, s.sources[c], s.now, true⟩] }
    else s.converters[c] := by
  have cycle : ((s.trackers.set r ((s.trackers.get r).started st)).get r).cycle = (s.trackers.get r).cycle + 1 :=
    congrArg Tracker.cycle (perRef_get_set_self _ _ _)
  rw [← cycle]
  exact armed_strobe_at (((s.setTracker r ((s.trackers.get r).started st)).startFrames r
    ((s.trackers.get r).cycle + 1)).countQuiet r) r c

theorem startCycle_cycleStarts (s : State) (r : Ref) (st : Tick) :
    s.CycleStarts (s.startCycle r st) r (fun c => (s.buffers[c]).fill) where
  fills c := by
    rw [startCycle_fill]
    split
    · show (s.buffers[c]).fill.start _ = _
      cases (s.buffers[c]).fill with
      | idle => rfl
      | filling old => rfl
      | closing old next => cases next <;> rfl
    · rfl
  epochs c := by
    rw [startCycle_fill]
    split <;> rfl
  converters := startCycle_converters s r st
  quiet g := Vector.getElem_ofFn _
  quietEnds g := by
    have due : (s.startCycle r st).quietEndDue[g] =
        (s.quietEndDue[g] || decide (s.plan.groups[g].ref = r ∧ s.quiet[g] = 1)) := Vector.getElem_ofFn _
    rw [due, Bool.or_eq_true, decide_eq_true_iff]

/-- The start of a cycle is read from the cycle number, the plan, the sources, the epochs, the converters, the quiet
counters and the tick before it. -/
theorem cycleStarts_congr {fill fill' : Channel → FillBuffer} (h : u.CycleStarts v r fill)
    (cycle : (s.trackers.get r).cycle = (u.trackers.get r).cycle) (plan : s.plan = u.plan) (sources : s.sources = u.sources)
    (epoch : ∀ c : Channel, (s.buffers[c]).epoch = (u.buffers[c]).epoch) (converters : s.converters = u.converters)
    (now : s.now = u.now) (quiet : s.quiet = u.quiet) (quietEndDue : s.quietEndDue = u.quietEndDue)
    (fills : ∀ c, fill' c = fill c) (fill_ : ∀ c : Channel, (t.buffers[c]).fill = (v.buffers[c]).fill)
    (epoch_ : ∀ c : Channel, (t.buffers[c]).epoch = (v.buffers[c]).epoch) (converters_ : t.converters = v.converters)
    (quiet_ : t.quiet = v.quiet) (quietEndDue_ : t.quietEndDue = v.quietEndDue) : s.CycleStarts t r fill' := by
  have uses : ∀ c, s.usesRef r c = u.usesRef r c := fun c => by rw [State.usesRef, State.usesRef, plan]
  refine ⟨fun c => ?_, fun c => ?_, fun c => ?_, fun g => ?_, fun g => ?_⟩
  · rw [fill_, h.fills, uses, cycle, epoch, sources, fills]
  · rw [epoch_, h.epochs, epoch]
  · rw [converters_, h.converters, uses, sources, converters, cycle, now]
  · rw [quiet_, h.quiet, plan, quiet]
  · rw [quietEndDue_, h.quietEnds, plan, quiet, quietEndDue]

end Sys2Proof.Machine
end

section
/-! SUPPORT. The events of a tracker at which cycles start and end (R4 to R11), with the lock event of the evaluator and
the verdict unit (R97, R113, R121) and the notices (R15, R105, R125). -/

namespace Sys2Proof.Machine

variable {s t u v : State} {r : Ref} {o : Outcome}

/-! ### One cycle ends and the next starts -/

/-- Between `s` and `t` a cycle of reference `r` has ended with outcome `o`, and the next has started. -/
structure State.CycleTurns (s t : State) (r : Ref) (o : Outcome) : Prop where
  ends : s.CycleEnds t r o
  starts : s.CycleStarts t r (fun c => (s.buffers[c]).fill.ended r o)

/-- Nothing but takes happens in the buffers after the turn. -/
theorem cycleTurns_of_takes (h : s.CycleTurns u r o) (takes : u.TakesLeave t) (converters : t.converters = u.converters)
    (quiet : t.quiet = u.quiet) (quietEndDue : t.quietEndDue = u.quietEndDue) : s.CycleTurns t r o where
  ends c := by
    obtain ⟨closes, counters, epoch⟩ := h.ends c
    exact ⟨closes_of_takes takes closes, fun none_ => (takesLeave_counters takes c).trans (counters none_),
      (takesLeave_epoch takes c).trans epoch⟩
  starts := cycleStarts_congr h.starts rfl rfl rfl (fun _ => rfl) rfl rfl rfl rfl (fun _ => rfl) (takesLeave_fill takes)
    (takesLeave_epoch takes) converters quiet quietEndDue

/-- The tracker of reference `r`, which then is `x`, starts a cycle at `st`. -/
def State.nextCycle (s : State) (r : Ref) (x : Tracker) (st : Tick) : State := (s.setTracker r x).startCycle r st

theorem startCycle_at (s : State) (r : Ref) (st : Tick) (c : Channel) :
    (s.startCycle r st).buffers[c] = { s.buffers[c] with fill := ((s.startCycle r st).buffers[c]).fill } := by
  rw [startCycle_fill]
  split <;> rfl

theorem nextCycle_at (s : State) (r : Ref) (x : Tracker) (st : Tick) (c : Channel) :
    (s.nextCycle r x st).buffers[c] = { s.buffers[c] with fill := ((s.nextCycle r x st).buffers[c]).fill } :=
  startCycle_at (s.setTracker r x) r st c

theorem nextCycle_changes (s : State) (r : Ref) (x : Tracker) (st : Tick) :
    State.ChangesOnly cycleStartParts s (s.nextCycle r x st) :=
  changes_comp _ (setTracker_changes s r x) (startCycle_changes (s.setTracker r x) r st) (by decide) (by decide)

theorem nextCycle_trackers (s : State) (r : Ref) (x : Tracker) (st : Tick) :
    (s.nextCycle r x st).trackers = s.trackers.set r (x.started st) := setTracker_startCycle_trackers s r x st

/-- The parts that a tracker's event changes up to the start of its cycle. -/
abbrev endParts : List Part := .trackers :: closeParts

/-- The next cycle starts after the end of one, with the number after the last one's. -/
theorem nextCycle_cycleTurns (ends : ∀ c, s.EndsAt u r o c) (changes : State.ChangesOnly endParts s u) {x : Tracker}
    (cycle : x.cycle = (s.trackers.get r).cycle) (st : Tick) : s.CycleTurns (u.nextCycle r x st) r o := by
  have starts := startCycle_cycleStarts (u.setTracker r x) r st
  refine ⟨cycleEnds_of_endsAt ends (fun c => ?_) (fun c => ?_) (fun c => ?_), cycleStarts_congr starts ?_ ?_ ?_ (fun c => ?_)
    ?_ ?_ ?_ ?_ (fun c => ?_) (fun _ => rfl) (fun _ => rfl) rfl rfl rfl⟩
  · rw [nextCycle_at]
  · rw [nextCycle_at]
  · rw [nextCycle_at]
  · rw [setTracker_trackers, perRef_get_set_self, cycle]
  · exact (plan_of_changes changes (by decide)).symm
  · exact (changes .sources (by decide)).symm
  · obtain ⟨-, -, epoch, -⟩ := ends c
    exact epoch.symm
  · exact (changes .converters (by decide)).symm
  · exact (changes .now (by decide)).symm
  · exact (changes .quiet (by decide)).symm
  · exact (changes .quietEndDue (by decide)).symm
  · obtain ⟨-, -, -, fill⟩ := ends c
    exact fill.symm

/-- The end of a cycle after a write of trackers, as the state before that write shows it. -/
theorem endCycleFrames_of_trackers (before : State.ChangesOnly [.trackers] s u) (sound : s.BuffersSound) (r : Ref)
    (o : Outcome) : (∀ c, s.EndsAt (u.endCycleFrames r o) r o c) ∧
      State.ChangesOnly endParts s (u.endCycleFrames r o) ∧ s.Raised (u.endCycleFrames r o) [] := by
  have buffers : u.buffers = s.buffers := before .buffers (by decide)
  have now : u.now = s.now := before .now (by decide)
  have sound : u.BuffersSound := fun c => by
    rw [buffers, now]
    exact sound c
  have priority := priorityOf_congr (plan_of_changes before (by decide)) (before .checks (by decide))
  exact ⟨fun c => endsAt_congr (by rw [buffers]) (priority c).symm now.symm rfl (endCycleFrames_endsAt sound r o c),
    changes_comp _ before (endCycleFrames_changes u r o) (by decide) (by decide),
    raised_trans (bs := []) (cs := []) (before .clock (by decide)) (raised_nil_of_ports (before .ports (by decide)))
      (endCycleFrames_raised u r o)⟩

/-- The SYNC notice, and the takes. -/
theorem raiseSync_raised (s : State) (r : Ref) (old new : TrackerMode) : s.Raised (s.raiseSync r old new)
    [.sync r (s.trackers.get r).cycle old new (frequency (s.trackers.get r).period)] :=
  raised_of_offerAll fun l => raise_ports_get _ _ l

theorem afterJoins_raised (s : State) : s.Raised s.afterJoins [] :=
  raised_nil_of_ports (afterJoins_changes s .ports (by decide))

/-! ### A lock or a loss of lock, and the takes after it (R97, R113, R121) -/

/-- A tracker's event leaves the evaluator, the verdict unit and the plan to the lock event that follows it. -/
structure State.LockAhead (s u : State) : Prop where
  plan : u.plan = s.plan
  checks : u.checks = s.checks
  verdicts : u.verdicts = s.verdicts
  alert : u.alert = s.alert
  clock : u.clock = s.clock

theorem lockAhead_of_changes {A : List Part} (h : State.ChangesOnly A s u)
    (apart : ∀ p ∈ [Part.planStore, .checks, .verdicts, .alert, .clock], p ∉ A) : s.LockAhead u :=
  ⟨plan_of_changes h (apart _ (by decide)), h .checks (apart _ (by decide)), h .verdicts (apart _ (by decide)),
    h .alert (apart _ (by decide)), h .clock (apart _ (by decide))⟩

theorem lockEvent_causesExamined (ahead : s.LockAhead u) (r : Ref) :
    s.CausesExaminedOn (u.lockEvent r).afterJoins (fun g => s.plan.groups[g].ref == r) := by
  have takes := afterJoins_changes (u.lockEvent r)
  have examined : u.CausesExaminedOn (u.lockEvent r) (fun g => u.plan.groups[g].ref == r) :=
    examineEvent_causesExamined (changes_refl causeParts u) _ _
  intro i
  have own := examined i
  rw [ahead.plan, ahead.checks] at own
  rw [suspends_of_changes takes (by decide), show (u.lockEvent r).afterJoins.checks = _ from takes .checks (by decide)]
  exact own

theorem lockEvent_verdictsSet (ahead : s.LockAhead u) {blind : Group → Bool}
    (isBlind : ∀ g : Group, s.plan.groups[g].ref = r → u.isBlind g = blind g) :
    s.VerdictsSet (u.lockEvent r).afterJoins (fun _ => false) (fun g v =>
      if s.plan.groups[g].ref = r then { v with reasons := { v.reasons with blind := blind g } } else v) := by
  have takes := afterJoins_changes (u.lockEvent r)
  have change : (fun (g : Group) (v : Verdict) => if u.plan.groups[g].ref = r then v.setBlind (u.isBlind g) else v) =
      fun g v => if s.plan.groups[g].ref = r then { v with reasons := { v.reasons with blind := blind g } } else v := by
    funext g v
    rw [ahead.plan]
    split
    · next own => rw [isBlind g own, Verdict.setBlind]
    · rfl
  rw [← change]
  exact verdictsSet_congr (examineEvent_verdictsSet (changes_refl causeParts u) _ _) ahead.plan.symm ahead.checks.symm
    ahead.verdicts.symm ahead.alert.symm (takes .planStore (by decide)) (takes .tests (by decide))
    (takes .checks (by decide)) (takes .verdicts (by decide)) (takes .alert (by decide))

/-- BLIND as the event sets it. -/
theorem blind_of_verdictsSet {forced : Group → Bool} {change : Group → Verdict → Verdict} {g : Group} {blind : Bool}
    (h : s.VerdictsSet t forced change) (sets : ∀ v, (change g v).reasons.blind = blind) :
    t.verdicts[g].reasons.blind = blind := by
  obtain ⟨verdicts, -⟩ := h
  rw [verdicts g]
  exact sets _

/-- The notices of the lock event: CHECK, then PERMIT, with the present cycle numbers (R105, R125; log entry 15). -/
theorem lockEvent_ports_get (ahead : s.LockAhead u) (r : Ref) (l : Link) :
    let t := (u.lockEvent r).afterJoins
    t.ports.get l = (u.ports.get l).offerAll s.clock
      (s.checkNotices t t.groupCycle ++ s.permitNotices t t.groupCycle) := by
  intro t
  have takes := afterJoins_changes (u.lockEvent r)
  have cycle : t.groupCycle = (u.lockEvent r).groupCycle :=
    groupCycle_congr (takes .trackers (by decide)) (takes .planStore (by decide))
  have checks := checkNotices_congr (s := u) (t := u.lockEvent r) (t' := t) ahead.checks.symm (takes .checks (by decide))
    (plan_of_changes takes (by decide)) t.groupCycle
  have permits := permitNotices_congr (s := u) (t := u.lockEvent r) (t' := t) ahead.verdicts.symm
    (takes .verdicts (by decide)) t.groupCycle
  rw [checks, permits, cycle, ← ahead.clock, show t.ports = (u.lockEvent r).ports from takes .ports (by decide)]
  exact examineEvent_ports_get (changes_refl causeParts u) _ _ l

theorem raiseSync_ports_get (s : State) (r : Ref) (old new : TrackerMode) (l : Link) :
    (s.raiseSync r old new).ports.get l = (s.ports.get l).offerAll s.clock
      [.sync r (s.trackers.get r).cycle old new (frequency (s.trackers.get r).period)] := raise_ports_get _ _ l

/-! ### A lock from SEEKING (R6) -/

theorem enterLocked_tracker (s : State) (r : Ref) (e : Tick) (interval : Nat) :
    (s.enterLocked r e interval).trackers.get r = ((s.trackers.get r).entersLocked e interval).started e := by
  rw [enterLocked_trackers, perRef_get_set_self]

theorem locked_changes (s : State) (r : Ref) (e : Tick) (interval : Nat) :
    State.ChangesOnly (cycleStartParts ++ [.ports]) s (s.locked r e interval) :=
  changes_comp _ (enterLocked_changes s r e interval) (raiseSync_changes _ r _ _) (by decide) (by decide)

theorem locked_ports_get (s : State) (r : Ref) (e : Tick) (interval : Nat) (l : Link) :
    (s.locked r e interval).ports.get l = (s.ports.get l).offerAll s.clock
      [.sync r ((s.trackers.get r).cycle + 1) .seeking .locked (1000000000 / interval)] := by
  have entered := enterLocked_changes s r e interval
  rw [State.locked, raiseSync_ports_get, enterLocked_tracker, show (s.enterLocked r e interval).ports = s.ports from
    entered .ports (by decide), show (s.enterLocked r e interval).clock = s.clock from entered .clock (by decide)]
  rfl

theorem locked_trackers (s : State) (r : Ref) (e : Tick) (interval : Nat) : (s.locked r e interval).trackers =
    s.trackers.set r (((s.trackers.get r).entersLocked e interval).started e) :=
  (raiseSync_changes _ r _ _ .trackers (by decide)).trans (enterLocked_trackers s r e interval)

theorem locked_isBlind (s : State) (r : Ref) (e : Tick) (interval : Nat) {g : Group} (own : s.plan.groups[g].ref = r) :
    (s.locked r e interval).isBlind g = false := by
  have mode : ((s.locked r e interval).trackers.get r).mode = .locked := by
    rw [locked_trackers, perRef_get_set_self]
    rfl
  have plan : (s.locked r e interval).plan = s.plan := plan_of_changes (locked_changes s r e interval) (by decide)
  rw [State.isBlind, State.noLock, plan, own, mode]
  rfl

theorem locked_at (s : State) (r : Ref) (e : Tick) (interval : Nat) (c : Channel) :
    (s.locked r e interval).buffers[c] =
      { s.buffers[c] with fill := ((s.locked r e interval).buffers[c]).fill } := by
  have buffers : (s.locked r e interval).buffers =
      (s.nextCycle r ((s.trackers.get r).entersLocked e interval) e).buffers :=
    raiseSync_changes _ r _ _ .buffers (by decide)
  rw [buffers]
  exact nextCycle_at s r _ e c

theorem locked_cycleStarts (s : State) (r : Ref) (e : Tick) (interval : Nat) :
    s.CycleStarts (s.locked r e interval) r (fun c => (s.buffers[c]).fill) := by
  let u := s.setTracker r ((s.trackers.get r).entersLocked e interval)
  have notice : State.ChangesOnly [.ports] (u.startCycle r e) (s.locked r e interval) := raiseSync_changes _ r _ _
  have buffers : (s.locked r e interval).buffers = (u.startCycle r e).buffers := notice .buffers (by decide)
  have cycle : (u.trackers.get r).cycle = (s.trackers.get r).cycle := by
    rw [setTracker_trackers, perRef_get_set_self]
    rfl
  exact cycleStarts_congr (startCycle_cycleStarts u r e) cycle.symm rfl rfl (fun _ => rfl) rfl rfl rfl rfl (fun _ => rfl)
    (fun c => by rw [buffers]) (fun c => by rw [buffers]) (notice .converters (by decide)) (notice .quiet (by decide))
    (notice .quietEndDue (by decide))

/-- Settles O9: the tracker enters LOCKED and its cycle starts, the SYNC notice is raised, and the lock event follows. -/
theorem lockFromSeeking : Obligations.LockFromSeeking := by
  intro r e p s calm due accepting previous low high seeking
  let x := (s.trackers.get r).edgeTaken e
  let first := s.setTracker r x
  let u := first.locked r e (e - p)
  have edge : s.acceptEdge r e = u.lockEvent r := by
    rw [acceptEdge_of_inWindow (by rw [previous]; exact classify_of_inWindow low high), seeking]
    rfl
  have before : State.ChangesOnly (cycleStartParts ++ [.ports]) s u :=
    changes_comp _ (setTracker_changes s r x) (locked_changes first r e (e - p)) (by decide) (by decide)
  have lock := lockEvent_changes u r
  have takes := afterJoins_changes (u.lockEvent r)
  have leaves := afterJoins_takesLeave (u.lockEvent r)
  have ahead : s.LockAhead u := lockAhead_of_changes before (by decide)
  have unblind := lockEvent_verdictsSet (r := r) (blind := fun _ => false) ahead fun g own => locked_isBlind first r e _ own
  have own : first.trackers.get r = x := by rw [setTracker_trackers, perRef_get_set_self]
  have ports : ∀ l, (u.lockEvent r).afterJoins.ports.get l = (s.ports.get l).offerAll s.clock
      ([.sync r ((s.trackers.get r).cycle + 1) .seeking .locked (1000000000 / (e - p))]
        ++ s.checkNotices (u.lockEvent r).afterJoins (u.lockEvent r).afterJoins.groupCycle
        ++ s.permitNotices (u.lockEvent r).afterJoins (u.lockEvent r).afterJoins.groupCycle) := by
    intro l
    rw [lockEvent_ports_get ahead r l, locked_ports_get, own, List.append_assoc]
    exact (offerAll_append (s.ports.get l) s.clock [_] _).symm
  have same : (u.lockEvent r).buffers = u.buffers := lock .buffers (by decide)
  have buffers : ∀ c : Channel, (u.lockEvent r).buffers[c] = { s.buffers[c] with
      fill := (u.buffers[c]).fill } := fun c => by
    rw [same]
    exact locked_at first r e (e - p) c
  have starts := locked_cycleStarts first r e (e - p)
  refine ⟨u.lockEvent r, (u.lockEvent r).afterJoins, ?_, rfl, ?_, ?_, ?_, ?_, ?_, ?_, fun c => ⟨?_, ?_⟩, fun g ref => ?_,
    lockEvent_causesExamined ahead r, unblind, raised_of_offerAll ports, fun earlier => ?_, ?_⟩
  · rw [exec_edgeAccepted due accepting, edge, runAll_of_calm (calm_of_offerAll calm ports)]
  · exact (lock .queue (by decide)).trans (before .queue (by decide))
  · exact (lock .engines (by decide)).trans (before .engines (by decide))
  · exact (lock .audit (by decide)).trans (before .audit (by decide))
  · exact (lock .lastJoin (by decide)).trans (before .lastJoin (by decide))
  · rw [afterJoins_trackers, show (u.lockEvent r).trackers = u.trackers from lock .trackers (by decide), locked_trackers,
      own, setTracker_trackers, perRef_set_set]
    rfl
  · refine cycleStarts_congr starts (by rw [own]; rfl) rfl rfl (fun _ => rfl) rfl rfl rfl rfl (fun _ => rfl) (fun c => ?_)
      (fun c => ?_) ?_ ?_ ?_
    · rw [takesLeave_fill leaves c, same]
    · rw [takesLeave_epoch leaves c, same]
    · exact (takes .converters (by decide)).trans (lock .converters (by decide))
    · exact (takes .quiet (by decide)).trans (lock .quiet (by decide))
    · exact (takes .quietEndDue (by decide)).trans (lock .quietEndDue (by decide))
  · exact closes_of_takes leaves (closes_none_of_held (by rw [buffers]))
  · rw [takesLeave_counters leaves c, buffers]
  · exact blind_of_verdictsSet unblind fun v => by rw [if_pos ref]
  · have unjoined : (u.lockEvent r).afterJoins = u.lockEvent r := by
      refine if_neg ?_
      rw [show (u.lockEvent r).lastJoin = s.lastJoin from (lock .lastJoin (by decide)).trans (before .lastJoin (by decide)),
        show (u.lockEvent r).now = s.now from (lock .now (by decide)).trans (before .now (by decide))]
      exact earlier
    rw [unjoined]
    exact ⟨(lock .queue (by decide)).trans (before .queue (by decide)),
      (lock .engines (by decide)).trans (before .engines (by decide)),
      (lock .audit (by decide)).trans (before .audit (by decide))⟩
  · exact changes_comp _ before (changes_comp (verdictParts ++ takeParts) lock takes (by decide) (by decide)) (by decide)
      (by decide)

end Sys2Proof.Machine
end

section
/-! SUPPORT. The events at which one cycle of a tracker ends and the next starts, or the reference is lost (R7 to R11). -/

namespace Sys2Proof.Machine

variable {s t u v : State} {r : Ref} {o : Outcome}

/-! ### Each event as the end of a cycle and what follows -/

theorem lockedEdge_eq (s : State) (r : Ref) (e : Tick) (interval : Nat) : s.lockedEdge r e interval =
    (s.endCycleFrames r (if (s.trackers.get r).nextStrobe = some 128 then .complete else .short)).nextCycle r
      { s.trackers.get r with period := interval, deadline := some (deadlineOf e interval) } e := by
  unfold State.lockedEdge
  dsimp only
  rw [endCycleFrames_trackers]
  rfl

theorem relock_eq (s : State) (r : Ref) (e : Tick) (interval : Nat) : s.relock r e interval =
    ((s.endCycleFrames r .short).nextCycle r ((s.trackers.get r).entersLocked e interval) e).raiseSync r .holding
      .locked := by
  unfold State.relock State.enterLocked
  dsimp only
  rw [endCycleFrames_trackers]
  rfl

theorem expireDeadline_eq (s : State) (r : Ref) : s.expireDeadline r =
    ((s.endCycleFrames r .held).nextCycle r (s.trackers.get r).holds s.now).raiseSync r .locked .holding := by
  unfold State.expireDeadline
  dsimp only
  rw [endCycleFrames_trackers]
  rfl

theorem endHeldCycle_of_below (below : (s.trackers.get r).heldCount < (s.plan.refs.get r).holdLimit) :
    s.endHeldCycle r = (s.endCycleFrames r .held).nextCycle r
      { s.trackers.get r with heldCount := (s.trackers.get r).heldCount + 1 } s.now := by
  unfold State.endHeldCycle
  dsimp only
  rw [endCycleFrames_trackers, if_neg (Nat.not_le.2 below)]
  rfl

theorem endHeldCycle_of_limit (limit : (s.plan.refs.get r).holdLimit ≤ (s.trackers.get r).heldCount) :
    s.endHeldCycle r = ((s.endCycleFrames r .held).lost r).lockEvent r := by
  unfold State.endHeldCycle
  dsimp only
  rw [endCycleFrames_trackers, if_pos limit]
  rfl

theorem setTracker_get (s : State) (r : Ref) : s.setTracker r (s.trackers.get r) = s := by
  rw [State.setTracker, perRef_set_get]

/-! ### A cycle turns, with the notices and the takes of its event -/

/-- The parts that such an event changes. -/
abbrev turnParts : List Part :=
  [.trackers, .buffers, .queue, .lastJoin, .engines, .audit, .converters, .quiet, .quietEndDue, .ports]

/-- All that the statements about an event at which a cycle turns have in common: `u` is the state before its takes. -/
structure State.Turns (s u : State) (r : Ref) (o : Outcome) (x : Tracker) (bs : List NoticeBody) : Prop where
  engines : u.engines = s.engines
  audit : u.audit = s.audit
  ends : s.CycleEnds u r o
  trackers : u.afterJoins.trackers = s.trackers.set r x
  turns : s.CycleTurns u.afterJoins r o
  raised : s.Raised u.afterJoins bs
  changes : State.ChangesOnly turnParts s u.afterJoins

theorem turns_of_nextCycle {x y : Tracker} {st : Tick} {bs : List NoticeBody} (sound : s.BuffersSound)
    (cycle : x.cycle = (s.trackers.get r).cycle)
    (notices : State.ChangesOnly [.ports] (((s.setTracker r y).endCycleFrames r o).nextCycle r x st) u)
    (raised : (((s.setTracker r y).endCycleFrames r o).nextCycle r x st).Raised u bs) :
    s.Turns u r o (x.started st) bs := by
  obtain ⟨ends, frames, quiet⟩ := endCycleFrames_of_trackers (setTracker_changes s r y) sound r o
  have trackers := nextCycle_trackers ((s.setTracker r y).endCycleFrames r o) r x st
  rw [endCycleFrames_trackers, setTracker_trackers, perRef_set_set] at trackers
  generalize (s.setTracker r y).endCycleFrames r o = v at ends frames quiet trackers notices raised
  have next := nextCycle_changes v r x st
  have turns := nextCycle_cycleTurns ends frames cycle st
  have takes := afterJoins_changes u
  have before : State.ChangesOnly [.trackers, .buffers, .queue, .lastJoin, .converters, .quiet, .quietEndDue, .ports] s u :=
    changes_comp _ frames (changes_comp (cycleStartParts ++ [.ports]) next notices (by decide) (by decide)) (by decide)
      (by decide)
  have same : u.buffers = (v.nextCycle r x st).buffers := notices .buffers (by decide)
  have leaves : (v.nextCycle r x st).TakesLeave u := ⟨fun c => by rw [same], fun c => by rw [same]⟩
  have turned : s.CycleTurns u r o := cycleTurns_of_takes turns leaves (notices .converters (by decide))
    (notices .quiet (by decide)) (notices .quietEndDue (by decide))
  exact {
    engines := before .engines (by decide)
    audit := before .audit (by decide)
    ends := turned.ends
    trackers := by
      rw [afterJoins_trackers, ← trackers]
      exact notices .trackers (by decide)
    turns := cycleTurns_of_takes turned (afterJoins_takesLeave u) (takes .converters (by decide)) (takes .quiet (by decide))
      (takes .quietEndDue (by decide))
    raised := by
      have clock : (v.nextCycle r x st).clock = s.clock := (next .clock (by decide)).trans (frames .clock (by decide))
      have first := raised_trans (bs := []) (cs := []) (frames .clock (by decide)) quiet
        (raised_nil_of_ports (next .ports (by decide)))
      have second := raised_trans (bs := []) clock first raised
      have all := raised_trans (cs := []) (before .clock (by decide)) second (afterJoins_raised u)
      rwa [List.append_nil] at all
    changes := changes_comp _ before takes (by decide) (by decide) }

/-- Settles O10: in LOCKED the cycle ends and the next starts, in HOLDING the tracker enters LOCKED as well. -/
theorem edgeEndsTheCycle : Obligations.EdgeEndsTheCycle := by
  intro r e p s sound due accepting previous low high notSeeking
  have class_ : classify (s.trackers.get r).previousEdge e = .inWindow (e - p) := by
    rw [previous]
    exact classify_of_inWindow low high
  have own : (s.setTracker r ((s.trackers.get r).edgeTaken e)).trackers.get r = (s.trackers.get r).edgeTaken e := by
    rw [setTracker_trackers, perRef_get_set_self]
  rw [exec_edgeAccepted due accepting, acceptEdge_of_inWindow class_]
  cases mode : (s.trackers.get r).mode with
  | seeking => exact absurd mode notSeeking
  | locked =>
    have turns := turns_of_nextCycle (u := (s.setTracker r ((s.trackers.get r).edgeTaken e)).lockedEdge r e (e - p))
      (r := r) (o := if (s.trackers.get r).nextStrobe = some 128 then .complete else .short)
      (x := { (s.trackers.get r).edgeTaken e with period := e - p, deadline := some (deadlineOf e (e - p)) })
      (y := (s.trackers.get r).edgeTaken e) (st := e) (bs := []) sound rfl
      (by rw [lockedEdge_eq, own]; exact changes_refl _ _) (by rw [lockedEdge_eq, own]; exact raised_nil_of_ports rfl)
    simp only [true_and, reduceCtorEq, if_false]
    exact ⟨_, _, rfl, rfl, turns.engines, turns.audit, turns.ends,
      turns.trackers.trans (by rw [← mode]; rfl), turns.turns.ends, turns.turns.starts,
      turns.raised, turns.changes⟩
  | holding =>
    have turns := turns_of_nextCycle (u := (s.setTracker r ((s.trackers.get r).edgeTaken e)).relock r e (e - p))
      (r := r) (o := .short) (x := ((s.trackers.get r).edgeTaken e).entersLocked e (e - p))
      (y := (s.trackers.get r).edgeTaken e) (st := e) (bs := [.sync r ((s.trackers.get r).cycle + 1) .holding .locked
        (1000000000 / (e - p))]) sound rfl
      (by rw [relock_eq, own]; exact raiseSync_changes _ r _ _)
      (by
        have notice := raiseSync_raised (((s.setTracker r ((s.trackers.get r).edgeTaken e)).endCycleFrames r
          .short).nextCycle r (((s.trackers.get r).edgeTaken e).entersLocked e (e - p)) e) r .holding .locked
        rw [nextCycle_trackers, perRef_get_set_self] at notice
        rw [relock_eq, own]
        exact notice)
    simp only [reduceCtorEq, false_and, if_false, if_true]
    exact ⟨_, _, rfl, rfl, turns.engines, turns.audit, turns.ends, turns.trackers, turns.turns.ends, turns.turns.starts,
      turns.raised, turns.changes⟩

/-! ### Held cycles and the loss of the reference (R9, R10) -/

theorem lost_changes (s : State) (r : Ref) : State.ChangesOnly [.trackers, .ports] s (s.lost r) :=
  changes_comp _ (setTracker_changes s r _) (raiseSync_changes _ r _ _) (by decide) (by decide)

theorem lost_trackers (s : State) (r : Ref) : (s.lost r).trackers = s.trackers.set r (s.trackers.get r).seeks :=
  raiseSync_changes _ r _ _ .trackers (by decide)

theorem lost_raised (s : State) (r : Ref) : s.Raised (s.lost r)
    [.sync r (s.trackers.get r).cycle .holding .seeking (1000000000 / (s.trackers.get r).period)] := by
  have notice := raiseSync_raised (s.setTracker r (s.trackers.get r).seeks) r .holding .seeking
  rw [setTracker_trackers, perRef_get_set_self] at notice
  exact raised_trans (bs := []) (t := s.setTracker r (s.trackers.get r).seeks) rfl (raised_nil_of_ports rfl) notice

/-- Without a lock BLIND follows the policy of the group (R121). -/
theorem isBlind_of_seeking {g : Group} (seeking : (s.trackers.get s.plan.groups[g].ref).mode = .seeking) :
    s.isBlind g = decide (s.plan.groups[g].blind = .withdraw) := by
  rw [State.isBlind, State.noLock, seeking]
  exact Bool.true_and _

/-- Without a lock every check of the group has a cause (R97). -/
theorem suspends_of_seeking {p : Plan} {i : CheckIx} (plan : s.plan = p)
    (seeking : (s.trackers.get p.groups[p.checkGroup i].ref).mode = .seeking) : s.suspends i = true := by
  subst plan
  rw [State.suspends, State.noLock, seeking]
  simp

/-- Settles O11: the held cycles are turns of cycles, and at the loss the lock event follows the end of the last one. -/
theorem heldCycles : Obligations.HeldCycles := by
  refine ⟨fun r s sound due => ?_, fun r s sound due below => ?_, fun r s sound due limit => ?_⟩
  · have turns := turns_of_nextCycle (u := s.expireDeadline r) (r := r) (o := .held) (x := (s.trackers.get r).holds)
      (y := s.trackers.get r) (st := s.now) (bs := [.sync r ((s.trackers.get r).cycle + 1) .locked .holding
        (1000000000 / (s.trackers.get r).period)]) sound rfl
      (by rw [setTracker_get, expireDeadline_eq]; exact raiseSync_changes _ r _ _)
      (by
        have notice := raiseSync_raised ((s.endCycleFrames r .held).nextCycle r (s.trackers.get r).holds s.now) r .locked
          .holding
        rw [nextCycle_trackers, perRef_get_set_self] at notice
        rw [setTracker_get, expireDeadline_eq]
        exact notice)
    exact ⟨_, _, congrArg Host.Outcome.next (if_pos due), rfl, turns.engines, turns.audit, turns.ends, turns.trackers,
      turns.turns.ends, turns.turns.starts, turns.raised, turns.changes⟩
  · have turns := turns_of_nextCycle (u := s.endHeldCycle r) (r := r) (o := .held)
      (x := { s.trackers.get r with heldCount := (s.trackers.get r).heldCount + 1 }) (y := s.trackers.get r) (st := s.now)
      (bs := []) sound rfl (by rw [setTracker_get, endHeldCycle_of_below below]; exact changes_refl _ _)
      (by rw [setTracker_get, endHeldCycle_of_below below]; exact raised_nil_of_ports rfl)
    exact ⟨_, _, congrArg Host.Outcome.next (if_pos due), rfl, turns.engines, turns.audit, turns.ends, turns.trackers,
      turns.turns.ends, turns.turns.starts, turns.raised, turns.changes⟩
  · obtain ⟨ends, frames, quiet⟩ := endCycleFrames_of_trackers (changes_refl _ s) sound r .held
    have exec : exec (.heldCycleEnd r) s = .next
        ((((s.endCycleFrames r .held).lost r).lockEvent r).afterJoins.runAll) := by
      rw [← endHeldCycle_of_limit limit]
      exact congrArg Host.Outcome.next (if_pos due)
    have ended := endCycleFrames_trackers s r .held
    generalize s.endCycleFrames r .held = v at ends frames quiet exec ended
    have lost := lost_changes v r
    have lock := lockEvent_changes (v.lost r) r
    have takes := afterJoins_changes ((v.lost r).lockEvent r)
    have leaves := afterJoins_takesLeave ((v.lost r).lockEvent r)
    have before : State.ChangesOnly [.trackers, .buffers, .queue, .lastJoin, .ports] s (v.lost r) :=
      changes_comp _ frames lost (by decide) (by decide)
    have ahead : s.LockAhead (v.lost r) := lockAhead_of_changes before (by decide)
    have trackers : (v.lost r).trackers = s.trackers.set r (s.trackers.get r).seeks := by rw [lost_trackers, ended]
    have seeking : ((v.lost r).trackers.get r).mode = .seeking := by
      rw [trackers, perRef_get_set_self]
      rfl
    have buffers : ((v.lost r).lockEvent r).buffers = v.buffers :=
      (lock .buffers (by decide)).trans (lost .buffers (by decide))
    have cycleEnds : s.CycleEnds ((v.lost r).lockEvent r) r .held :=
      cycleEnds_of_endsAt ends (fun c => by rw [buffers]) (fun c => by rw [buffers]) (fun c => by rw [buffers])
    have verdicts := lockEvent_verdictsSet (r := r) ahead
      (blind := fun g => decide (s.plan.groups[g].blind = .withdraw)) fun g own => by
        rw [isBlind_of_seeking (by rw [ahead.plan, own]; exact seeking), ahead.plan]
    have causes := lockEvent_causesExamined ahead r
    have after := afterJoins_trackers ((v.lost r).lockEvent r)
    rw [show ((v.lost r).lockEvent r).trackers = (v.lost r).trackers from lock .trackers (by decide)] at after
    refine ⟨_, _, exec, rfl, ?_, ?_, cycleEnds, after.trans trackers, fun c => ?_, fun c => ?_, fun g own => ?_,
      fun i enabled own state => ?_, causes, verdicts, ?_, ?_⟩
    · exact (lock .engines (by decide)).trans (before .engines (by decide))
    · exact (lock .audit (by decide)).trans (before .audit (by decide))
    · obtain ⟨closes, counters, epoch⟩ := cycleEnds c
      exact ⟨closes_of_takes leaves closes, fun none_ => (takesLeave_counters leaves c).trans (counters none_),
        (takesLeave_epoch leaves c).trans epoch⟩
    · obtain ⟨-, -, -, fill⟩ := ends c
      rw [takesLeave_fill leaves c, buffers, fill]
    · exact blind_of_verdictsSet verdicts fun v => by rw [if_pos own]
    · have suspends : ((v.lost r).lockEvent r).afterJoins.suspends i = true := by
        have plan : ((v.lost r).lockEvent r).afterJoins.plan = s.plan := (plan_of_changes takes (by decide)).trans
          ((plan_of_changes lock (by decide)).trans ahead.plan)
        refine suspends_of_seeking plan ?_
        rw [own, after]
        exact seeking
      have examined := causes i
      rw [if_pos ⟨enabled, beq_iff_eq.2 own⟩, suspends] at examined
      rw [examined]
      simp only [List.mem_cons, List.not_mem_nil, or_false] at state
      obtain state | state | state | state := state <;> rw [state] <;> rfl
    · have start := raised_trans (bs := []) (frames .clock (by decide)) quiet (lost_raised v r)
      have clock : (v.lost r).clock = s.clock := before .clock (by decide)
      have all := raised_trans clock start (raised_of_offerAll fun l => clock ▸ lockEvent_ports_get ahead r l)
      rw [ended, List.nil_append, ← List.append_assoc] at all
      exact all
    · exact changes_comp _ before (changes_comp (verdictParts ++ takeParts) lock takes (by decide) (by decide)) (by decide)
        (by decide)

end Sys2Proof.Machine
end

section
/-! SUPPORT. SAMPLE_ARRIVAL (R17, R18, R22, R23): what the assembler makes of a sample, and the frame that it may close. -/

namespace Sys2Proof.Machine

variable {s t u : State} {c : Channel} {v : Conversion} {x : Sample}

/-! ### The sample (R17, R18) -/

theorem convert_eq (analog : Int) : convert analog = BitVec.ofInt 16 (if analog < -32768 then -32768
    else if 32767 < analog then 32767 else analog) := by
  refine congrArg (BitVec.ofInt 16) ?_
  omega

theorem sampleOf_of_live (s : State) (analog : Int) (live : v.source = .live) : s.sampleOf v analog = convert analog := by
  rw [State.sampleOf, live]

theorem sampleOf_of_pattern {p : Store} (s : State) (analog : Int) (pattern : v.source = .pattern p) :
    s.sampleOf v analog = s.patterns[p][v.slot] := by
  rw [State.sampleOf, pattern]

theorem put_eq (f : Frame) (k : Slot) (x : Sample) : f.put k x = { f with
    samples := f.samples.set k (some x)
    clipped := f.clipped || decide (x.toInt = -32768 ∨ x.toInt = 32767) } := by
  rw [Frame.put, isClipped, Bool.decide_or]
  rfl

theorem arriving_some {cycle : Word} {slot : Slot} (h : s.arriving c cycle slot = some v) :
    v.cycle = cycle ∧ v.slot = slot := by
  have found := List.find?_some h
  simp only [Bool.and_eq_true, beq_iff_eq] at found
  obtain ⟨⟨cycle, slot⟩, -⟩ := found
  exact ⟨cycle, slot⟩

/-! ### What the assembler makes of it (R22, R23) -/

/-- The filling buffer once it has received the sample `x` of the conversion `v`. -/
def FillBuffer.received (v : Conversion) (x : Sample) : FillBuffer → FillBuffer
  | .idle => .idle
  | .filling f => if f.cycle = v.cycle then .filling (f.put v.slot x) else .filling f
  | .closing f next =>
    if f.cycle = v.cycle then
      if (f.put v.slot x).samples[127].isSome then fillAfterClose next else .closing (f.put v.slot x) next
    else
      match next with
      | some p =>
        if p.frame.cycle = v.cycle then .closing f (some { p with kept := some (v.slot, x) }) else .closing f (some p)
      | none => .closing f none

/-- The frame that closes at that sample. -/
def FillBuffer.closedBy (v : Conversion) (x : Sample) : FillBuffer → Option Frame
  | .closing f _ => if f.cycle = v.cycle ∧ (f.put v.slot x).samples[127].isSome = true then some (f.put v.slot x) else none
  | .idle | .filling _ => none

theorem setBuffers_fill_self (s : State) {fill : FillBuffer} (same : (s.buffers[c]).fill = fill) :
    s.setBuffers c { s.buffers[c] with fill := fill } = s := by
  subst same
  rw [State.setBuffers, show s.buffers.set c s.buffers[c] = s.buffers from Vector.set_getElem_self _]

theorem writeSample_eq (s : State) (c : Channel) (v : Conversion) (x : Sample) : s.writeSample c v x =
    match (s.buffers[c]).fill.closedBy v x with
    | some f => (s.setBuffers c { s.buffers[c] with fill := (s.buffers[c]).fill.received v x }).closeFrame f
    | none => s.setBuffers c { s.buffers[c] with fill := (s.buffers[c]).fill.received v x } := by
  have same : ∀ fill, (s.buffers[c]).fill = fill → s.setBuffers c { s.buffers[c] with fill := fill } = s := fun _ =>
    setBuffers_fill_self s
  unfold State.writeSample
  dsimp only
  cases filling : (s.buffers[c]).fill with
  | idle => exact (same _ filling).symm
  | filling f =>
    by_cases own : f.cycle = v.cycle
    · simp only [FillBuffer.closedBy, FillBuffer.received, own, if_true]
    · simp only [FillBuffer.closedBy, FillBuffer.received, own, if_false]
      exact (same _ filling).symm
  | closing f next =>
    by_cases own : f.cycle = v.cycle
    · by_cases full : (f.put v.slot x).samples[127].isSome = true
      · simp only [FillBuffer.closedBy, FillBuffer.received, Frame.complete, own, full, and_self, if_true]
      · simp only [FillBuffer.closedBy, FillBuffer.received, Frame.complete, own, full, if_true]
        rfl
    · simp only [FillBuffer.closedBy, FillBuffer.received, own, false_and, if_false]
      cases next with
      | none => exact (same _ filling).symm
      | some p =>
        dsimp only
        split
        · rfl
        · exact (same _ filling).symm

theorem closedBy_channel {f : Frame} {fill : FillBuffer} (sound : fill.Sound c) (closes : fill.closedBy v x = some f) :
    f.channel = c := by
  unfold FillBuffer.closedBy at closes
  split at closes
  · next g next =>
    split at closes
    · cases closes
      obtain ⟨⟨channel, -⟩, -⟩ := (closing_sound_iff g next c).1 sound
      exact channel
    · cases closes
  · cases closes
  · cases closes

/-- Between `s` and `u` channel `c` has received a sample: its filling buffer has become `fill`, and the frame `closed`, if
there is one, has closed. -/
structure State.Receives (s u : State) (c : Channel) (closed : Option Frame) (fill : FillBuffer) : Prop where
  closes : s.Closes u c closed
  fill : (u.buffers[c]).fill = fill
  unclosed : closed = none → (u.buffers[c]).counters = (s.buffers[c]).counters ∧
    State.ChangesOnly [.converters, .buffers] s u
  epochs : ∀ d : Channel, (u.buffers[d]).epoch = (s.buffers[d]).epoch
  others : ∀ d : Channel, d ≠ c → u.buffers[d] = s.buffers[d]
  raised : s.Raised u []

theorem writeSample_receives (sound : (s.buffers[c]).fill.Sound c) (v : Conversion) (x : Sample) :
    s.Receives (s.writeSample c v x) c ((s.buffers[c]).fill.closedBy v x) ((s.buffers[c]).fill.received v x) := by
  rw [writeSample_eq]
  cases closes : (s.buffers[c]).fill.closedBy v x with
  | some f =>
    obtain ⟨closed, fill, epoch, others⟩ := setBuffers_closeFrame (s := s) (f := f)
      (b := { s.buffers[c] with fill := (s.buffers[c]).fill.received v x }) (closedBy_channel sound closes) rfl rfl
    refine ⟨closed, fill, nofun, fun d => ?_, others, setBuffers_closeFrame_raised s c _ f⟩
    by_cases own : d = c
    · rw [own]
      exact epoch
    · exact congrArg Buffers.epoch (others d own)
  | none =>
    have at_ := setBuffers_at s c { s.buffers[c] with fill := (s.buffers[c]).fill.received v x }
    refine ⟨closes_none_of_held (by rw [at_]), by rw [at_], fun _ => ⟨by rw [at_],
      changes_mono (setBuffers_changes s c _) (by decide)⟩, fun d => ?_, fun d ne => setBuffers_at_ne s ne _,
      raised_nil_of_ports rfl⟩
    by_cases own : d = c
    · rw [own, at_]
    · rw [setBuffers_at_ne s own]

theorem arriveSample_receives (sound : (s.buffers[c]).fill.Sound c) (v : Conversion) (analog : Int) :
    s.Receives (s.arriveSample c v analog) c
      (if v.handed = true then (s.buffers[c]).fill.closedBy v (s.sampleOf v analog) else none)
      (if v.handed = true then (s.buffers[c]).fill.received v (s.sampleOf v analog) else (s.buffers[c]).fill) := by
  let u := s.setConverter c { s.converters[c] with inFlight := s.converters[c].inFlight.erase v }
  have ends : State.ChangesOnly [.converters] s u := setConverter_changes s c _
  have quiet : s.Raised u [] := raised_nil_of_ports rfl
  cases handed : v.handed with
  | true =>
    have received : u.Receives (u.writeSample c v (s.sampleOf v analog)) c _ _ := writeSample_receives (s := u) sound v _
    have arrive : s.arriveSample c v analog = u.writeSample c v (s.sampleOf v analog) := if_pos handed
    rw [arrive, if_pos rfl, if_pos rfl]
    exact {
      closes := received.closes
      fill := received.fill
      unclosed := fun none_ => by
        obtain ⟨counters, changes⟩ := received.unclosed none_
        exact ⟨counters, changes_comp _ ends changes (by decide) (by decide)⟩
      epochs := received.epochs
      others := received.others
      raised := raised_trans (bs := []) (cs := []) rfl quiet received.raised }
  | false =>
    have arrive : s.arriveSample c v analog = u := if_neg (by rw [handed]; decide)
    rw [arrive, if_neg (by decide), if_neg (by decide)]
    exact ⟨closes_none_of_held rfl, rfl, fun _ => ⟨rfl, changes_mono ends (by decide)⟩, fun _ => rfl, fun _ _ => rfl, quiet⟩

theorem arriveSample_converters (s : State) (c : Channel) (v : Conversion) (analog : Int) :
    (s.arriveSample c v analog).converters =
      s.converters.set c { s.converters[c] with inFlight := (s.converters[c]).inFlight.erase v } := by
  unfold State.arriveSample
  dsimp only
  split
  · exact writeSample_changes _ c v _ .converters (by decide)
  · rfl

theorem fillAfterClose_some (p : PendingStart) : fillAfterClose (some p) = match p.kept with
    | none => .filling p.frame
    | some (k, y) => .filling { p.frame with
        samples := p.frame.samples.set k (some y)
        clipped := p.frame.clipped || decide (y.toInt = -32768 ∨ y.toInt = 32767) } := by
  cases kept : p.kept with
  | none => simp only [fillAfterClose, PendingStart.enter, kept]
  | some x => simp only [fillAfterClose, PendingStart.enter, kept, put_eq]

/-- A sample that is not handed on, or of no frame of the buffer, is discarded (R22). -/
theorem discarded_fill {fill : FillBuffer} (discarded : v.handed = false ∨ (match fill with
      | .idle => True
      | .filling f => f.cycle ≠ v.cycle
      | .closing f none => f.cycle ≠ v.cycle
      | .closing f (some p) => f.cycle ≠ v.cycle ∧ p.frame.cycle ≠ v.cycle)) :
    (if v.handed = true then fill.received v x else fill) = fill := by
  split
  · next handed =>
    have foreign := discarded.resolve_left (by rw [handed]; decide)
    match fill with
    | .idle => rfl
    | .filling f => exact if_neg foreign
    | .closing f none => exact if_neg foreign
    | .closing f (some p) => exact (if_neg foreign.1).trans (if_neg foreign.2)
  · rfl

/-- A frame closes at a sample of its own cycle alone, once it is closing (R23). -/
theorem unclosed_closedBy {fill : FillBuffer}
    (unclosed : v.handed = false ∨ ∀ f next, fill = .closing f next → f.cycle ≠ v.cycle) :
    (if v.handed = true then fill.closedBy v x else none) = none := by
  split
  · next handed =>
    have foreign := unclosed.resolve_left (by rw [handed]; decide)
    match fill with
    | .idle => rfl
    | .filling f => rfl
    | .closing f next => exact if_neg fun both => foreign f next rfl both.1
  · rfl

/-- Settles O13: the sample is received (`arriveSample_receives`), and the takes leave what it has made of the buffers. -/
theorem sampleFillsItsSlot : Obligations.SampleFillsItsSlot := by
  intro c cycle slot analog s v sound arriving written
  obtain ⟨rfl, rfl⟩ := arriving_some arriving
  have exec : exec (.sampleArrival c v.cycle v.slot analog) s =
      .next (s.arriveSample c v analog).afterJoins.runAll := by
    unfold exec execSampleArrival
    dsimp only
    rw [arriving]
  have received := arriveSample_receives (sound c).1 v analog
  have changes := arriveSample_changes s c v analog
  have converters := arriveSample_converters s c v analog
  have takes := afterJoins_changes (s.arriveSample c v analog)
  have leaves := afterJoins_takesLeave (s.arriveSample c v analog)
  have written_eq : ∀ f k x, written f k x = f.put k x := fun f k x => (put_eq f k x).symm
  generalize s.arriveSample c v analog = u at exec received changes converters takes leaves
  have sameConverters : u.afterJoins.converters = u.converters := takes .converters (by decide)
  refine ⟨u, u.afterJoins, s.sampleOf v analog, exec, rfl, changes .engines (by decide), changes .audit (by decide),
    fun d => (takesLeave_epoch leaves d).trans (received.epochs d), fun live => ?_, fun p pattern => ?_, ?_,
    fun f handed filling own => ?_, fun f next handed closing own => ?_, fun f p handed closing other own => ?_,
    fun discarded => ?_, fun unclosed => ?_, fun d ne => ⟨?_, ?_, ?_, ?_⟩, ?_, ?_⟩
  · rw [sampleOf_of_live s analog live, convert_eq]
  · exact sampleOf_of_pattern s analog pattern
  · rw [sameConverters, converters, vector_getElem_set_self]
  · rw [takesLeave_fill leaves, received.fill, if_pos handed, filling, FillBuffer.received, if_pos own, written_eq]
  · have closes := received.closes
    have fill := received.fill
    rw [if_pos handed, closing] at closes fill
    simp only [FillBuffer.closedBy, FillBuffer.received, own, true_and, if_true] at closes fill
    rw [written_eq]
    split
    · next full =>
      rw [if_pos full] at closes fill
      refine ⟨closes_of_takes leaves closes, ?_⟩
      rw [takesLeave_fill leaves, fill]
      cases next with
      | none => rfl
      | some p => exact fillAfterClose_some p
    · next more =>
      rw [if_neg more] at closes fill
      obtain ⟨counters, -⟩ := received.unclosed (by
        rw [if_pos handed, closing]
        exact if_neg fun both => more both.2)
      exact ⟨(takesLeave_fill leaves c).trans fill, closes_of_takes leaves closes,
        (takesLeave_counters leaves c).trans counters⟩
  · rw [takesLeave_fill leaves, received.fill, if_pos handed, closing]
    simp only [FillBuffer.received, other, own, if_true, if_false]
  · rw [takesLeave_fill leaves, received.fill]
    exact discarded_fill discarded
  · have none_ := unclosed_closedBy (x := s.sampleOf v analog) unclosed
    obtain ⟨counters, within⟩ := received.unclosed none_
    have closes := received.closes
    rw [none_] at closes
    refine ⟨closes_of_takes leaves closes, (takesLeave_counters leaves c).trans counters, fun earlier => ?_⟩
    have unjoined : u.afterJoins = u := by
      refine if_neg ?_
      rw [show u.lastJoin = s.lastJoin from within .lastJoin (by decide), show u.now = s.now from within .now (by decide)]
      exact earlier
    rw [unjoined]
    exact within
  · rw [sameConverters, converters, vector_getElem_set_ne _ ne]
  · rw [takesLeave_fill leaves, received.others d ne]
  · rw [takesLeave_counters leaves, received.others d ne]
  · exact closes_of_takes leaves (closes_none_of_held (by rw [received.others d ne]))
  · exact raised_trans (bs := []) (cs := []) (changes .clock (by decide)) received.raised (afterJoins_raised u)
  · exact changes_comp _ changes takes (by decide) (by decide)

end Sys2Proof.Machine
end

section
/-! SUPPORT. What an activation does to the channels (R17, R32 to R34, R76): what it leaves of a channel it does not act
on, what acting on one makes of its own, and which frames leave the held buffers, the queue and the kept results. -/

namespace Sys2Proof.Machine

variable {s t u : State}

/-! ### One channel (R17, R20, R33, R34) -/

/-- Between `s` and `t` channel `c` keeps all that is its own, but that its held buffer may be emptied and, when the plan
`p` has the channel disabled, its filling buffer too. -/
structure State.KeepsChannel (p : Plan) (c : Channel) (s t : State) : Prop where
  records : t.records[c] = s.records[c]
  converters : t.converters[c] = s.converters[c]
  counters : (t.buffers[c]).counters = (s.buffers[c]).counters
  epoch : (t.buffers[c]).epoch = (s.buffers[c]).epoch
  fill : (t.buffers[c]).fill = (s.buffers[c]).fill ∨ (t.buffers[c]).fill = .idle ∧ p.channels[c].enabled = false
  held : (t.buffers[c]).held = (s.buffers[c]).held ∨ (t.buffers[c]).held = none

section
variable {p : Plan} {c : Channel}

theorem keepsChannel_of_same (records : t.records = s.records) (converters : t.converters = s.converters)
    (buffers : (t.buffers[c]).counters = (s.buffers[c]).counters ∧ (t.buffers[c]).epoch = (s.buffers[c]).epoch ∧
      (t.buffers[c]).fill = (s.buffers[c]).fill)
    (held : (t.buffers[c]).held = (s.buffers[c]).held ∨ (t.buffers[c]).held = none) : State.KeepsChannel p c s t :=
  ⟨by rw [records], by rw [converters], buffers.1, buffers.2.1, .inl buffers.2.2, held⟩

theorem keepsChannel_of_changes {A : List Part} (h : State.ChangesOnly A s t)
    (apart : ∀ p ∈ [Part.records, .converters, .buffers], p ∉ A) : State.KeepsChannel p c s t := by
  have buffers : t.buffers = s.buffers := h .buffers (apart _ (by decide))
  refine keepsChannel_of_same (h .records (apart _ (by decide))) (h .converters (apart _ (by decide))) ?_ (.inl ?_)
  · rw [buffers]
    exact ⟨rfl, rfl, rfl⟩
  · rw [buffers]

theorem keepsChannel_refl (s : State) : State.KeepsChannel p c s s :=
  ⟨rfl, rfl, rfl, rfl, .inl rfl, .inl rfl⟩

theorem keepsChannel_trans (h : State.KeepsChannel p c s t) (k : State.KeepsChannel p c t u) :
    State.KeepsChannel p c s u where
  records := k.records.trans h.records
  converters := k.converters.trans h.converters
  counters := k.counters.trans h.counters
  epoch := k.epoch.trans h.epoch
  fill := by
    obtain same | idle := k.fill
    · rw [same]
      exact h.fill
    · exact .inr idle
  held := by
    obtain same | none := k.held
    · rw [same]
      exact h.held
    · exact .inr none

theorem keepsChannel_foldl {α : Type} {f : State → α → State} (xs : List α)
    (h : ∀ (s : State) x, x ∈ xs → State.KeepsChannel p c s (f s x)) (s : State) :
    State.KeepsChannel p c s (xs.foldl f s) := by
  induction xs generalizing s with
  | nil => exact keepsChannel_refl s
  | cons x xs ih => exact keepsChannel_trans (h s x (.head _)) (ih (fun s y hy => h s y (.tail _ hy)) _)

/-- What an activation makes of a channel stays so while the channel keeps what is its own. -/
theorem channelActivated_of_keeps {k : ChannelCase} (h : s.ChannelActivated t c k) (keeps : State.KeepsChannel p c t u)
    (plan : t.plan = p) (plan' : u.plan = p) (enabled : k = .enabled → p.channels[c].enabled = true) :
    s.ChannelActivated u c k := by
  have on : p.channels[c].enabled = true → (u.buffers[c]).fill = (t.buffers[c]).fill := fun on => by
    obtain same | ⟨-, off⟩ := keeps.fill
    · exact same
    · exact absurd (on.symm.trans off) nofun
  have emptied : t.records[c] = none ∧ (t.buffers[c]).fill = .idle ∧ (t.buffers[c]).held = none →
      u.records[c] = none ∧ (u.buffers[c]).fill = .idle ∧ (u.buffers[c]).held = none := by
    rintro ⟨records, fill, held⟩
    refine ⟨keeps.records.trans records, ?_, ?_⟩
    · exact keeps.fill.elim (·.trans fill) fun ⟨idle, _⟩ => idle
    · exact keeps.held.elim (·.trans held) id
  obtain ⟨counters, epoch, own⟩ := h
  refine ⟨keeps.counters.trans counters, keeps.epoch.trans epoch, ?_⟩
  cases k with
  | unchanged =>
    obtain ⟨records, converters, fill⟩ := own
    refine ⟨keeps.records.trans records, keeps.converters.trans converters, ?_⟩
    rw [plan']
    rw [plan] at fill
    exact fun enabled => (on enabled).trans (fill enabled)
  | enabled =>
    obtain ⟨records, converters, fill⟩ := own
    exact ⟨keeps.records.trans records, keeps.converters.trans converters, (on (enabled rfl)).trans fill⟩
  | disabled =>
    obtain ⟨empty, converters⟩ := own
    exact ⟨emptied empty, keeps.converters.trans converters⟩
  | changed =>
    obtain ⟨empty, converters⟩ := own
    refine ⟨emptied empty, keeps.converters.trans ?_⟩
    rw [plan']
    rw [plan] at converters
    exact converters

end

/-! ### Which channels an activation empties (R32) -/

/-- An activation that puts `new` in the place of `old` takes channel `c` what it held (R33). -/
abbrev Plan.Empties (old new : Plan) (c : Channel) : Prop :=
  old.channelCase new c = .disabled ∨ old.channelCase new c = .changed

/-- An activation that puts `new` in the place of `old` leaves channel `c` what it held (R33, R34). -/
abbrev Plan.Spares (old new : Plan) (c : Channel) : Prop :=
  old.channelCase new c = .unchanged ∨ old.channelCase new c = .enabled

theorem not_empties_iff (old new : Plan) (c : Channel) : ¬old.Empties new c ↔ old.Spares new c := by
  unfold Plan.Empties Plan.Spares
  cases old.channelCase new c <;> simp

theorem enabled_of_channelCase {old new : Plan} {c : Channel} (h : old.channelCase new c = .enabled) :
    new.channels[c].enabled = true := by
  unfold Plan.channelCase at h
  split at h
  case h_1 on => exact on
  case h_3 =>
    split at h
    · cases h
    · cases h
  all_goals cases h

/-! ### The buffered frame that is removed (R33, R64) -/

theorem settle_audit (s : State) (c : Channel) (j : Nat) : (s.settle c j).audit = s.audit :=
  settle_changes s c j .audit (by decide)

theorem settle_engines (s : State) (c : Channel) (j : Nat) : (s.settle c j).engines = s.engines :=
  settle_changes s c j .engines (by decide)

theorem settle_keepsChannel (s : State) (c d : Channel) (j : Nat) {p : Plan} :
    State.KeepsChannel p d s (s.settle c j) := by
  have changes := settle_changes s c j
  have settles := settle_settles s c j
  refine keepsChannel_of_same (changes .records (by decide)) (changes .converters (by decide)) ?_ ?_
  · rw [settles_buffers settles d]
    exact ⟨rfl, rfl, rfl⟩
  · rw [settles.1 d]
    split
    · next own =>
      subst own
      show heldAfter j (s.buffers[d]).held = _ ∨ heldAfter j (s.buffers[d]).held = none
      cases (s.buffers[d]).held with
      | none => exact .inl rfl
      | some f =>
        by_cases same : f.joinOrder = j
        · exact .inr (if_pos same)
        · exact .inl (if_neg same)
    · exact .inl rfl

/-- The held buffer of channel `c` has been emptied. -/
def State.unheld (s : State) (c : Channel) : State := s.setBuffers c { s.buffers[c] with held := none }

theorem unheld_buffers (s : State) (c d : Channel) :
    (s.unheld c).buffers[d] = if d = c then { s.buffers[c] with held := none } else s.buffers[d] :=
  vector_getElem_set _ _ _ _

theorem unheld_keepsChannel (s : State) (c d : Channel) {p : Plan} : State.KeepsChannel p d s (s.unheld c) := by
  refine keepsChannel_of_same rfl rfl ?_ ?_ <;> rw [unheld_buffers]
  · split
    · next own => exact own ▸ ⟨rfl, rfl, rfl⟩
    · exact ⟨rfl, rfl, rfl⟩
  · split
    · exact .inr rfl
    · exact .inl rfl

theorem removeBuffered_of_empty {c : Channel} (h : (s.buffers[c]).held = none) : s.removeBuffered c = s := by
  unfold State.removeBuffered
  dsimp only
  rw [h]

section
variable {c : Channel} {f : Frame}

theorem removeBuffered_of_unqueued (held : (s.buffers[c]).held = some f) (unqueued : c ∉ s.queue) :
    s.removeBuffered c = s.unheld c := by
  unfold State.removeBuffered
  dsimp only
  rw [held]
  exact if_neg unqueued

theorem removeBuffered_of_untaken (held : (s.buffers[c]).held = some f) (queued : c ∈ s.queue)
    (untaken : (f.engines.e1 || f.engines.e2) = false) :
    s.removeBuffered c = ((s.unheld c).dequeue c).settle c f.joinOrder := by
  unfold State.removeBuffered
  dsimp only
  rw [held]
  dsimp only
  rw [if_pos queued, if_pos (by simp [untaken])]
  rfl

theorem removeBuffered_of_kept {k : Kept} (held : (s.buffers[c]).held = some f) (queued : c ∈ s.queue)
    (taken : (f.engines.e1 || f.engines.e2) = true) (kept : s.audit.kept[c] = some k) :
    s.removeBuffered c = (((s.unheld c).dequeue c).setKept c none).dropResult k.result := by
  unfold State.removeBuffered
  dsimp only
  rw [held]
  dsimp only
  rw [if_pos queued, if_neg (by simp [taken]), dequeue_audit, setBuffers_audit, kept]
  rfl

theorem removeBuffered_of_running (held : (s.buffers[c]).held = some f) (queued : c ∈ s.queue)
    (taken : (f.engines.e1 || f.engines.e2) = true) (unkept : s.audit.kept[c] = none) :
    s.removeBuffered c = (((s.unheld c).dequeue c).setRole .e1 c .removed).setRole .e2 c .removed := by
  unfold State.removeBuffered
  dsimp only
  rw [held]
  dsimp only
  rw [if_pos queued, if_neg (by simp [taken]), dequeue_audit, setBuffers_audit, unkept]
  rfl

end

/-- Beside the held buffer of its own channel, the removal of a buffered frame empties at most other held buffers. -/
theorem removeBuffered_keepsChannel (s : State) (c d : Channel) {p : Plan} :
    State.KeepsChannel p d (s.unheld c) (s.removeBuffered c) := by
  have dequeued : State.KeepsChannel p d (s.unheld c) ((s.unheld c).dequeue c) :=
    keepsChannel_of_changes (dequeue_changes _ c) (by decide)
  cases held : (s.buffers[c]).held with
  | none =>
    rw [removeBuffered_of_empty held]
    refine keepsChannel_of_same rfl rfl ?_ (.inl ?_) <;> rw [unheld_buffers]
    · split
      · next own => exact own ▸ ⟨rfl, rfl, rfl⟩
      · exact ⟨rfl, rfl, rfl⟩
    · split
      · next own => exact own ▸ held
      · rfl
  | some f =>
    by_cases queued : c ∈ s.queue
    · cases taken : f.engines.e1 || f.engines.e2 with
      | false =>
        rw [removeBuffered_of_untaken held queued taken]
        exact keepsChannel_trans dequeued (settle_keepsChannel _ c d _)
      | true =>
        cases kept : s.audit.kept[c] with
        | none =>
          rw [removeBuffered_of_running held queued taken kept]
          exact keepsChannel_trans dequeued (keepsChannel_trans
            (keepsChannel_of_changes (setRole_changes _ .e1 c _) (by decide))
            (keepsChannel_of_changes (setRole_changes _ .e2 c _) (by decide)))
        | some k =>
          rw [removeBuffered_of_kept held queued taken kept]
          exact keepsChannel_trans dequeued (keepsChannel_trans
            (keepsChannel_of_changes (setKept_changes _ c none) (by decide)) (settle_keepsChannel _ _ d _))
    · rw [removeBuffered_of_unqueued held queued]
      exact keepsChannel_refl _

/-! ### What acting on a channel makes of it -/

/-- Channel `c` as `State.emptyChannel` finds it when it comes to the held buffer: its epoch has moved on, its filling
buffer is empty, and its conversions hand over no sample. -/
def State.refilled (s : State) (c : Channel) : State :=
  (s.setBuffers c { s.buffers[c] with epoch := s.buffers[c].epoch + 1, fill := .idle }).setConverter c
    { s.converters[c] with inFlight := s.converters[c].inFlight.map (fun v => { v with handed := false }) }

theorem emptyChannel_eq (s : State) (c : Channel) :
    s.emptyChannel c = ((s.refilled c).removeBuffered c).setRecord c none := rfl

theorem refilled_buffers (s : State) (c d : Channel) : (s.refilled c).buffers[d] =
    if d = c then { s.buffers[c] with epoch := s.buffers[c].epoch + 1, fill := .idle } else s.buffers[d] :=
  vector_getElem_set _ _ _ _

theorem setConverter_keepsChannel (s : State) {c d : Channel} (apart : d ≠ c) (x : Converter) {p : Plan} :
    State.KeepsChannel p d s (s.setConverter c x) :=
  ⟨rfl, vector_getElem_set_ne _ apart _, rfl, rfl, .inl rfl, .inl rfl⟩

theorem setBuffers_keepsChannel (s : State) {c d : Channel} (apart : d ≠ c) (b : Buffers) {p : Plan} :
    State.KeepsChannel p d s (s.setBuffers c b) := by
  refine keepsChannel_of_same rfl rfl ?_ (.inl ?_) <;> rw [setBuffers_at_ne s apart]
  exact ⟨rfl, rfl, rfl⟩

theorem setRecord_keepsChannel (s : State) {c d : Channel} (apart : d ≠ c) (x : Option ResultRecord) {p : Plan} :
    State.KeepsChannel p d s (s.setRecord c x) :=
  ⟨vector_getElem_set_ne _ apart _, rfl, rfl, rfl, .inl rfl, .inl rfl⟩

theorem emptyChannel_keepsChannel (s : State) {c d : Channel} (apart : d ≠ c) {p : Plan} :
    State.KeepsChannel p d s (s.emptyChannel c) := by
  rw [emptyChannel_eq]
  exact keepsChannel_trans (keepsChannel_trans (setBuffers_keepsChannel s apart _) (setConverter_keepsChannel _ apart _))
    (keepsChannel_trans (keepsChannel_trans (unheld_keepsChannel _ c d) (removeBuffered_keepsChannel _ c d))
      (setRecord_keepsChannel _ apart _))

/-- An activation acts on each channel apart, but for frames of others it finds settled. -/
theorem activateChannel_keepsChannel (old : Plan) (s : State) {c d : Channel} (apart : d ≠ c) {p : Plan} :
    State.KeepsChannel p d s (State.activateChannel old s c) := by
  have disarm : ∀ u : State, State.KeepsChannel p d u (u.disarm c) := fun u => setConverter_keepsChannel u apart _
  have empty : State.KeepsChannel p d s (s.emptyChannel c) := emptyChannel_keepsChannel s apart
  unfold State.activateChannel
  split
  · exact keepsChannel_refl s
  · exact keepsChannel_trans (setBuffers_keepsChannel s apart _) (disarm _)
  · exact keepsChannel_trans empty (disarm _)
  · split
    · exact empty
    · exact keepsChannel_trans empty (disarm _)

/-- Channel `c` has been emptied between `s` and `t` (R33, R34, R76). -/
structure State.ChannelEmptied (c : Channel) (s t : State) : Prop where
  records : t.records[c] = none
  fill : (t.buffers[c]).fill = .idle
  held : (t.buffers[c]).held = none
  counters : (t.buffers[c]).counters = (s.buffers[c]).counters
  epoch : (t.buffers[c]).epoch = (s.buffers[c]).epoch + 1
  converters : t.converters[c] = { s.converters[c] with
    inFlight := (s.converters[c]).inFlight.map (fun v => { v with handed := false }) }

theorem emptyChannel_emptied (s : State) (c : Channel) : State.ChannelEmptied c s (s.emptyChannel c) := by
  have keeps : State.KeepsChannel s.plan c ((s.refilled c).unheld c) ((s.refilled c).removeBuffered c) :=
    removeBuffered_keepsChannel _ c c
  have before : ((s.refilled c).unheld c).buffers[c] =
      { s.buffers[c] with epoch := s.buffers[c].epoch + 1, fill := .idle, held := none } := by
    rw [unheld_buffers, if_pos rfl, refilled_buffers, if_pos rfl]
  obtain ⟨-, converters, counters, epoch, fill, held⟩ := keeps
  rw [before] at counters epoch fill held
  rw [emptyChannel_eq]
  exact ⟨vector_getElem_set_self _ _ _, fill.elim id And.left, held.elim id id, counters, epoch,
    converters.trans (vector_getElem_set_self _ _ _)⟩

theorem disarm_converters (s : State) (c : Channel) :
    (s.disarm c).converters[c] = { s.converters[c] with armed := false } := vector_getElem_set_self _ _ _

/-- What an activation makes of a channel, when the channel is still as the activation found it. -/
theorem activateChannel_activated {c : Channel} {p : Plan} (keeps : State.KeepsChannel p c s t) (plan : t.plan = p) :
    s.ChannelActivated (State.activateChannel s.plan t c) c (s.plan.channelCase p c) := by
  obtain ⟨records, converters, counters, epoch, fill, held⟩ := keeps
  have on : p.channels[c].enabled = true → (t.buffers[c]).fill = (s.buffers[c]).fill := fun on =>
    fill.elim id fun ⟨_, off⟩ => absurd (on.symm.trans off) nofun
  have empty := emptyChannel_emptied t c
  unfold State.activateChannel
  rw [plan]
  cases case_ : s.plan.channelCase p c with
  | unchanged =>
    refine ⟨counters, epoch, records, converters, fun enabled => on ?_⟩
    rwa [plan] at enabled
  | enabled =>
    have advanced : ((t.advanceEpoch c).disarm c).buffers[c] = { t.buffers[c] with epoch := t.buffers[c].epoch + 1 } :=
      setBuffers_at t c _
    refine ⟨?_, ?_, records, ?_, ?_⟩
    · dsimp only
      rw [advanced]
      exact counters
    · dsimp only
      rw [advanced, ← epoch]
    · dsimp only
      rw [disarm_converters, ← converters]
      rfl
    · dsimp only
      rw [advanced]
      exact on (enabled_of_channelCase case_)
  | disabled =>
    refine ⟨empty.counters.trans counters, by rw [← epoch]; exact empty.epoch,
      ⟨empty.records, empty.fill, empty.held⟩, ?_⟩
    dsimp only
    rw [disarm_converters, empty.converters, converters]
  | changed =>
    dsimp only
    split
    · next same =>
      have refs : (t.emptyChannel c).plan = p := (plan_of_changes (emptyChannel_changes t c) (by decide)).trans plan
      refine ⟨empty.counters.trans counters, by rw [← epoch]; exact empty.epoch,
        ⟨empty.records, empty.fill, empty.held⟩, ?_⟩
      rw [empty.converters, converters, refs, decide_eq_true same, Bool.and_true]
    · next differ =>
      have refs : ((t.emptyChannel c).disarm c).plan = p :=
        (plan_of_changes (emptyChannel_changes t c) (by decide)).trans plan
      refine ⟨empty.counters.trans counters, by rw [← epoch]; exact empty.epoch,
        ⟨empty.records, empty.fill, empty.held⟩, ?_⟩
      rw [disarm_converters, empty.converters, converters, refs, decide_eq_false differ, Bool.and_false]

end Sys2Proof.Machine
end

section
/-! SUPPORT. The frames that an activation takes out of the held buffers and the queue, and what becomes of those that an
engine still has in hand (R33, R51, R55, R64). -/

namespace Sys2Proof.Machine

variable {s t u : State}

/-- A frame of channel `c` waits in the queue while an engine has it or has had it. -/
def State.waitsTaken (s : State) (c : Channel) : Bool :=
  decide (c ∈ s.queue) && (s.buffers[c]).held.any (fun f => f.engines.e1 || f.engines.e2)

/-- An engine that has a frame of channel `c` in hand is to drop its result, once the frames of the channels `gone` have
been removed (R64). -/
def State.orphans (s : State) (gone : Channel → Bool) (c : Channel) : Bool :=
  gone c && s.waitsTaken c && (s.audit.kept[c]).isNone

/-- The frame in hand, once the frames of the channels `gone` have been removed. -/
def State.handAfter (s : State) (gone : Channel → Bool) (h : Hand) : Hand :=
  if s.orphans gone h.frame.channel = true then { h with role := .removed } else h

/-- Between `s` and `t` the frames of the channels `gone` have been removed from the held buffers and the queue. -/
structure State.Removes (gone : Channel → Bool) (s t : State) : Prop where
  held : ∀ c : Channel, (t.buffers[c]).held = if gone c = true then none else (s.buffers[c]).held
  kept : ∀ c : Channel, t.audit.kept[c] = if (gone c && s.waitsTaken c) = true then none else s.audit.kept[c]
  queue : t.queue = s.queue.filter (fun c => !(gone c && (s.buffers[c]).held.isSome))
  engines : ∀ e, t.engines.get e =
    { s.engines.get e with hand := (s.engines.get e).hand.map (s.handAfter gone) }

theorem removes_of_same (held : ∀ c : Channel, (t.buffers[c]).held = (s.buffers[c]).held) (audit : t.audit = s.audit)
    (queue : t.queue = s.queue) (engines : t.engines = s.engines) : s.Removes (fun _ => false) t where
  held := held
  kept := fun c => by rw [audit]; rfl
  queue := by simp [queue]
  engines := fun e => by
    have stays : s.handAfter (fun _ => false) = id := funext fun h => if_neg nofun
    rw [engines, stays, Option.map_id, id]

theorem removes_of_changes {A : List Part} (h : State.ChangesOnly A s t)
    (apart : ∀ p ∈ [Part.buffers, .audit, .queue, .engines], p ∉ A) : s.Removes (fun _ => false) t := by
  have buffers : t.buffers = s.buffers := h .buffers (apart _ (by decide))
  exact removes_of_same (fun c => by rw [buffers]) (h .audit (apart _ (by decide))) (h .queue (apart _ (by decide)))
    (h .engines (apart _ (by decide)))

/-- A frame whose place in the queue has been taken from it waits no more, and no other frame is touched. -/
theorem removes_waitsTaken {gone : Channel → Bool} (h : s.Removes gone t) (c : Channel) :
    t.waitsTaken c = (!gone c && s.waitsTaken c) := by
  unfold State.waitsTaken
  rw [h.held, h.queue]
  cases own : gone c with
  | true => simp
  | false => simp [own]

theorem removes_orphans {a : Channel → Bool} (h : s.Removes a t) (b : Channel → Bool) (c : Channel) :
    t.orphans b c = (!a c && s.orphans b c) := by
  unfold State.orphans
  rw [removes_waitsTaken h, h.kept]
  cases a c <;> cases b c <;> rfl

theorem removes_handAfter {a : Channel → Bool} (h : s.Removes a t) (b : Channel → Bool) (x : Hand) :
    t.handAfter b (s.handAfter a x) = s.handAfter (fun c => a c || b c) x := by
  have both : s.orphans (fun c => a c || b c) x.frame.channel =
      (s.orphans a x.frame.channel || t.orphans b x.frame.channel) := by
    rw [removes_orphans h]
    dsimp only [State.orphans]
    cases a x.frame.channel <;> cases b x.frame.channel <;> simp
  unfold State.handAfter
  rw [both]
  cases s.orphans a x.frame.channel with
  | true => simp
  | false => simp

theorem removes_trans {a b : Channel → Bool} (h : s.Removes a t) (k : t.Removes b u) :
    s.Removes (fun c => a c || b c) u where
  held := fun c => by
    rw [k.held, h.held]
    cases a c <;> cases b c <;> rfl
  kept := fun c => by
    rw [k.kept, h.kept, removes_waitsTaken h]
    cases a c <;> cases b c <;> cases s.waitsTaken c <;> rfl
  queue := by
    rw [k.queue, h.queue, List.filter_filter]
    refine List.filter_congr fun c _ => ?_
    rw [h.held]
    cases a c <;> cases b c <;> simp
  engines := fun e => by
    rw [k.engines, h.engines, Option.map_map]
    exact congrArg (fun f => { s.engines.get e with hand := (s.engines.get e).hand.map f })
      (funext fun x => removes_handAfter h b x)

theorem removes_congr {a b : Channel → Bool} (h : s.Removes a t) (same : ∀ c, b c = a c) : s.Removes b t := by
  obtain rfl : b = a := funext same
  exact h

theorem removes_keptSound {gone : Channel → Bool} (h : s.Removes gone t) (sound : s.KeptSound) : t.KeptSound := by
  intro c k kept
  rw [h.kept] at kept
  split at kept
  · cases kept
  · exact sound c k kept

/-! ### The frame of one channel -/

/-- The one channel `c`. -/
def onlyChannel (c : Channel) : Channel → Bool := fun d => decide (d = c)

@[simp] theorem onlyChannel_self (c : Channel) : onlyChannel c c = true := decide_eq_true rfl

theorem onlyChannel_ne {c d : Channel} (h : d ≠ c) : onlyChannel c d = false := decide_eq_false h

theorem onlyChannel_iff {c d : Channel} : onlyChannel c d = true ↔ d = c := decide_eq_true_iff

theorem unheld_held (s : State) (c d : Channel) :
    ((s.unheld c).buffers[d]).held = if onlyChannel c d = true then none else (s.buffers[d]).held := by
  rw [unheld_buffers]
  by_cases own : d = c
  · rw [if_pos own, if_pos (onlyChannel_iff.2 own)]
  · rw [if_neg own, if_neg fun h => own (onlyChannel_iff.1 h)]

/-- A settling finds no frame in a held buffer that has been emptied. -/
theorem settle_of_empty {c : Channel} (h : (s.buffers[c]).held = none) (j : Nat) :
    (s.settle c j).buffers = s.buffers ∧ (s.settle c j).queue = s.queue := by
  have stays : s.release c j = s := release_of_ne fun f held => absurd (h.symm.trans held) nofun
  rw [settle_buffers, settle_queue, stays]
  exact ⟨rfl, rfl⟩

section
variable {c : Channel}

/-- The channel's frame has left its held buffer and the queue, and no engine has had it. -/
theorem removes_of_untaken (untaken : s.waitsTaken c = false)
    (held : ∀ d : Channel, (t.buffers[d]).held = if onlyChannel c d = true then none else (s.buffers[d]).held)
    (queue : t.queue = s.queue.filter (fun d => !(onlyChannel c d && (s.buffers[d]).held.isSome)))
    (audit : t.audit = s.audit) (engines : t.engines = s.engines) : s.Removes (onlyChannel c) t where
  held := held
  kept := fun d => by
    rw [audit, if_neg]
    simp only [Bool.and_eq_true, onlyChannel_iff, not_and, Bool.not_eq_true]
    rintro rfl
    exact untaken
  queue := queue
  engines := fun e => by
    have stays : s.handAfter (onlyChannel c) = id := funext fun h => if_neg (by
      simp only [State.orphans, Bool.and_eq_true, onlyChannel_iff, not_and, and_imp]
      intro own waits
      rw [own, untaken] at waits
      cases waits)
    rw [engines, stays, Option.map_id, id]

/-- The frame in hand, once the frame of channel `c` that an engine had has been removed from the queue (R64). -/
def State.handWithout (s : State) (c : Channel) : Hand → Hand :=
  if (s.audit.kept[c]).isNone = true then Hand.withRole c .removed else id

/-- The channel's frame has left its held buffer and the queue, and an engine had it: with the result of the other kept,
that result goes with it, and otherwise the engine is to drop its own. -/
theorem removes_of_taken (taken : s.waitsTaken c = true)
    (held : ∀ d : Channel, (t.buffers[d]).held = if onlyChannel c d = true then none else (s.buffers[d]).held)
    (queue : t.queue = s.queue.filter (fun d => !(onlyChannel c d && (s.buffers[d]).held.isSome)))
    (kept : ∀ d : Channel, t.audit.kept[d] = if d = c then none else s.audit.kept[d])
    (engines : ∀ e, t.engines.get e = { s.engines.get e with hand := (s.engines.get e).hand.map (s.handWithout c) }) :
    s.Removes (onlyChannel c) t where
  held := held
  kept := fun d => by
    rw [kept]
    by_cases own : d = c
    · subst own
      rw [if_pos rfl, taken, if_pos (by simp)]
    · rw [if_neg own, if_neg (by simp [onlyChannel_ne own])]
  queue := queue
  engines := fun e => by
    rw [engines]
    refine congrArg (fun f => { s.engines.get e with hand := (s.engines.get e).hand.map f }) (funext fun h => ?_)
    by_cases own : h.frame.channel = c
    · have orphans : s.orphans (onlyChannel c) h.frame.channel = (s.audit.kept[c]).isNone := by
        rw [own, State.orphans, taken, onlyChannel_self, Bool.true_and, Bool.true_and]
      rw [State.handAfter, orphans, State.handWithout]
      split
      · exact if_pos own
      · rfl
    · have others : s.orphans (onlyChannel c) h.frame.channel = false := by
        rw [State.orphans, onlyChannel_ne own, Bool.false_and, Bool.false_and]
      rw [State.handAfter, others, if_neg Bool.false_ne_true, State.handWithout]
      split
      · exact if_neg own
      · rfl

theorem waitsTaken_of_held {f : Frame} (held : (s.buffers[c]).held = some f) :
    s.waitsTaken c = (decide (c ∈ s.queue) && (f.engines.e1 || f.engines.e2)) := by
  rw [State.waitsTaken, held, Option.any_some]

theorem queue_without_held {f : Frame} (held : (s.buffers[c]).held = some f) : s.queue.filter (fun d => d != c) =
    s.queue.filter (fun d => !(onlyChannel c d && (s.buffers[d]).held.isSome)) := by
  refine List.filter_congr fun d _ => ?_
  by_cases own : d = c
  · rw [own, held, onlyChannel_self]
    exact bne_self_eq_false c
  · rw [onlyChannel_ne own]
    exact bne_iff_ne.2 own

theorem removeBuffered_removes (sound : s.KeptSound) (c : Channel) : s.Removes (onlyChannel c) (s.removeBuffered c) := by
  cases held : (s.buffers[c]).held with
  | none =>
    rw [removeBuffered_of_empty held]
    refine removes_of_untaken (by rw [State.waitsTaken, held, Option.any_none, Bool.and_false]) (fun d => ?_)
      (List.filter_eq_self.2 fun d _ => ?_).symm rfl rfl
    · split
      · next own => rw [onlyChannel_iff.1 own, held]
      · rfl
    · by_cases own : d = c
      · rw [own, held, Option.isSome_none, Bool.and_false]
        rfl
      · rw [onlyChannel_ne own]
        rfl
  | some f =>
    have waits := waitsTaken_of_held held
    have gone : (((s.unheld c).dequeue c).buffers[c]).held = none := by
      rw [dequeue_buffers, unheld_held, if_pos (onlyChannel_self c)]
    have rest : ((s.unheld c).dequeue c).queue =
        s.queue.filter (fun d => !(onlyChannel c d && (s.buffers[d]).held.isSome)) := queue_without_held held
    by_cases queued : c ∈ s.queue
    · rw [decide_eq_true queued, Bool.true_and] at waits
      cases taken : f.engines.e1 || f.engines.e2 with
      | false =>
        rw [removeBuffered_of_untaken held queued taken]
        obtain ⟨buffers, queue⟩ := settle_of_empty gone f.joinOrder
        exact removes_of_untaken (waits.trans taken) (fun d => by rw [buffers]; exact unheld_held s c d)
          (queue.trans rest) (settle_audit _ c _) (settle_engines _ c _)
      | true =>
        cases kept : s.audit.kept[c] with
        | none =>
          rw [removeBuffered_of_running held queued taken kept]
          have first := setRole_changes ((s.unheld c).dequeue c) .e1 c .removed
          have changes := changes_trans first (setRole_changes _ .e2 c .removed)
          have buffers : _ = ((s.unheld c).dequeue c).buffers := changes .buffers (by decide)
          have audit : _ = s.audit := changes .audit (by decide)
          refine removes_of_taken (waits.trans taken) (fun d => by rw [buffers]; exact unheld_held s c d)
            ((changes .queue (by decide)).trans rest) (fun d => ?_) fun e => ?_
          · rw [audit]
            split
            · next own => rw [own, kept]
            · rfl
          · rw [State.handWithout, kept, if_pos Option.isNone_none]
            cases e with
            | e1 =>
              rw [setRole_get_ne _ (by decide), setRole_get]
              rfl
            | e2 =>
              rw [setRole_get, setRole_get_ne _ (by decide)]
              rfl
        | some k =>
          rw [removeBuffered_of_kept held queued taken kept]
          have channel : k.result.channel = c := sound c k kept
          unfold State.dropResult
          rw [channel]
          obtain ⟨buffers, queue⟩ := settle_of_empty (s := ((s.unheld c).dequeue c).setKept c none) gone k.result.join
          refine removes_of_taken (waits.trans taken) (fun d => by rw [buffers]; exact unheld_held s c d)
            (queue.trans rest) (fun d => ?_) fun e => ?_
          · rw [settle_audit]
            exact vector_getElem_set _ _ _ _
          · rw [settle_engines, State.handWithout, kept, if_neg (by simp), Option.map_id]
            rfl
    · rw [removeBuffered_of_unqueued held queued]
      rw [decide_eq_false queued, Bool.false_and] at waits
      refine removes_of_untaken waits (unheld_held s c) (List.filter_eq_self.2 fun d hd => ?_).symm rfl rfl
      have own : d ≠ c := fun own => queued (own ▸ hd)
      rw [onlyChannel_ne own]
      rfl

end

/-! ### The frames of all channels -/

theorem emptyChannel_removes (sound : s.KeptSound) (c : Channel) : s.Removes (onlyChannel c) (s.emptyChannel c) := by
  rw [emptyChannel_eq]
  have refilled : s.Removes (fun _ => false) (s.refilled c) := removes_of_same (fun d => by
    rw [refilled_buffers]
    split
    · next own => rw [own]
    · rfl) rfl rfl rfl
  have later := removes_trans (removeBuffered_removes (removes_keptSound refilled sound) c)
    (removes_of_changes (setRecord_changes _ c none) (by decide))
  exact removes_congr (removes_trans refilled later) fun d => (Bool.or_false _).symm

/-- The channels of `cs` that an activation empties. -/
def emptiedOf (old new : Plan) (cs : List Channel) (c : Channel) : Bool :=
  decide (c ∈ cs) && decide (old.Empties new c)

theorem activateChannel_removes (sound : s.KeptSound) {old p : Plan} (plan : s.plan = p) (c : Channel) :
    s.Removes (emptiedOf old p [c]) (State.activateChannel old s c) := by
  have disarm : ∀ u : State, u.Removes (fun _ => false) (u.disarm c) := fun u =>
    removes_of_changes (setConverter_changes u c _) (by decide)
  have disarmed : s.Removes (onlyChannel c) ((s.emptyChannel c).disarm c) :=
    removes_congr (removes_trans (emptyChannel_removes sound c) (disarm _)) fun d => (Bool.or_false _).symm
  have emptied : (old.Empties p c) → ∀ d, emptiedOf old p [c] d = onlyChannel c d := fun h d => by
    by_cases own : d = c
    · subst own
      simp [emptiedOf, h]
    · simp [emptiedOf, own, onlyChannel_ne own]
  have spared : ¬(old.Empties p c) → ∀ d, emptiedOf old p [c] d = false := fun h d => by
    by_cases own : d = c
    · subst own
      simp [emptiedOf, h]
    · simp [emptiedOf, own]
  unfold State.activateChannel
  rw [plan]
  cases case_ : old.channelCase p c with
  | unchanged =>
    exact removes_congr (removes_of_same (fun _ => rfl) rfl rfl rfl) (spared (by simp [Plan.Empties, case_]))
  | enabled =>
    have advanced : s.Removes (fun _ => false) (s.advanceEpoch c) := removes_of_same (fun d => by
      rw [State.advanceEpoch, setBuffers_buffers, vector_getElem_set]
      split
      · next own => rw [own]
      · rfl) rfl rfl rfl
    exact removes_congr (removes_trans advanced (disarm _)) (spared (by simp [Plan.Empties, case_]))
  | disabled => exact removes_congr disarmed (emptied (.inl case_))
  | changed =>
    refine removes_congr ?_ (emptied (.inr case_))
    dsimp only
    split
    · exact emptyChannel_removes sound c
    · exact disarmed

theorem activateChannels_removes {old p : Plan} (cs : List Channel) (s : State) (plan : s.plan = p)
    (sound : s.KeptSound) : s.Removes (emptiedOf old p cs) (cs.foldl (State.activateChannel old) s) := by
  induction cs generalizing s with
  | nil => exact removes_of_same (fun _ => rfl) rfl rfl rfl
  | cons c cs ih =>
    have first := activateChannel_removes (old := old) sound plan c
    have plan' : (State.activateChannel old s c).plan = p :=
      (plan_of_changes (activateChannels_changes old [c] s) (by decide)).trans plan
    refine removes_congr (removes_trans first (ih _ plan' (removes_keptSound first sound))) fun d => ?_
    by_cases own : d = c <;> simp [emptiedOf, own]

end Sys2Proof.Machine
end

section
/-! SUPPORT. An activation as a whole (R32 to R34, R64, R113 to R122, R144, R156, R157): the tests that it ends, the
channels, the frames, the sources, the verdicts and the notices. -/

namespace Sys2Proof.Machine

variable {s t u : State}

/-! ### The tests that end (R157) -/

theorem closeTestByPlan_sources (s : State) (g : Group) (c : Channel) : (s.closeTestByPlan g).sources[c] =
    if s.plan.groupOf c = g then .live else s.sources[c] := by
  rw [show (s.closeTestByPlan g).sources = (s.closeTest g .plan).sources from
    commitChecks_changes _ _ _ .sources (by decide)]
  exact Vector.getElem_ofFn _

theorem closeTestsByPlan_sources {c : Channel} (gs : List Group) :
    ∀ s : State, s.plan.groupOf c ∉ gs → (gs.foldl State.closeTestByPlan s).sources[c] = s.sources[c] := by
  induction gs with
  | nil => exact fun _ _ => rfl
  | cons g gs ih =>
    intro s apart
    rw [List.mem_cons, not_or] at apart
    obtain ⟨other, later⟩ := apart
    rw [List.foldl_cons, ih _ (by rw [closeTestByPlan_plan]; exact later), closeTestByPlan_sources, if_neg other]

theorem closeTestsByPlan_buffers {c : Channel} (gs : List Group) : ∀ s : State,
    (gs.foldl State.closeTestByPlan s).buffers[c] =
      if s.plan.groupOf c ∈ gs then { s.buffers[c] with fill := .idle } else s.buffers[c] := by
  induction gs with
  | nil => exact fun s => (if_neg List.not_mem_nil).symm
  | cons g gs ih =>
    intro s
    rw [List.foldl_cons, ih, closeTestByPlan_plan, closeTestByPlan_buffers]
    by_cases own : s.plan.groupOf c = g
    · simp only [own, if_true, List.mem_cons, true_or]
      split <;> rfl
    · simp only [own, if_false, List.mem_cons, false_or]

section
variable (s) (l : Link) (p : Plan) (n : Half)

/-- What follows the channels at an activation, as the frames and the converters see it. -/
theorem activate_changes_of_swapped : State.ChangesOnly [.checks, .sources, .tests, .ports, .buffers, .verdicts, .alert]
    (s.swapped l p n) (s.activate l p n) :=
  changes_trans (changes_mono (restarted_changes s l p n) (by decide))
    (changes_trans (changes_mono (testsClosed_changes s l p n) (by decide))
      (changes_mono (activate_changes_of_testsClosed s l p n) (by decide)))

theorem activate_plan : (s.activate l p n).plan = p :=
  (plan_of_changes (activate_changes_of_swapped s l p n) (by decide)).trans (swapped_plan s l p n)

/-- The activation, the new plan being active and the PLAN notice raised. -/
def State.planned (s : State) (l : Link) (p : Plan) (n : Half) : State :=
  ({ s with planStore := { active := p, generation := n, staging := .empty } } : State).raisePlan (some l) .sealed
    .activated n

theorem swapped_eq : s.swapped l p n = (List.finRange 16).foldl (State.activateChannel s.plan) (s.planned l p n) := rfl

theorem planned_changes : State.ChangesOnly [.planStore, .ports] s (s.planned l p n) :=
  changes_comp _ (with_planStore s _) (raisePlan_changes _ _ _ _ _) (by decide) (by decide)

theorem planned_plan : (s.planned l p n).plan = p := rfl



/-! ### The channels (R17, R32 to R34, R76) -/

/-- Which tests end is settled by the tests before the activation and by the new plan. -/
theorem planEndsTest_restarted (g : Group) : (s.restarted l p n).planEndsTest g = true ↔ s.endsTestOf p g := by
  rw [← mem_endedTests_iff s l p n g, List.mem_filter]
  exact (and_iff_right (List.mem_finRange g)).symm

theorem activate_buffers (c : Channel) : (s.activate l p n).buffers[c] =
    if (s.restarted l p n).planEndsTest (p.groupOf c) = true then { (s.swapped l p n).buffers[c] with fill := .idle }
    else (s.swapped l p n).buffers[c] := by
  have last : (s.activate l p n).buffers = (s.testsClosed l p n).buffers :=
    activate_changes_of_testsClosed s l p n .buffers (by decide)
  have first : (s.restarted l p n).buffers = (s.swapped l p n).buffers :=
    restarted_changes s l p n .buffers (by decide)
  rw [last, State.testsClosed, closeTestsByPlan_buffers, restarted_plan, first]
  simp only [List.mem_filter, List.mem_finRange, true_and]

/-- The end of a group's test reaches no channel that the new plan has enabled. -/
theorem activate_keepsChannel (c : Channel) : State.KeepsChannel p c (s.swapped l p n) (s.activate l p n) := by
  have changes := activate_changes_of_swapped s l p n
  have records : (s.activate l p n).records = (s.swapped l p n).records := changes .records (by decide)
  have converters : (s.activate l p n).converters = (s.swapped l p n).converters := changes .converters (by decide)
  have buffers := activate_buffers s l p n c
  by_cases ends : (s.restarted l p n).planEndsTest (p.groupOf c) = true
  · rw [if_pos ends] at buffers
    obtain ⟨-, unused⟩ := (planEndsTest_restarted s l p n _).1 ends
    have off : p.channels[c].enabled = false := Bool.eq_false_iff.2 fun on => unused ⟨c, on, rfl⟩
    refine ⟨by rw [records], by rw [converters], ?_, ?_, .inr ⟨?_, off⟩, .inl ?_⟩ <;> rw [buffers]
  · rw [if_neg ends] at buffers
    refine keepsChannel_of_same records converters ?_ (.inl ?_) <;> rw [buffers]
    exact ⟨rfl, rfl, rfl⟩

/-- The activation acts on each channel once. -/
theorem swapped_activated (c : Channel) : s.ChannelActivated (s.swapped l p n) c (s.plan.channelCase p c) := by
  obtain ⟨before, later, split⟩ := List.append_of_mem (List.mem_finRange c)
  have distinct : (before ++ c :: later).Nodup := split ▸ List.nodup_finRange 16
  have apart : c ∉ before ∧ c ∉ later := by
    have middle := List.nodup_middle.1 distinct
    rw [List.nodup_cons, List.mem_append, not_or] at middle
    exact middle.1
  obtain ⟨notBefore, notLater⟩ := apart
  have others : ∀ cs : List Channel, c ∉ cs → ∀ u : State,
      State.KeepsChannel p c u (cs.foldl (State.activateChannel s.plan) u) := fun cs h =>
    keepsChannel_foldl cs fun u d hd => activateChannel_keepsChannel s.plan u fun (own : c = d) => h (own ▸ hd)
  have plans : ∀ (cs : List Channel) (u : State), u.plan = p → (cs.foldl (State.activateChannel s.plan) u).plan = p :=
    fun cs u plan => (plan_of_changes (activateChannels_changes s.plan cs u) (by decide)).trans plan
  have found : State.KeepsChannel p c s (before.foldl (State.activateChannel s.plan) (s.planned l p n)) :=
    keepsChannel_trans (keepsChannel_of_changes (planned_changes s l p n) (by decide)) (others before notBefore _)
  have plan := plans before (s.planned l p n) rfl
  have acted := activateChannel_activated found plan
  rw [swapped_eq, split, List.foldl_append, List.foldl_cons]
  exact channelActivated_of_keeps acted (others later notLater _) (plans [c] _ plan)
    (plans later _ (plans [c] _ plan)) enabled_of_channelCase

theorem activate_activated (c : Channel) : s.ChannelActivated (s.activate l p n) c (s.plan.channelCase p c) :=
  channelActivated_of_keeps (swapped_activated s l p n c) (activate_keepsChannel s l p n c) (swapped_plan s l p n)
    (activate_plan s l p n) enabled_of_channelCase

/-! ### The frames (R33, R51, R55, R64) -/

theorem activate_removes (sound : s.KeptSound) :
    s.Removes (fun c => decide (s.plan.Empties p c)) (s.activate l p n) := by
  have first : s.Removes (fun _ => false) (s.planned l p n) :=
    removes_of_changes (planned_changes s l p n) (by decide)
  have channels : (s.planned l p n).Removes (emptiedOf s.plan p (List.finRange 16)) (s.swapped l p n) :=
    activateChannels_removes _ _ (planned_plan s l p n) (removes_keptSound first sound)
  have changes := activate_changes_of_swapped s l p n
  have later : (s.swapped l p n).Removes (fun _ => false) (s.activate l p n) := by
    refine removes_of_same (fun c => ?_) (changes .audit (by decide)) (changes .queue (by decide))
      (changes .engines (by decide))
    rw [activate_buffers]
    split <;> rfl
  exact removes_congr (removes_trans (removes_trans first channels) later) fun c => by simp [emptiedOf]

end

end Sys2Proof.Machine
end

section
/-! SUPPORT. The verdicts and the notices of an activation (R113 to R122, R144, R157), and the obligation. -/

namespace Sys2Proof.Machine

variable {s t u : State}

/-! ### The verdicts (R113, R115, R121, R122) -/

/-- An event that recomputes every group does not ask which checks have changed state. -/
theorem verdictsSet_of_all {change : Group → Verdict → Verdict} (h : u.VerdictsSet t (fun _ => true) change)
    (verdicts : u.verdicts = s.verdicts) : s.VerdictsSet t (fun _ => true) change := by
  obtain ⟨groups, alert⟩ := h
  refine ⟨fun g => ?_, ?_⟩
  · rw [← verdicts]
    simpa using groups g
  · have some : ∃ _ : Group, True := ⟨0, trivial⟩
    simpa [some] using alert

section
variable (s) (l : Link) (p : Plan) (n : Half)

theorem activate_verdictsSet : s.VerdictsSet (s.activate l p n) (fun _ => true)
    ((s.replanned l p n).activateVerdict (s.restarted l p n).planEndsTest) := by
  rw [activate_eq, activateVerdicts_eq_causeEvent]
  exact verdictsSet_of_all (u := s.replanned l p n) (causeEvent_verdictsSet (changes_refl causeParts _) _ _ _)
    (replanned_changes s l p n .verdicts (by decide))

theorem replanned_plan : (s.replanned l p n).plan = p :=
  (plan_of_changes (changes_comp [.sources, .tests, .ports, .buffers, .checks] (testsClosed_changes s l p n)
    (returnSources_changes _) (by decide) (by decide)) (by decide)).trans (restarted_plan s l p n)

theorem replanned_isBlind (g : Group) : (s.replanned l p n).isBlind g =
    decide ((s.trackers.get p.groups[g].ref).mode = .seeking ∧ p.groups[g].blind = .withdraw) := by
  have trackers : (s.replanned l p n).trackers = s.trackers := replanned_changes s l p n .trackers (by decide)
  simp only [State.isBlind, State.noLock, replanned_plan, trackers, Bool.decide_and]
  rfl

/-- A recomputation leaves UNPLANNED as it is, and so does an activation under a plan that protects the group. -/
theorem activate_unplanned (g : Group) : (s.activate l p n).verdicts[g].reasons.unplanned =
    (s.verdicts[g].reasons.unplanned || !p.protects g) := by
  obtain ⟨_, verdict⟩ := verdictsSet_forced (activate_verdictsSet s l p n) (g := g) rfl
  obtain ⟨-, -, -, unplanned⟩ := activateVerdict_reasons (s.replanned l p n) (s.restarted l p n).planEndsTest g
    ((s.activate l p n).recompute g s.verdicts[g])
  rw [verdict]
  refine unplanned.trans ?_
  rw [replanned_plan]
  rfl

/-! ### The tests and the sources (R156, R157) -/

theorem activate_tests (g : Group) : (s.activate l p n).tests[g] =
    if (s.restarted l p n).planEndsTest g = true then .idle else s.tests[g] := by
  have later : (s.activate l p n).tests = (s.replanned l p n).tests :=
    activateVerdicts_changes (s.replanned l p n) _ .tests (by decide)
  rw [later, replanned_tests]

theorem activate_sources (c : Channel) : (s.activate l p n).sources[c] =
    if (s.activate l p n).tests[p.groupOf c].isRunning = true then s.sources[c] else .live := by
  have closed : (s.testsClosed l p n).plan = p :=
    (plan_of_changes (testsClosed_changes s l p n) (by decide)).trans (restarted_plan s l p n)
  have tests : (s.activate l p n).tests = (s.testsClosed l p n).tests :=
    activate_changes_of_testsClosed s l p n .tests (by decide)
  have last : (s.activate l p n).sources = (s.replanned l p n).sources :=
    activateVerdicts_changes (s.replanned l p n) _ .sources (by decide)
  have source : (s.replanned l p n).sources[c] =
      if (s.testsClosed l p n).tests[(s.testsClosed l p n).plan.groupOf c].isRunning then
        (s.testsClosed l p n).sources[c]
      else .live := Vector.getElem_ofFn _
  have first : (s.restarted l p n).sources = s.sources :=
    (restarted_changes s l p n .sources (by decide)).trans (swapped_changes s l p n .sources (by decide))
  simp only [closed, ← tests] at source
  rw [last, source]
  split
  · next running =>
    have goesOn : p.groupOf c ∉ (List.finRange 4).filter (s.restarted l p n).planEndsTest := by
      rw [List.mem_filter, not_and]
      intro _ ends
      rw [activate_tests, if_pos ends] at running
      cases running
    rw [State.testsClosed, closeTestsByPlan_sources _ _ (by rw [restarted_plan]; exact goesOn), first]
  · rfl

/-! ### The notices (R144) -/

theorem planned_raised : s.Raised (s.planned l p n) [.plan (some l) .sealed .activated n] :=
  raised_of_offerAll fun l' => (raise_ports_get _ _ l').trans rfl

end

/-- The activation at a channel raises no notice. -/
theorem emptyChannel_raised (s : State) (c : Channel) : s.Raised (s.emptyChannel c) [] := by
  refine raised_of_ports (q := s.portRemoved c) (fun l => ?_) fun l => emptyChannel_ports_get s c l
  unfold State.portRemoved
  split
  · rfl
  · split
    · split
      · split
        · exact settled_keeps _ _
        · rfl
      · exact settled_keeps _ _
    · rfl

theorem activateChannel_raised (old : Plan) (s : State) (c : Channel) :
    s.Raised (State.activateChannel old s c) [] := by
  have clock : (s.emptyChannel c).clock = s.clock := emptyChannel_changes s c .clock (by decide)
  have disarm : ∀ u : State, u.Raised (u.disarm c) [] := fun _ => raised_nil_of_ports rfl
  have disarmed : s.Raised ((s.emptyChannel c).disarm c) [] :=
    raised_trans clock (emptyChannel_raised s c) (disarm _)
  unfold State.activateChannel
  split
  · exact raised_nil_of_ports rfl
  · exact raised_nil_of_ports rfl
  · exact disarmed
  · split
    · exact emptyChannel_raised s c
    · exact disarmed

theorem activateChannels_raised (old : Plan) (cs : List Channel) (s : State) :
    s.Raised (cs.foldl (State.activateChannel old) s) [] := by
  induction cs generalizing s with
  | nil => exact raised_nil_of_ports rfl
  | cons c cs ih =>
    have clock : (State.activateChannel old s c).clock = s.clock :=
      activateChannels_changes old [c] s .clock (by decide)
    exact raised_trans clock (activateChannel_raised old s c) (ih _)

/-- The CHECK notices of a replaced check table. -/
theorem commitChecks_raised (s : State) (new : CheckIx → CheckStatus) :
    let t := s.commitChecks new (fun i => s.groupCycle (s.plan.checkGroup i))
    s.Raised t (s.checkNotices t s.groupCycle) := by
  intro t
  refine raised_of_offerAll fun l => (commitChecks_ports_get s new _ l).trans ?_
  have plan : t.plan = s.plan := plan_of_changes (commitChecks_changes s new _) (by decide)
  have table : t.checks = Vector.ofFn new := commitChecks_checks s new _
  simp [State.checkNotices, checkNotice, plan, table]

/-- A plan that has its enabled checks on enabled channels has none in a group without an enabled channel. -/
def Plan.ChecksOnEnabled (p : Plan) : Prop :=
  ∀ i : CheckIx, p.checks[i].enabled = true → p.channels[p.checks[i].channel].enabled = true

/-- A group of which the plan has no channel enabled. -/
def Plan.Unused (p : Plan) (g : Group) : Prop := ¬∃ c : Channel, p.channels[c].enabled = true ∧ p.channels[c].group = g

theorem activateVerdicts_raised (s : State) (ended : Group → Bool) :
    s.Raised (s.activateVerdicts ended)
      (s.permitNotices (s.activateVerdicts ended) (s.activateVerdicts ended).groupCycle) := by
  have checks : (s.activateVerdicts ended).checks = s.checks := activateVerdicts_changes s ended .checks (by decide)
  have ports := fun l => causeEvent_ports_get (changes_refl causeParts s) (fun i => s.checks[i]) (fun _ => true)
    (s.activateVerdict ended) l
  rw [← activateVerdicts_eq_causeEvent] at ports
  refine raised_of_offerAll fun l => (ports l).trans ?_
  rw [checkNotices_eq_nil checks]
  rfl

section
variable {p : Plan} (covered : p.ChecksOnEnabled)
include covered

theorem checkGroup_ne_of_unused {g : Group} (unused : p.Unused g) {i : CheckIx} (on : p.checks[i].enabled = true) :
    p.checkGroup i ≠ g := fun own => unused ⟨p.checks[i].channel, covered i on, own⟩

/-- The end of the test of a group without an enabled channel resets no check. -/
theorem closeTestByPlan_eq (plan : s.plan = p) {g : Group} (unused : p.Unused g) :
    s.closeTestByPlan g = s.closeTest g .plan := by
  have plan' : (s.closeTest g .plan).plan = p :=
    (plan_of_changes (closeTest_changes s g .plan) (by decide)).trans plan
  have reset : (s.closeTest g .plan).resetChecks (fun g' => g' == g) = fun i => (s.closeTest g .plan).checks[i] := by
    funext i
    refine if_neg ?_
    rw [plan', Bool.and_eq_true, beq_iff_eq]
    exact fun ⟨on, own⟩ => checkGroup_ne_of_unused covered unused on own
  unfold State.closeTestByPlan
  dsimp only
  rw [reset, commitChecks_self]

theorem closeTestsByPlan_raised (gs : List Group) (unused : ∀ g ∈ gs, p.Unused g) : ∀ s : State, s.plan = p →
    s.Raised (gs.foldl State.closeTestByPlan s) (gs.map fun g => .test g .running .idle (.cause .plan)) := by
  induction gs with
  | nil => exact fun s _ => raised_nil_of_ports rfl
  | cons g gs ih =>
    intro s plan
    have changes := closeTestByPlan_changes s g
    have first : s.Raised (s.closeTestByPlan g) [.test g .running .idle (.cause .plan)] := by
      rw [closeTestByPlan_eq covered plan (unused g (.head _))]
      exact raised_of_offerAll (closeTest_ports_get s g .plan)
    exact raised_trans (changes .clock (by decide)) first
      (ih (fun g' h => unused g' (.tail _ h)) _ ((closeTestByPlan_plan s g).trans plan))

end

/-- The TEST notices of the tests that have ended between `s` and `t`, in increasing group number (R144; log entry 15). -/
def State.testEndNotices (s t : State) : List NoticeBody :=
  (List.finRange 4).filterMap (fun g =>
    if s.tests[g].isRunning = true ∧ t.tests[g] = .idle then some (.test g .running .idle (.cause .plan)) else none)

section
variable (s) (l : Link) (p : Plan) (n : Half)

theorem testEndNotices_activate : s.testEndNotices (s.activate l p n) =
    ((List.finRange 4).filter (s.restarted l p n).planEndsTest).map
      (fun g => NoticeBody.test g .running .idle (.cause .plan)) := by
  unfold State.testEndNotices
  refine Eq.symm ?_
  rw [← List.filterMap_eq_map, List.filterMap_filter]
  refine List.filterMap_congr fun g _ => ?_
  have ends := planEndsTest_restarted s l p n g
  have tests := activate_tests s l p n g
  by_cases own : (s.restarted l p n).planEndsTest g = true
  · obtain ⟨running, -⟩ := ends.1 own
    rw [if_pos own] at tests
    rw [if_pos own, if_pos ⟨running, tests⟩]
    rfl
  · rw [if_neg own] at tests
    rw [if_neg own, if_neg]
    rintro ⟨running, idle⟩
    rw [← tests, idle] at running
    cases running

/-- No check is reset by the tests that end. -/
theorem activate_checks_of_covered (covered : p.ChecksOnEnabled) :
    (s.activate l p n).checks = (s.restarted l p n).checks := by
  have same : ∀ i : CheckIx, (s.activate l p n).checks[i] = (s.restarted l p n).checks[i] := fun i => by
    refine activate_checks_of_not_ended s l p n ?_
    rintro ⟨on, -, unused⟩
    exact checkGroup_ne_of_unused covered unused on rfl
  exact Vector.ext fun i hi => same ⟨i, hi⟩

theorem restarted_raised : (s.swapped l p n).Raised (s.restarted l p n)
    ((s.swapped l p n).checkNotices (s.restarted l p n) (s.swapped l p n).groupCycle) := commitChecks_raised _ _

theorem testsClosed_raised (covered : p.ChecksOnEnabled) :
    (s.restarted l p n).Raised (s.testsClosed l p n) (s.testEndNotices (s.activate l p n)) := by
  rw [testEndNotices_activate]
  refine closeTestsByPlan_raised covered _ (fun g ends => ?_) _ (restarted_plan s l p n)
  obtain ⟨-, unused⟩ := (mem_endedTests_iff s l p n g).1 ends
  exact unused

/-- The verdict unit raises the PERMIT notices, last. -/
theorem activate_raised_of_testsClosed : (s.testsClosed l p n).Raised (s.activate l p n)
    (s.permitNotices (s.activate l p n) (s.activate l p n).groupCycle) := by
  have sources : (s.testsClosed l p n).Raised (s.replanned l p n) [] :=
    raised_nil_of_ports (returnSources_changes _ .ports (by decide))
  have clock : (s.replanned l p n).clock = (s.testsClosed l p n).clock := returnSources_changes _ .clock (by decide)
  have verdicts : (s.replanned l p n).verdicts = s.verdicts := replanned_changes s l p n .verdicts (by decide)
  have permits := activateVerdicts_raised (s.replanned l p n) (s.restarted l p n).planEndsTest
  rw [permitNotices_congr verdicts rfl] at permits
  exact raised_trans clock sources permits

theorem activate_raised (covered : p.ChecksOnEnabled) : s.Raised (s.activate l p n)
    ([.plan (some l) .sealed .activated n] ++ s.checkNotices (s.activate l p n) (s.activate l p n).groupCycle
      ++ s.testEndNotices (s.activate l p n)
      ++ s.permitNotices (s.activate l p n) (s.activate l p n).groupCycle) := by
  have swapped := swapped_changes s l p n
  have restarted := restarted_changes s l p n
  have closed := testsClosed_changes s l p n
  have later := activate_changes_of_swapped s l p n
  have cycle : (s.activate l p n).groupCycle = (s.swapped l p n).groupCycle :=
    groupCycle_congr (later .trackers (by decide)) (later .planStore (by decide))
  have table : (s.restarted l p n).checks = (s.activate l p n).checks := (activate_checks_of_covered s l p n covered).symm
  have plan : (s.restarted l p n).plan = (s.activate l p n).plan :=
    (restarted_plan s l p n).trans (activate_plan s l p n).symm
  have before : (s.swapped l p n).checks = s.checks := swapped .checks (by decide)
  have checks : (s.swapped l p n).checkNotices (s.restarted l p n) (s.swapped l p n).groupCycle =
      s.checkNotices (s.activate l p n) (s.activate l p n).groupCycle :=
    (checkNotices_congr before table plan _).trans (by rw [cycle])
  have channels : s.Raised (s.swapped l p n) [.plan (some l) .sealed .activated n] :=
    raised_trans (planned_changes s l p n .clock (by decide)) (planned_raised s l p n) (activateChannels_raised _ _ _)
  have clock : (s.swapped l p n).clock = s.clock := swapped .clock (by decide)
  have clock' : (s.restarted l p n).clock = s.clock := (restarted .clock (by decide)).trans clock
  have checkPart := restarted_raised s l p n
  rw [checks] at checkPart
  have clock'' : (s.testsClosed l p n).clock = s.clock := (closed .clock (by decide)).trans clock'
  have early := raised_trans clock channels checkPart
  have tests := raised_trans clock' early (testsClosed_raised s l p n covered)
  exact raised_trans clock'' tests (activate_raised_of_testsClosed s l p n)

end

/-! ### What has become of the buffered frames (R33, R51, R55, R64) -/

section
variable {p : Plan} (removes : s.Removes (fun c => decide (s.plan.Empties p c)) t)
include removes

/-- A channel that the activation does not empty keeps its frame, its place and its kept result. -/
theorem buffered_of_spares {c : Channel} (spares : s.plan.Spares p c) :
    (t.buffers[c]).held = (s.buffers[c]).held ∧ t.audit.kept[c] = s.audit.kept[c] ∧ (c ∈ t.queue ↔ c ∈ s.queue) := by
  have stays : decide (s.plan.Empties p c) = false := decide_eq_false ((not_empties_iff _ _ c).2 spares)
  refine ⟨?_, ?_, ?_⟩
  · rw [removes.held, stays]
    rfl
  · rw [removes.kept, stays]
    rfl
  · rw [removes.queue, List.mem_filter, stays]
    exact and_iff_left rfl

/-- A channel that it does empty loses the place of its frame, and the result kept of it. -/
theorem buffered_of_empties {c : Channel} (empties : s.plan.Empties p c) {f : Frame}
    (held : (s.buffers[c]).held = some f) : c ∉ t.queue ∧
    (c ∈ s.queue → (f.engines.e1 || f.engines.e2) = true → t.audit.kept[c] = none ∧
      (s.audit.kept[c] = none → ∀ e h, (s.engines.get e).hand = some h → h.frame.channel = c →
        (t.engines.get e).hand = some { h with role := .removed })) := by
  have gone : decide (s.plan.Empties p c) = true := decide_eq_true empties
  refine ⟨fun queued => ?_, fun queued taken => ?_⟩
  · rw [removes.queue, List.mem_filter, gone, held] at queued
    obtain ⟨-, absent⟩ := queued
    cases absent
  · have waits : s.waitsTaken c = true := by
      rw [waitsTaken_of_held held, decide_eq_true queued, taken]
      rfl
    refine ⟨?_, fun unkept e h hand own => ?_⟩
    · rw [removes.kept, gone, waits]
      rfl
    · subst own
      have orphans : s.orphans (fun c => decide (s.plan.Empties p c)) h.frame.channel = true := by
        dsimp only [State.orphans]
        rw [gone, waits, unkept]
        rfl
      rw [removes.engines, hand]
      exact congrArg some (if_pos orphans)

theorem engines_of_removes (e : Engine) : t.engines.get e =
    { s.engines.get e with hand := (s.engines.get e).hand.map (fun h =>
        let c := h.frame.channel
        if (s.plan.channelCase p c = .disabled ∨ s.plan.channelCase p c = .changed) ∧ c ∈ s.queue ∧
            (s.buffers[c]).held.any (fun f => f.engines.e1 || f.engines.e2) = true ∧ s.audit.kept[c] = none then
          { h with role := .removed } else h) } := by
  rw [removes.engines]
  refine congrArg (fun f => { s.engines.get e with hand := (s.engines.get e).hand.map f }) (funext fun h => ?_)
  unfold State.handAfter
  refine if_congr ?_ rfl rfl
  simp only [State.orphans, State.waitsTaken, Bool.and_eq_true, decide_eq_true_eq, Option.isNone_iff_eq_none, and_assoc]

/-- In a sound queue every frame is in its held buffer, so the emptied channels leave it. -/
theorem queue_of_removes (queue : s.QueueSound) :
    t.queue = s.queue.filter (fun c => decide (s.plan.Spares p c)) := by
  rw [removes.queue]
  refine List.filter_congr fun c queued => ?_
  obtain ⟨f, held, -⟩ := queue.queued c queued
  have spares := not_empties_iff s.plan p c
  rw [held, Option.isSome_some, Bool.and_true, ← decide_not]
  exact decide_eq_decide.2 spares

end

/-- The change that an activation makes to a group's verdict beside the recomputation, as the obligation has it. -/
theorem activateVerdict_eq (s : State) (l : Link) (p : Plan) (n : Half) :
    (s.replanned l p n).activateVerdict (s.restarted l p n).planEndsTest = fun g v =>
      let ended := s.tests[g].isRunning = true ∧ ¬∃ c : Channel, p.channels[c].enabled = true ∧ p.channels[c].group = g
      let w := if ended then v.afterTest else v
      { w with reasons := { w.reasons with
        unplanned := if p.protects g = true then w.reasons.unplanned else true
        blind := decide ((s.trackers.get p.groups[g].ref).mode = .seeking ∧ p.groups[g].blind = .withdraw) } } := by
  funext g v
  have ends := planEndsTest_restarted s l p n g
  have test : (if (s.restarted l p n).planEndsTest g = true then v.endTest else v) =
      if s.tests[g].isRunning = true ∧ ¬∃ c : Channel, p.channels[c].enabled = true ∧ p.channels[c].group = g then
        v.afterTest else v := by
    rw [endTest_eq_afterTest]
    exact if_congr ends rfl rfl
  unfold State.activateVerdict Verdict.setBlind
  dsimp only
  rw [replanned_isBlind, replanned_plan, test]
  cases p.protects g <;> simp

/-- Settles O35: an activation acts on each channel apart, and the frames, the tests, the verdicts and the notices follow
from its parts one after the other. -/
theorem secondAcceptActivates : Obligations.SecondAcceptActivates := by
  intro l l' w tag p n s ready protection other staging
  have ends : ∀ g, (s.restarted l p n).planEndsTest g = true ↔ s.tests[g].isRunning = true ∧
      ¬∃ c : Channel, p.channels[c].enabled = true ∧ p.channels[c].group = g := planEndsTest_restarted s l p n
  have removes := activate_removes s l p n
  have verdicts := activate_verdictsSet s l p n
  rw [activateVerdict_eq] at verdicts
  have unplanned := activate_unplanned s l p n
  have tests := activate_tests s l p n
  refine ⟨s.activate l p n, exec_acceptPlan_of_second tag ready protection other staging, activate_planStore s l p n,
    activate_activated s l p n, fun kept => ⟨fun c spares => buffered_of_spares (removes kept) spares,
      fun c empties f held => buffered_of_empties (removes kept) empties held, engines_of_removes (removes kept)⟩,
    fun kept queue => queue_of_removes (removes kept) queue, activate_sources s l p n, verdicts, fun g off => ?_,
    fun g on => ?_, fun g => ?_, activate_raised s l p n, changes_mono (activate_changes s l p n) (by decide)⟩
  · rw [unplanned, off, Bool.not_false, Bool.or_true]
  · rw [unplanned, on, Bool.not_true, Bool.or_false]
  · rw [tests]
    exact if_congr (ends g) rfl rfl

end Sys2Proof.Machine
end
